-- ==== Sys2Proof/Word.lean ====
section
/-! DEFINITION. The word types of the B412: a byte of a loop frame and a show-clock reading.

Only what the manual treats as bits is a bit vector: the data byte of a loop character (R1), the 32-bit
show clock (R23), the attention set with its new marks (R215) and the bit masks of zones, areas and phases
(R221). Counts, levels, positions and durations are exact integers ("Arithmetic", 00_scope.md). -/

namespace Sys2Proof

/-- The data bits of one loop character (R1). -/
abbrev Byte := BitVec 8

/-- A reading of the show clock: milliseconds modulo 2^32 (R23). -/
abbrev Time := BitVec 32

end Sys2Proof
end

