-- ==== Sys2Proof/Syntax.lean ====
section
/-! DEFINITION. The commands the block takes: one constructor of `Instr` for each row of
spec/opcode_table.json, in the table's order, with the row's operands.

A row is either an event at the part's ports (a character at loop IN, a contact line sample, power), an expiry of
one of its timers, a completion, or a management command. A management command carries the source node and the
sequence number of its COMMAND frame (R204, R205) and its argument bytes as the layouts give them (R221). -/

namespace Sys2Proof

/-- One character at loop IN (R1): its eight data bits, its mark bit, and whether its stop bit is 1 (a
character whose stop bit is 0 is a framing error). -/
structure Character where
  data : Byte
  mark : Bool
  stopBit : Bool
  deriving DecidableEq, Repr

/-- The four states the front end resolves a contact line into (2.2, R27): NORMAL, ACTIVE, OPEN, SHORT. -/
inductive LineState where
  | normal
  | active
  | opened
  | shorted
  deriving DecidableEq, Repr

/-- The source node and the sequence number of a COMMAND frame (R204, R221). -/
structure CommandHeader where
  source : Byte
  sequence : Byte
  deriving DecidableEq, Repr

/-- The commands of the block, one per row of spec/opcode_table.json. -/
inductive Instr where
  /-- POWER_ON (R219): power returns with the node straps at this value (R12). -/
  | powerOn (straps : BitVec 7)
  /-- FRAME_ABANDONMENT (R7): a character that abandons the frame in assembly. -/
  | frameAbandonment (character : Character)
  /-- GAP_TIMER_EXPIRY (R7). -/
  | gapTimerExpiry
  /-- FRAME_COMPLETION (R8): the character that is the frame's CRC low byte. -/
  | frameCompletion (character : Character)
  /-- SEND_COMPLETION (R17): the last CRC character has been sent. -/
  | sendCompletion
  /-- RING_TIMER_EXPIRY (R20). -/
  | ringTimerExpiry
  /-- CONTACT_ACCEPTANCE (R29): the sample of a line 0–7 that completes the persistence of the line's candidate state. -/
  | contactAcceptance (line : Nat)
  /-- PRESCALER_WRAP (R51). -/
  | prescalerWrap
  /-- REFRESH_CHECK (R92). -/
  | refreshCheck
  /-- SILENCE_TIMER_EXPIRY (R80) of a governed channel. -/
  | silenceTimerExpiry (segment channel : Nat)
  /-- FADE_STEP (R83) of a group 0–7. -/
  | fadeStep (group : Nat)
  /-- VERIFICATION_EXPIRY (R107) of a zone 0–47. -/
  | verificationExpiry (zone : Nat)
  /-- STALENESS_EXPIRY (R109) of a zone 0–47. -/
  | stalenessExpiry (zone : Nat)
  /-- WINDOW_EXPIRY (R116) of a window 0–15. -/
  | windowExpiry (window : Nat)
  /-- DEAD_TIME_EXPIRY (R135). -/
  | deadTimeExpiry
  /-- DRIVE_REPEAT_EXPIRY (R128). -/
  | driveRepeatExpiry
  /-- RAISE_TIMER_EXPIRY (R138). -/
  | raiseTimerExpiry
  /-- POSITION_STALE_EXPIRY (R131). -/
  | positionStaleExpiry
  /-- EMERGENCY_STALE_EXPIRY (R131). -/
  | emergencyStaleExpiry
  /-- FLOW_TIMER_EXPIRY (R148). -/
  | flowTimerExpiry
  /-- DWELL_EXPIRY (R162). -/
  | dwellExpiry
  /-- CALL_LAPSE (R178) of the queued instance of a call id. -/
  | callLapse (id : Nat)
  /-- PLAYER_TIMER_EXPIRY (R185). -/
  | playerTimerExpiry
  /-- SEGMENT_TIMER_EXPIRY (R196) of a generator 0–3. -/
  | segmentTimerExpiry (generator : Nat)
  /-- NOTICE_TIMER_EXPIRY (R217). -/
  | noticeTimerExpiry
  /-- STORE_COMPLETION (R218). -/
  | storeCompletion
  /-- UNKNOWN_COMMAND (R204): a COMMAND frame's payload as received, from a source node. -/
  | unknownCommand (source : Byte) (payload : List Byte)
  /-- RDST (R207): section. -/
  | rdst (header : CommandHeader) (section_ : Byte)
  /-- ACKA (R216): mask. -/
  | acka (header : CommandHeader) (mask : BitVec 16)
  /-- RDZN (R208): selector, first number. -/
  | rdzn (header : CommandHeader) (selector first : Byte)
  /-- RDQU (R208). -/
  | rdqu (header : CommandHeader)
  /-- RDRP (R209): index. -/
  | rdrp (header : CommandHeader) (index : Byte)
  /-- RDTB (R210): table code, index. -/
  | rdtb (header : CommandHeader) (table index : Byte)
  /-- LDPO (R76): the entry bytes. -/
  | ldpo (header : CommandHeader) (entries : List Byte)
  /-- LDCU (R61): the entry bytes. -/
  | ldcu (header : CommandHeader) (entries : List Byte)
  /-- LDZN (R99, R101): the entry bytes. -/
  | ldzn (header : CommandHeader) (entries : List Byte)
  /-- LDCL (R172): the entry bytes. -/
  | ldcl (header : CommandHeader) (entries : List Byte)
  /-- LDPT (R192): the entry bytes. -/
  | ldpt (header : CommandHeader) (entries : List Byte)
  /-- LDRT (R169): the entry bytes. -/
  | ldrt (header : CommandHeader) (entries : List Byte)
  /-- LDPF (R214): the entry bytes. -/
  | ldpf (header : CommandHeader) (entries : List Byte)
  /-- CLTB (R213): table code. -/
  | cltb (header : CommandHeader) (table : Byte)
  /-- STTB (R218). -/
  | sttb (header : CommandHeader)
  /-- RSTR (R220). -/
  | rstr (header : CommandHeader)
  /-- BGPF (R38): performance number, curtain-up countdown. -/
  | bgpf (header : CommandHeader) (number countdown : BitVec 16)
  /-- OPHS (R39). -/
  | ophs (header : CommandHeader)
  /-- HOLD (R40). -/
  | hold (header : CommandHeader)
  /-- RLHD (R41). -/
  | rlhd (header : CommandHeader)
  /-- STCD (R53): value. -/
  | stcd (header : CommandHeader) (value : BitVec 16)
  /-- PHSE (R49): target phase code, act, interval countdown. -/
  | phse (header : CommandHeader) (target act : Byte) (interval : BitVec 16)
  /-- SHST (R54). -/
  | shst (header : CommandHeader)
  /-- SHRS (R54). -/
  | shrs (header : CommandHeader)
  /-- EVRS (R48). -/
  | evrs (header : CommandHeader)
  /-- ENPF (R46). -/
  | enpf (header : CommandHeader)
  /-- CLWR (R133). -/
  | clwr (header : CommandHeader)
  /-- CRSE (R137). -/
  | crse (header : CommandHeader)
  /-- CSTP (R139). -/
  | cstp (header : CommandHeader)
  /-- CCLR (R147). -/
  | cclr (header : CommandHeader)
  /-- DEMO (R158). -/
  | demo (header : CommandHeader)
  /-- HFAD (R82): group, level, time in 0.1 s. -/
  | hfad (header : CommandHeader) (group : Byte) (level time : BitVec 16)
  /-- HREL (R84): group. -/
  | hrel (header : CommandHeader) (group : Byte)
  /-- HTAK (R85): group. -/
  | htak (header : CommandHeader) (group : Byte)
  /-- ZISO (R112): zone. -/
  | ziso (header : CommandHeader) (zone : Byte)
  /-- ZRST (R113): zone. -/
  | zrst (header : CommandHeader) (zone : Byte)
  /-- ARST (R114): zone 0–48, or FFh for ALL. -/
  | arst (header : CommandHeader) (zone : Byte)
  /-- WOPN (R115): window. -/
  | wopn (header : CommandHeader) (window : Byte)
  /-- WCLS (R117): window. -/
  | wcls (header : CommandHeader) (window : Byte)
  /-- CALN (R174): call id. -/
  | caln (header : CommandHeader) (id : Byte)
  /-- CALX (R188): call id. -/
  | calx (header : CommandHeader) (id : Byte)
  /-- RPLN (R170): plan group, plan code. -/
  | rpln (header : CommandHeader) (group plan : Byte)
  /-- CHARACTER_RECEIPT (R6): a character at loop IN that neither abandons nor completes a frame. -/
  | characterReceipt (character : Character)
  /-- CONTACT_SAMPLE (R28): the state a line 0–7 is sampled in, its persistence not completed. -/
  | contactSample (line : Nat) (sample : LineState)
  /-- SHOW_CLOCK_ADVANCE (R23). -/
  | showClockAdvance
  /-- POWER_LOSS (R218, R200). -/
  | powerLoss
  deriving DecidableEq, Repr

end Sys2Proof
end

