-- ==== Sys2Proof/Decode.lean ====
section
/-! DEFINITION. The decoder of table words. No row of spec/opcode_table.json gives bits: a command is not spelled by a word
of the table (log entry 38). A COMMAND frame's payload is decoded in Machine/LoopIn.lean, `commandOf` (R204, R205). -/

/-- The command that a word spells by the table's bits: none, since no row of the table gives any. -/
def Sys2Proof.decodeTableWord (_nbits _w : Nat) : Option Sys2Proof.Instr := none
end

