-- ==== Sys2Proof/Config.lean ====
section
/-! DEFINITION. What the part fixes once (queue and table capacities) and the free values: constants
without a body, for results the manual does not state. A claim about a free value holds whatever it is. -/

namespace Sys2Proof.Config

/-- Frames the forward queue holds at most (R13). -/
def forwardCapacity : Nat := 8

/-- Frames the origin queue holds at most (R14). -/
def originCapacity : Nat := 16

/-- Entries the performance report holds at most (R57). -/
def reportCapacity : Nat := 128

/-- Instances the call queue holds at most (R175). -/
def callCapacity : Nat := 16

/-- Entries the channel policy table holds at most (R76). -/
def policyCapacity : Nat := 96

/-- Entries the cue table holds at most (R61). -/
def cueCapacity : Nat := 256

/-- Payload bytes of a frame at most (R221). -/
def payloadMax : Nat := 240

/-- Pairs of one refresh frame at most (R93). -/
def refreshPairs : Nat := 79

/-- FREE VALUE (log entry 19). R168 gives the in-auditorium field the values yes and no, R221 gives it one
byte, and no rule says what a loaded byte other than 00h and 01h means. -/
opaque inAuditorium : Byte → Bool

/-- FREE VALUE (log entry 20). R130 says what a POS under local control gives with the moving-down flag and
with the moving-up flag; no rule says which of the two a POS with both set gives. True is LOWERING. The
arguments are the reading and the position of the POS, so that two POS frames need not agree. -/
opaque bothMotionsLower : Time → Nat → Bool

/-- FREE VALUE (log entry 16). R179 puts the priority into the CALL entry of a refused request; a request
whose id has no definition has no priority, and no rule states the byte. The arguments are the reading and
the id. -/
opaque undefinedCallPriority : Time → Nat → Byte

/-- FREE VALUE (log entry 39). The stale mark byte of PANEL's item in an RDZN reply: R208 gives PANEL its state and last
condition, R221 gives every zone item a stale mark byte, and PANEL has no stale mark. The argument is the reading. -/
opaque panelStaleMark : Time → Byte

/-- FREE VALUE (log entry 39). The remaining verification time of PANEL's item in an RDZN reply: PANEL has no
verification timer. The argument is the reading. -/
opaque panelVerification : Time → BitVec 16

end Sys2Proof.Config
end

