-- ==== Sys2Proof/Machine/State.lean ====
section
/-! DEFINITION. The state of the B412 as plain data, block by block as the chapters give it, the default profile
and the state after reset.

Each block of the block overview (00_scope.md) owns one structure. A field that is the model's own and not the
manual's says so in its docstring and names its log entry. -/

namespace Sys2Proof.Machine

/-! ## Time -/

/-- A running timer: its start reading and its length in milliseconds (R25). A stopped timer is `none`. -/
structure Timer where
  start : Time
  length : Nat
  deriving DecidableEq, Repr

/-! ## Loop Port Unit (chapter 1) -/

/-- A frame without its CRC (1.2): header and payload; the length is the payload's. -/
structure Frame where
  dest : Byte
  source : Byte
  kind : Byte
  payload : List Byte
  deriving DecidableEq, Repr

/-- The receive assembler's states (1.3). -/
inductive AssemblerState where
  | hunt
  | header
  | payload
  | check
  deriving DecidableEq, Repr

/-- A span of the loop line rate that is running: its start reading and its length in cycles of the 48 MHz timebase,
88 × (D + 1) for each character (R2). -/
structure LineTimer where
  start : Time
  cycles : Nat
  deriving DecidableEq, Repr

/-- A frame of the origin queue with its urgent mark (R14). -/
structure OriginFrame where
  frame : Frame
  urgent : Bool
  deriving DecidableEq, Repr

/-- The frame being sent at OUT, as its send start fixed it (R19): the bytes, their CRC, the reading of the
send start and the N + 6 character times at the divisor in use (R17). -/
structure Sending where
  frame : Frame
  crc : BitVec 16
  span : LineTimer
  deriving DecidableEq, Repr

/-- The ring monitor's states OK and OPEN (R20). -/
inductive RingState where
  | ok
  | broken
  deriving DecidableEq, Repr

/-- The Loop Port Unit (chapter 1). -/
structure LoopPort where
  assembler : AssemblerState
  /-- The characters of the frame in assembly, first received first. -/
  assembly : List Byte
  gapTimer : Option LineTimer
  /-- Consecutive-bad-frame count, 0–8 (R9). -/
  badFrames : Nat
  /-- Forward queue, head first (R13). -/
  forward : List Frame
  /-- Origin queue, oldest first (R14). -/
  origin : List OriginFrame
  /-- OUT port: FREE is `none`, SENDING holds the frame being sent (R17). -/
  sending : Option Sending
  /-- Forward-run count, 0–4 (R18). -/
  forwardRun : Nat
  /-- Line divisor in use at IN (R2). -/
  inDivisor : Nat
  /-- Line divisor in use at OUT (R2). -/
  outDivisor : Nat
  /-- The strap value read at power-on: the node number when it is 1–126 (R12). -/
  node : BitVec 7
  ring : RingState
  ringTimer : Option Timer
  /-- Relay K7, loop healthy (R21). -/
  k7 : Bool
  deriving DecidableEq, Repr

/-! ## Contact Line Unit (chapter 2) -/

/-- The two edges of a line (R30). -/
inductive Edge where
  | activate
  | deactivate
  deriving DecidableEq, Repr

/-- A line's edge selection (R27). -/
inductive EdgeSelection where
  | activate
  | deactivate
  | both
  deriving DecidableEq, Repr

/-- The reading of a line (R33). -/
inductive Reading where
  | normal
  | active
  | fault
  deriving DecidableEq, Repr

/-- The last capture of a line (R30). -/
structure Capture where
  time : Time
  edge : Edge
  deriving DecidableEq, Repr

/-- The record of a contact line (R27). -/
structure Line where
  accepted : LineState
  candidate : Option LineState
  /-- Persistence count, 0–15. -/
  count : Nat
  capture : Option Capture
  reading : Reading
  deriving DecidableEq, Repr

/-! ## The performance record (chapter 3) -/

/-- The eight phases (3.2). -/
inductive Phase where
  | closed
  | preshow
  | houseOpen
  | held
  | running
  | interval
  | egress
  | evacuating
  deriving DecidableEq, Repr

/-- The reasons of a FAILED demonstration (8.3). -/
inductive DemoReason where
  | slow
  | unverified
  | houseDark
  | obstructed
  | alarm
  | stopped
  | fault
  deriving DecidableEq, Repr

/-- The demonstration status (R36, 8.3). -/
inductive DemoStatus where
  | notDone
  | lowering
  | dwell
  | raising
  | passed
  | failed (reason : DemoReason)
  | missed
  deriving DecidableEq, Repr

/-- The kinds of report entry (R56). -/
inductive ReportKind where
  | phase
  | hold
  | demo
  | alarm
  | zone
  | curtain
  | call
  | cueRefused
  | contact
  | mark
  | table
  deriving DecidableEq, Repr

/-- An entry of the performance report (R56), its data bytes as the layouts give them (R221). -/
structure ReportEntry where
  time : Time
  kind : ReportKind
  data : List Byte
  deriving DecidableEq, Repr

/-- The Phase Unit (R36). -/
structure PhaseUnit where
  phase : Phase
  /-- Performance number: 0 (none), 1–9999. -/
  number : Nat
  /-- Act, 0–5. -/
  act : Nat
  heldFrom : Option Phase
  saved : Option Phase
  /-- Curtain-up countdown, 0–7200 s. -/
  curtainUp : Nat
  /-- Interval countdown, 0–3600 s. -/
  intervalLeft : Nat
  /-- Prescaler, 0–999 ms (R50). -/
  prescaler : Nat
  /-- The model's own (log entry 6): the prescaler has become 0 and the wrap event has not been taken. -/
  wrapDue : Bool
  holdPending : Bool
  showStop : Bool
  demoStatus : DemoStatus
  /-- Demonstration descent time, 0–65535 ms. -/
  demoTime : Nat
  /-- Performance report, oldest first (R57). -/
  report : List ReportEntry
  /-- Lost count, 0–255. -/
  lost : Nat
  fullMarker : Bool
  deriving DecidableEq, Repr

/-! ## Cue Unit (chapter 4) -/

/-- The actions of a cue table entry (R60). -/
inductive CueAction where
  | phase (target : Phase) (act : Nat)
  | hfade (group level time : Nat)
  | wopen (window : Nat)
  | wclose (window : Nat)
  | call (id : Nat)
  | demo
  | mark (value : Byte)
  deriving DecidableEq, Repr

/-- A cue table entry (R60): its key (list, cue number in tenths) and its actions. -/
structure CueEntry where
  list : Nat
  cue : Nat
  actions : List CueAction
  deriving DecidableEq, Repr

/-- The execution record (R59, R63). -/
structure Execution where
  actions : List CueAction
  list : Nat
  cue : Nat
  arrival : Time
  /-- Position of the next action, 1–4. -/
  next : Nat
  deriving DecidableEq, Repr

/-- The Cue Unit (R59). -/
structure CueUnit where
  /-- Cue table in ascending key order. -/
  table : List CueEntry
  execution : Option Execution
  deriving DecidableEq, Repr

/-! ## House Light Unit (chapter 5) -/

/-- The roles of a governed channel (R75). -/
inductive Role where
  | house
  | aisle
  | stageWork
  | effect
  deriving DecidableEq, Repr

/-- A policy entry's definition (R75). Group, merge rule and window keep the loaded byte, since a field its role
does not use is held as loaded. -/
structure PolicyDef where
  segment : Nat
  channel : Nat
  role : Role
  group : Byte
  merge : Byte
  floor : Byte
  window : Byte
  alarm : Byte
  deriving DecidableEq, Repr

/-- A policy entry: its definition and its runtime fields (R77). -/
structure PolicyEntry where
  defn : PolicyDef
  lastLevel : Byte
  lastConsole : Option Time
  /-- Silence timer: running, or expired when `none` (R80). -/
  silence : Option Timer
  lastOutput : Option Time
  deriving DecidableEq, Repr

/-- The owner of a house group (R81). -/
inductive Owner where
  | part
  | console
  deriving DecidableEq, Repr

/-- A fade record (R81): start level L0, target T, total steps n, step index i. -/
structure Fade where
  start : Nat
  target : Nat
  steps : Nat
  index : Nat
  deriving DecidableEq, Repr

/-- A house group (R81). -/
structure Group where
  /-- Level, 0–65535. -/
  level : Nat
  owner : Owner
  fade : Option Fade
  stepTimer : Option Timer
  deriving DecidableEq, Repr

/-- The House Light Unit (R74). -/
structure HouseLights where
  /-- Channel policy table in ascending key order. -/
  policy : List PolicyEntry
  groups : Vector Group 8
  refreshTimer : Timer
  /-- Relay K4, house emergency lighting (R96). -/
  k4 : Bool
  deriving DecidableEq, Repr

/-! ## Zone Monitor (chapter 6) -/

/-- The side of a zone (R98). -/
inductive Side where
  | stage
  | house
  | front
  deriving DecidableEq, Repr

/-- The conditions a zone report carries (R103). -/
inductive Condition where
  | clear
  | prealarm
  | alarm
  | fault
  deriving DecidableEq, Repr

/-- The zone states (R98, R102). -/
inductive ZoneState where
  | normal
  | prealarm
  | verifying
  | masked
  | confirmed
  | faultReported
  | faultStale
  | isolated
  deriving DecidableEq, Repr

/-- A zone's definition (R98). -/
structure ZoneDef where
  side : Side
  /-- Verification time, 0–600 in 0.1 s. -/
  verification : Nat
  partner : Option Nat
  deriving DecidableEq, Repr

/-- A defined zone with its runtime fields (R98). -/
structure Zone where
  defn : ZoneDef
  state : ZoneState
  last : Condition
  lastReport : Time
  stale : Bool
  verifyTimer : Option Timer
  staleTimer : Option Timer
  deriving DecidableEq, Repr

/-- The pseudo-zone PANEL, number 48 (R97, R111). -/
structure Panel where
  state : ZoneState
  last : Condition
  deriving DecidableEq, Repr

/-- A window's definition (R100). -/
structure WindowDef where
  /-- Maximum duration, 1–600 s. -/
  duration : Nat
  zones : BitVec 48
  deriving DecidableEq, Repr

/-- A window (R100): CLOSED is `isOpen = false`. -/
structure Window where
  defn : Option WindowDef
  isOpen : Bool
  timer : Option Timer
  deriving DecidableEq, Repr

/-- The alarm condition record (R120); the confirmed set in ascending zone order, PANEL being 48. -/
structure AlarmRecord where
  confirmed : List Nat
  stage : Bool
  house : Bool
  front : Bool
  prealarm : Bool
  fault : Bool
  deriving DecidableEq, Repr

/-- The Zone Monitor (R97). -/
structure ZoneMonitor where
  zones : Vector (Option Zone) 48
  panel : Panel
  windows : Vector Window 16
  alarm : AlarmRecord
  deriving DecidableEq, Repr

/-! ## Curtain Supervisor (chapters 7 and 8) -/

/-- The curtain states (R125); `atFloor` is IN and `stored` is OUT. -/
inductive CurtainState where
  | unknown
  | atFloor
  | stored
  | lowering
  | raising
  | stopped
  | deadTime
  | released
  | fault
  deriving DecidableEq, Repr

/-- The fault causes (R125). -/
inductive FaultCause where
  | inLine
  | outLine
  | driveFault
  | limitConflict
  | positionDisagree
  | travelTimeout
  deriving DecidableEq, Repr

/-- The modes of a movement (R125). -/
inductive Mode where
  | normal
  | demo
  | emergency
  deriving DecidableEq, Repr

/-- The pending directions of DEAD_TIME (R125): LOWER, RAISE, NONE; absent is the outer `none`. -/
inductive Pending where
  | lower
  | raise
  | none
  deriving DecidableEq, Repr

/-- The drive flags of a POS frame (R129). -/
structure DriveFlags where
  movingDown : Bool
  movingUp : Bool
  driveFault : Bool
  localControl : Bool
  deriving DecidableEq, Repr

/-- The descent estimator (R149). -/
structure Estimator where
  running : Bool
  refPosition : Option Nat
  refTime : Option Time
  /-- Filtered speed v_f, −32768 to 32767 in 1/16 count/s. -/
  speed : Int
  /-- Predicted time t_pred, 0–65535 ms. -/
  predicted : Nat
  noProgress : Bool
  /-- Late count, 0–8. -/
  late : Nat
  lateAction : Bool
  deriving DecidableEq, Repr

/-- The demonstration sequence (R157): the set of marks, the first of them, POS seen and the dwell timer. -/
structure DemoSequence where
  slow : Bool
  unverified : Bool
  houseDark : Bool
  first : Option DemoReason
  posSeen : Bool
  dwellTimer : Option Timer
  deriving DecidableEq, Repr

/-- The Curtain Supervisor (R123, R125). -/
structure Curtain where
  state : CurtainState
  cause : Option FaultCause
  mode : Mode
  pending : Option Pending
  /-- Position, 0–65535 counts. -/
  position : Nat
  reportTime : Option Time
  stale : Bool
  flags : DriveFlags
  rederive : Bool
  floorCheck : Bool
  descentStart : Option Time
  /-- Last descent time, 0–65535 ms. -/
  lastDescent : Nat
  deadTimer : Option Timer
  repeatTimer : Option Timer
  raiseTimer : Option Timer
  staleTimer : Option Timer
  emergencyTimer : Option Timer
  flowTimer : Option Timer
  /-- Ring state as last told by the Loop Port Unit. -/
  ring : RingState
  /-- Stage-side value last told by the Zone Monitor. -/
  stageAlarm : Bool
  /-- Relay K5, curtain release (R145). -/
  k5 : Bool
  /-- Relay K6, drencher (R148). -/
  k6 : Bool
  estimator : Estimator
  sequence : DemoSequence
  deriving DecidableEq, Repr

/-! ## Call Unit (chapter 9) -/

/-- The two route plans (R168). -/
inductive Plan where
  | a
  | b
  deriving DecidableEq, Repr

/-- The classes of a call area (R168). -/
inductive AreaClass where
  | audience
  | staff
  deriving DecidableEq, Repr

/-- A call area's definition (R168): station 0 is none. -/
structure AreaDef where
  areaClass : AreaClass
  inAuditorium : Bool
  group : Nat
  stationA : Nat
  bellA : Option Nat
  stationB : Nat
  bellB : Option Nat
  deriving DecidableEq, Repr

/-- The countdowns a call is scheduled on (R171). -/
inductive Anchor where
  | curtainUp
  | intervalEnd
  deriving DecidableEq, Repr

/-- A call's definition (R171). The offset is held as loaded when there is no anchor (log entry 27). -/
structure CallDef where
  areas : BitVec 12
  pattern : Option Nat
  slot : Option Nat
  /-- Message time, 0–60 s. -/
  messageTime : Nat
  /-- Priority, 0–2. -/
  priority : Nat
  gate : BitVec 8
  /-- Repeat count, 1–4 soundings. -/
  repeats : Nat
  /-- Repeat gap, 0–60 s. -/
  gap : Nat
  /-- Lifetime, 10–3600 s. -/
  lifetime : Nat
  anchor : Option Anchor
  /-- Offset, 0–3600 s. -/
  offset : Nat
  deriving DecidableEq, Repr

/-- A call definition with its fired mark (R171). -/
structure CallEntry where
  defn : CallDef
  fired : Bool
  deriving DecidableEq, Repr

/-- The sources of a request (9.4). -/
inductive CallSource where
  | schedule
  | cue
  | command
  | fire
  deriving DecidableEq, Repr

/-- Repeats remaining (R167): a count, or CONTINUOUS for EVAC. -/
inductive Repeats where
  | count (n : Nat)
  | continuous
  deriving DecidableEq, Repr

/-- A call instance (R167). -/
structure CallInstance where
  id : Nat
  priority : Nat
  source : CallSource
  enqueued : Time
  expiry : Option Time
  timer : Option Timer
  repeats : Option Repeats
  /-- Soundings completed, 0–255. -/
  soundings : Nat
  deriving DecidableEq, Repr

/-- The start copy of a sounding call (R184): the routes (each station with its areas, and the bells) and the
settings. -/
structure StartCopy where
  stations : List (Nat × BitVec 12)
  bells : List Nat
  pattern : Option Nat
  slot : Option Nat
  messageTime : Nat
  repeats : Repeats
  gap : Nat
  deriving DecidableEq, Repr

/-- The call player (R167): IDLE, SOUNDING or GAP; the latter two hold the sounding instance, its start copy and the
running player timer. -/
inductive Player where
  | idle
  | sounding (call : CallInstance) (copy : StartCopy) (timer : Timer)
  | gap (call : CallInstance) (copy : StartCopy) (timer : Timer)
  deriving DecidableEq, Repr

/-- The Call Unit (R167). -/
structure CallUnit where
  areas : Vector (Option AreaDef) 12
  selectors : Vector Plan 3
  defs : Vector (Option CallEntry) 32
  /-- Call queue, front first (R176). -/
  queue : List CallInstance
  player : Player
  deriving DecidableEq, Repr

/-! ## Bell Generators (chapter 10) -/

/-- A bell pattern (R191): H and L in 10 ms, R rings per burst, B in 100 ms, K bursts. -/
structure Pattern where
  ring : Nat
  gap : Nat
  rings : Nat
  burstGap : Nat
  bursts : Nat
  deriving DecidableEq, Repr

/-- A pattern latched by a generator with its number (R194). -/
structure Latched where
  number : Nat
  pattern : Pattern
  deriving DecidableEq, Repr

/-- The states of a generator (R194). -/
inductive GeneratorState where
  | idle
  | ring
  | gap
  | burstGap
  deriving DecidableEq, Repr

/-- A bell generator (R194). -/
structure Generator where
  state : GeneratorState
  latched : Option Latched
  /-- Ring index r, 1–16. -/
  r : Nat
  /-- Burst index k, 1–8. -/
  k : Nat
  timer : Option Timer
  /-- The bell's relay, K0–K3 (R198). -/
  relay : Bool
  deriving DecidableEq, Repr

/-- The Bell Generators (10.1, R194). -/
structure Bells where
  patterns : Vector (Option Pattern) 8
  generators : Vector Generator 4
  deriving DecidableEq, Repr

/-! ## Command Unit and Table Store (chapter 11) -/

/-- The working profile: every field of R214, R2, R20, R27, R80, R109, R124 and R173. -/
structure Profile where
  controller : Nat
  divisor : Nat
  ringTimeout : Nat
  noticeInterval : Nat
  refreshLimit : Nat
  zoneReportLimit : Nat
  intervalLength : Nat
  persistence : Vector Nat 8
  edges : Vector EdgeSelection 8
  driveNode : Nat
  travel : Nat
  floorTolerance : Nat
  topTolerance : Nat
  descentLimit : Nat
  startGrace : Nat
  filterWeight : Nat
  minSpeed : Nat
  latePersistence : Nat
  positionStale : Nat
  emergencyStale : Nat
  deadTime : Nat
  raiseLimit : Nat
  demoDwell : Nat
  houseMinimum : Nat
  demoGroups : BitVec 8
  flowWait : Nat
  evacPattern : Option Nat
  evacSlot : Option Nat
  evacMessage : Nat
  evacGap : Nat
  staffPattern : Option Nat
  staffSlot : Option Nat
  staffMessage : Nat
  staffLifetime : Nat
  deriving DecidableEq, Repr

/-- The table image (R218): the definitions of every table and the whole profile. -/
structure Image where
  policy : List PolicyDef
  cues : List CueEntry
  zones : Vector (Option ZoneDef) 48
  windows : Vector (Option WindowDef) 16
  calls : Vector (Option CallDef) 32
  patterns : Vector (Option Pattern) 8
  areas : Vector (Option AreaDef) 12
  profile : Profile
  deriving DecidableEq, Repr

/-- A whole stored image with its checksum (R218). -/
structure StoredImage where
  image : Image
  checksum : BitVec 16
  deriving DecidableEq, Repr

/-- The store state STORING (R203, R218) with the copy being written. -/
structure Storing where
  source : Byte
  sequence : Byte
  start : Time
  copy : Image
  deriving DecidableEq, Repr

/-- The command in progress (R203). -/
structure CommandInProgress where
  code : Byte
  sequence : Byte
  source : Byte
  arrival : Time
  deriving DecidableEq, Repr

/-- The Command Unit (R203). -/
structure CommandUnit where
  inProgress : Option CommandInProgress
  /-- The sixteen attention flags, bits as in NOTICE (R215, R221). -/
  attention : BitVec 16
  /-- The new mark of each flag (R215). -/
  newMarks : BitVec 16
  noticeTimer : Timer
  /-- Store state: IDLE is `none` (R218). -/
  store : Option Storing
  profile : Profile
  deriving DecidableEq, Repr

/-! ## The part -/

/-- The state of the part: the twelve blocks, the power supply and the queue of waiting commands. -/
structure State where
  loop : LoopPort
  lines : Vector Line 8
  phase : PhaseUnit
  cues : CueUnit
  lights : HouseLights
  zones : ZoneMonitor
  curtain : Curtain
  calls : CallUnit
  bells : Bells
  command : CommandUnit
  /-- The show clock (R23). -/
  clock : Time
  /-- The Table Store's image (R218); `none` is an image that was never completed, or whose write was begun and not
  completed: it is invalid. -/
  stored : Option StoredImage
  /-- The model's own (log entry 11): the part has power. -/
  powered : Bool
  /-- The commands waiting, first in, first out. -/
  pending : List Instr
  deriving DecidableEq, Repr

/-- The faults a command can stop with: there are none. Every command of the table has an effect on every state
(NOTES.md, "Stops"), so this type has no constructor. -/
inductive Fault where
  deriving DecidableEq, Repr

/-- The refusals a command can end in. -/
inductive Refusal where
  /-- Raised only by an arm of `exec` whose row has no meaning yet; safe, since nothing is claimed of it. No arm
  raises it: every row has its meaning. -/
  | notModelled (mnemonic : String)
  deriving DecidableEq, Repr

/-! ## Power-on values -/

/-- The default profile (R2, R20, R27, R80, R109, R124, R173, R214). -/
def Profile.default : Profile where
  controller := 1
  divisor := 11
  ringTimeout := 1500
  noticeInterval := 500
  refreshLimit := 1000
  zoneReportLimit := 5
  intervalLength := 900
  persistence := Vector.replicate 8 4
  edges := Vector.replicate 8 .both
  driveNode := 0
  travel := 10000
  floorTolerance := 32
  topTolerance := 32
  descentLimit := 30000
  startGrace := 2000
  filterWeight := 64
  minSpeed := 16
  latePersistence := 3
  positionStale := 250
  emergencyStale := 1000
  deadTime := 500
  raiseLimit := 90
  demoDwell := 5
  houseMinimum := 32768
  demoGroups := 0
  flowWait := 10
  evacPattern := some 0
  evacSlot := some 0
  evacMessage := 30
  evacGap := 5
  staffPattern := some 1
  staffSlot := some 1
  staffMessage := 15
  staffLifetime := 120

/-- The Loop Port Unit at power-on (R22), for a strap value and the divisor in use. -/
def LoopPort.initial (node : BitVec 7) (divisor : Nat) : LoopPort where
  assembler := .hunt
  assembly := []
  gapTimer := none
  badFrames := 0
  forward := []
  origin := []
  sending := none
  forwardRun := 0
  inDivisor := divisor
  outDivisor := divisor
  node := node
  ring := .broken
  ringTimer := none
  k7 := false

/-- A line's record at power-on and RSTR (R35). -/
def Line.initial : Line where
  accepted := .normal
  candidate := none
  count := 0
  capture := none
  reading := .normal

/-- The performance record at power-on (R36). -/
def PhaseUnit.initial : PhaseUnit where
  phase := .closed
  number := 0
  act := 0
  heldFrom := none
  saved := none
  curtainUp := 0
  intervalLeft := 0
  prescaler := 0
  wrapDue := false
  holdPending := false
  showStop := false
  demoStatus := .notDone
  demoTime := 0
  report := []
  lost := 0
  fullMarker := false

/-- A house group at power-on and RSTR (R81). -/
def Group.initial : Group where
  level := 0
  owner := .part
  fade := none
  stepTimer := none

/-- PANEL at power-on and RSTR (R97). -/
def Panel.initial : Panel where
  state := .normal
  last := .clear

/-- The alarm condition record at power-on and RSTR (R97). -/
def AlarmRecord.initial : AlarmRecord where
  confirmed := []
  stage := false
  house := false
  front := false
  prealarm := false
  fault := false

/-- The estimator at power-on and RSTR (R149). -/
def Estimator.initial : Estimator where
  running := false
  refPosition := none
  refTime := none
  speed := 0
  predicted := 65535
  noProgress := false
  late := 0
  lateAction := false

/-- The demonstration sequence at power-on and RSTR (R157). -/
def DemoSequence.initial : DemoSequence where
  slow := false
  unverified := false
  houseDark := false
  first := none
  posSeen := false
  dwellTimer := none

/-- The drive flags all clear (R125). -/
def DriveFlags.allClear : DriveFlags where
  movingDown := false
  movingUp := false
  driveFault := false
  localControl := false

/-- The Curtain Supervisor at power-on and RSTR (R123, R125). -/
def Curtain.initial : Curtain where
  state := .unknown
  cause := none
  mode := .normal
  pending := none
  position := 0
  reportTime := none
  stale := false
  flags := .allClear
  rederive := false
  floorCheck := false
  descentStart := none
  lastDescent := 0
  deadTimer := none
  repeatTimer := none
  raiseTimer := none
  staleTimer := none
  emergencyTimer := none
  flowTimer := none
  ring := .broken
  stageAlarm := false
  k5 := false
  k6 := false
  estimator := .initial
  sequence := .initial

/-- A generator at power-on and RSTR (R194). -/
def Generator.initial : Generator where
  state := .idle
  latched := none
  r := 1
  k := 1
  timer := none
  relay := false

/-- The image an invalid store leaves the working tables at (R219): every table empty, the default profile. -/
def Image.empty : Image where
  policy := []
  cues := []
  zones := Vector.replicate 48 none
  windows := Vector.replicate 16 none
  calls := Vector.replicate 32 none
  patterns := Vector.replicate 8 none
  areas := Vector.replicate 12 none
  profile := .default

/-- The machine right after reset: power-on (R219) of a part strapped to node 2 whose Table Store holds no valid
image (log entry 10). -/
def State.reset : State where
  loop := LoopPort.initial 2 11
  lines := Vector.replicate 8 .initial
  phase := .initial
  cues := { table := [], execution := none }
  lights :=
    { policy := []
      groups := Vector.replicate 8 .initial
      refreshTimer := { start := 0, length := 100 }
      k4 := false }
  zones :=
    { zones := Vector.replicate 48 none
      panel := .initial
      windows := Vector.replicate 16 { defn := none, isOpen := false, timer := none }
      alarm := .initial }
  curtain := .initial
  calls :=
    { areas := Vector.replicate 12 none
      selectors := Vector.replicate 3 .a
      defs := Vector.replicate 32 none
      queue := []
      player := .idle }
  bells :=
    { patterns := Vector.replicate 8 none
      generators := Vector.replicate 4 .initial }
  command :=
    { inProgress := none
      attention := 0x0003
      newMarks := 0x0003
      noticeTimer := { start := 0, length := 500 }
      store := none
      profile := .default }
  clock := 0
  stored := none
  powered := true
  pending := []

end Sys2Proof.Machine
end

