-- ==== Sys2Proof/Machine/Ops.lean ====
section
/-! DEFINITION. The shared operations on the state: one update for each block, the show clock's two comparisons (R24),
timers (R25), and the rule that a part without power does nothing (log entry 11). -/

namespace Sys2Proof.Machine

/-! ## One update per block -/

/-- Change the Loop Port Unit and nothing else. -/
def State.onLoop (s : State) (f : LoopPort → LoopPort) : State := { s with loop := f s.loop }

/-- Change the Contact Line Unit and nothing else. -/
def State.onLines (s : State) (f : Vector Line 8 → Vector Line 8) : State := { s with lines := f s.lines }

/-- Change the Phase Unit and nothing else. -/
def State.onPhase (s : State) (f : PhaseUnit → PhaseUnit) : State := { s with phase := f s.phase }

/-- Change the Cue Unit and nothing else. -/
def State.onCues (s : State) (f : CueUnit → CueUnit) : State := { s with cues := f s.cues }

/-- Change the House Light Unit and nothing else. -/
def State.onLights (s : State) (f : HouseLights → HouseLights) : State := { s with lights := f s.lights }

/-- Change the Zone Monitor and nothing else. -/
def State.onZones (s : State) (f : ZoneMonitor → ZoneMonitor) : State := { s with zones := f s.zones }

/-- Change the Curtain Supervisor and nothing else. -/
def State.onCurtain (s : State) (f : Curtain → Curtain) : State := { s with curtain := f s.curtain }

/-- Change the Call Unit and nothing else. -/
def State.onCalls (s : State) (f : CallUnit → CallUnit) : State := { s with calls := f s.calls }

/-- Change the Bell Generators and nothing else. -/
def State.onBells (s : State) (f : Bells → Bells) : State := { s with bells := f s.bells }

/-- Change the Command Unit and nothing else. -/
def State.onCommand (s : State) (f : CommandUnit → CommandUnit) : State := { s with command := f s.command }

/-! ## Time and timers (2.1) -/

/-- The duration from reading `s` to reading `t` (R24): their difference modulo 2^32, at most 2^31 − 1. -/
def duration (t s : Time) : Nat := min (t - s).toNat (2 ^ 31 - 1)

/-- Reading `t` has reached the stored point of time `p` (R24). -/
def reached (t p : Time) : Bool := decide ((t - p).toNat < 2 ^ 31)

/-- A running timer has expired at reading `now` (R25). -/
def Timer.expired (timer : Timer) (now : Time) : Bool := decide (timer.length ≤ duration now timer.start)

/-- A timer that is running and has expired at reading `now`; a stopped timer does not expire (R25). -/
def due (timer : Option Timer) (now : Time) : Bool :=
  match timer with
  | none => false
  | some timer => timer.expired now

/-- The time left on a timer at reading `now`, in milliseconds. -/
def Timer.left (timer : Timer) (now : Time) : Nat := timer.length - duration now timer.start

/-- A timer started now with a length in milliseconds (R25). -/
def State.timerOf (s : State) (length : Nat) : Timer := { start := s.clock, length := length }

/-- Cycles of the 48 MHz timebase in one character time at divisor D: 11 bit times of 8 × (D + 1) cycles (R1, R2). -/
def characterCycles (divisor : Nat) : Nat := 88 * (divisor + 1)

/-- Cycles of the 48 MHz timebase in one millisecond. -/
def cyclesPerMs : Nat := 48000

/-- A span measured in timebase cycles can have ended at reading `now`: its whole milliseconds have passed. The show
clock does not resolve the part of a millisecond beyond them (log entry 5). -/
def LineTimer.expired (span : LineTimer) (now : Time) : Bool :=
  decide (span.cycles / cyclesPerMs ≤ duration now span.start)

/-- As `due`, for a span of the loop line rate. -/
def lineDue (span : Option LineTimer) (now : Time) : Bool :=
  match span with
  | none => false
  | some span => span.expired now

/-! ## Answers -/

/-- Every command answers a next state. A part without power takes no event (R200, log entry 11): only POWER_ON changes
it. -/
def whilePowered (s : State) (f : State → State) : Host.Outcome State Fault Refusal :=
  .next (if s.powered then f s else s)

/-- A table with `f` applied to each of its places. -/
def mapTable {α β : Type} {n : Nat} (f : α → β) (table : Vector α n) : Vector β n :=
  ⟨(table.toList.map f).toArray, by simp⟩

/-- Apply `f` to each element of a list in turn, the state running through. -/
def forEach {α : Type} (items : List α) (f : α → State → State) (s : State) : State :=
  items.foldl (fun s item => f item s) s

end Sys2Proof.Machine
end

