-- ==== Sys2Proof/Machine/Operands.lean ====
section
/-! DEFINITION. Bytes and value codes of the layouts (R221): fields of more than one byte high byte first, FFh for a
field that is none or absent, the code of every named value, and the result codes (R206). -/

namespace Sys2Proof.Machine

/-! ## Bytes -/

/-- A number as one byte. -/
def byte (n : Nat) : Byte := BitVec.ofNat 8 n

/-- A number as two bytes, high byte first (R221). -/
def bytes2 (n : Nat) : List Byte := [byte (n / 256), byte n]

/-- A number as four bytes, high byte first (R221). -/
def bytes4 (n : Nat) : List Byte := [byte (n / 16777216), byte (n / 65536), byte (n / 256), byte n]

/-- A show-clock reading as four bytes (R221). -/
def timeBytes (t : Time) : List Byte := bytes4 t.toNat

/-- A bit mask as `n` bytes, bit 0 the least significant bit of the last byte (R221). -/
def maskBytes {w : Nat} (n : Nat) (mask : BitVec w) : List Byte :=
  (List.range n).reverse.map fun i => byte (mask.toNat / 256 ^ i)

/-- Two bytes, high byte first, as a number (R221). -/
def number2 (hi lo : Byte) : Nat := hi.toNat * 256 + lo.toNat

/-- The number a list of bytes spells, high byte first (R221). -/
def numberOf (bytes : List Byte) : Nat := bytes.foldl (fun n b => n * 256 + b.toNat) 0

/-- A flag, mark or true-false value: 00h or 01h (R221). -/
def flagByte (b : Bool) : Byte := if b then 1 else 0

/-- A byte that may be none or absent: FFh then (R221). -/
def optionByte : Option Nat → Byte
  | none => 0xFF
  | some n => byte n

/-- Two bytes that may be absent: FFFFh then (R221). -/
def optionBytes2 : Option Nat → List Byte
  | none => [0xFF, 0xFF]
  | some n => bytes2 n

/-- A reading that may be absent: FFFFFFFFh then (R221). -/
def optionTime : Option Time → List Byte
  | none => [0xFF, 0xFF, 0xFF, 0xFF]
  | some t => timeBytes t

/-- A byte of flags from its bits, bit 0 first. -/
def packBits (bits : List Bool) : Byte := byte (bits.foldr (fun b n => (if b then 1 else 0) + 2 * n) 0)

/-! ## Value codes -/

/-- Phase codes (R221). -/
def Phase.code : Phase → Nat
  | .closed => 0
  | .preshow => 1
  | .houseOpen => 2
  | .held => 3
  | .running => 4
  | .interval => 5
  | .egress => 6
  | .evacuating => 7

/-- The phase of a code; a code above 07h names none. -/
def Phase.ofCode : Nat → Option Phase
  | 0 => some .closed
  | 1 => some .preshow
  | 2 => some .houseOpen
  | 3 => some .held
  | 4 => some .running
  | 5 => some .interval
  | 6 => some .egress
  | 7 => some .evacuating
  | _ => none

/-- Line state codes (R221). -/
def lineCode : LineState → Nat
  | .normal => 0
  | .active => 1
  | .opened => 2
  | .shorted => 3

/-- Reading codes (R221, RDST PART). -/
def Reading.code : Reading → Nat
  | .normal => 0
  | .active => 1
  | .fault => 2

/-- Edge codes (R221, RDST PART). -/
def Edge.code : Edge → Nat
  | .activate => 0
  | .deactivate => 1

/-- Edge selection codes (R221, profile field codes). -/
def EdgeSelection.code : EdgeSelection → Nat
  | .activate => 0
  | .deactivate => 1
  | .both => 2

/-- Zone state codes (R221). -/
def ZoneState.code : ZoneState → Nat
  | .normal => 0
  | .prealarm => 1
  | .verifying => 2
  | .masked => 3
  | .confirmed => 4
  | .faultReported => 5
  | .faultStale => 6
  | .isolated => 7

/-- Window state codes: CLOSED 08h, OPEN 09h (R221). -/
def windowCode (isOpen : Bool) : Nat := if isOpen then 9 else 8

/-- The condition of a ZONE pair's code; a code other than the four is taken as FAULT (R103). -/
def Condition.ofByte (code : Byte) : Condition :=
  match code.toNat with
  | 0 => .clear
  | 1 => .prealarm
  | 2 => .alarm
  | _ => .fault

/-- Condition codes (R221). -/
def Condition.code : Condition → Nat
  | .clear => 0
  | .prealarm => 1
  | .alarm => 2
  | .fault => 3

/-- Side codes of LDZN (R221). -/
def Side.code : Side → Nat
  | .stage => 1
  | .house => 2
  | .front => 3

/-- Fault cause codes (R221). -/
def FaultCause.code : FaultCause → Nat
  | .inLine => 0
  | .outLine => 1
  | .driveFault => 2
  | .limitConflict => 3
  | .positionDisagree => 4
  | .travelTimeout => 5

/-- Curtain state codes: FAULT with its cause is 10h–15h (R221). -/
def curtainCode (state : CurtainState) (cause : Option FaultCause) : Nat :=
  match state with
  | .unknown => 0
  | .atFloor => 1
  | .stored => 2
  | .lowering => 3
  | .raising => 4
  | .stopped => 5
  | .deadTime => 6
  | .released => 7
  | .fault => 16 + (cause.map FaultCause.code).getD 0

/-- Mode codes (R221, DRIVE). -/
def Mode.code : Mode → Nat
  | .normal => 0
  | .demo => 1
  | .emergency => 2

/-- Pending direction codes (R221, RDST CURTAIN). -/
def Pending.code : Pending → Nat
  | .lower => 0
  | .raise => 1
  | .none => 2

/-- Failure reason codes (R221). -/
def DemoReason.code : DemoReason → Nat
  | .slow => 0
  | .unverified => 1
  | .houseDark => 2
  | .obstructed => 3
  | .alarm => 4
  | .stopped => 5
  | .fault => 6

/-- Demonstration status codes (R221). -/
def DemoStatus.code : DemoStatus → Nat
  | .notDone => 0
  | .lowering => 1
  | .dwell => 2
  | .raising => 3
  | .passed => 4
  | .failed _ => 5
  | .missed => 6

/-- The reason of a FAILED status, absent otherwise. -/
def DemoStatus.reason : DemoStatus → Option DemoReason
  | .failed reason => some reason
  | _ => none

/-- Drive flags as POS byte 3 (R221). -/
def DriveFlags.byte (flags : DriveFlags) : Byte :=
  packBits [flags.movingDown, flags.movingUp, flags.driveFault, flags.localControl]

/-- Drive flags of a POS byte 3; its other bits are ignored (R129, R221). -/
def DriveFlags.ofByte (b : Byte) : DriveFlags where
  movingDown := b.getLsbD 0
  movingUp := b.getLsbD 1
  driveFault := b.getLsbD 2
  localControl := b.getLsbD 3

/-- Owner codes (R221, RDST LIGHTS). -/
def Owner.code : Owner → Nat
  | .part => 0
  | .console => 1

/-- Role codes of LDPO (R221). -/
def Role.code : Role → Nat
  | .house => 1
  | .aisle => 2
  | .stageWork => 3
  | .effect => 4

/-- Generator state codes (R221, RDST BELLS). -/
def GeneratorState.code : GeneratorState → Nat
  | .idle => 0
  | .ring => 1
  | .gap => 2
  | .burstGap => 3

/-- Plan codes (R221, RPLN). -/
def Plan.code : Plan → Nat
  | .a => 0
  | .b => 1

/-- Area class codes of LDRT (R221). -/
def AreaClass.code : AreaClass → Nat
  | .audience => 1
  | .staff => 2

/-- Anchor codes of LDCL (R221). -/
def Anchor.code : Anchor → Nat
  | .curtainUp => 0
  | .intervalEnd => 1

/-- Source codes of the CALL entry and of RDQU (R221). -/
def CallSource.code : CallSource → Nat
  | .schedule => 0
  | .cue => 1
  | .command => 2
  | .fire => 3

/-- Report kind codes (R221). -/
def ReportKind.code : ReportKind → Nat
  | .phase => 1
  | .hold => 2
  | .demo => 3
  | .alarm => 4
  | .zone => 5
  | .curtain => 6
  | .call => 7
  | .cueRefused => 8
  | .contact => 9
  | .mark => 10
  | .table => 11

/-- Ring state codes: OPEN 00h, OK 01h (R221, RDST PART). -/
def RingState.code : RingState → Nat
  | .broken => 0
  | .ok => 1

/-! ## Results (R206) -/

/-- The results of a command (R206). -/
inductive Result where
  | done
  | doneClamped
  | partialDone
  | refusedState
  | refusedRange
  | refusedFull
  | refusedLocked
  | refusedSource
  | refusedBusy
  | refusedLocal
  | unknownCommand
  | badLength
  deriving DecidableEq, Repr

/-- Result codes (R221). -/
def Result.code : Result → Nat
  | .done => 0
  | .doneClamped => 1
  | .partialDone => 2
  | .refusedState => 3
  | .refusedRange => 4
  | .refusedFull => 5
  | .refusedLocked => 6
  | .refusedSource => 7
  | .refusedBusy => 8
  | .refusedLocal => 9
  | .unknownCommand => 10
  | .badLength => 11

/-- What a command's own rule answers: its result and the data of its REPLY (R205). -/
structure Answer where
  result : Result
  data : List Byte
  deriving DecidableEq, Repr

/-- An answer that carries no data. -/
def Answer.plain (result : Result) : Answer := { result := result, data := [] }

/-! ## Frame kinds (R221) -/

/-- LEVEL. -/
def kindLevel : Byte := 0x01
/-- CUE. -/
def kindCue : Byte := 0x02
/-- ZONE. -/
def kindZone : Byte := 0x03
/-- POS. -/
def kindPos : Byte := 0x04
/-- DRIVE. -/
def kindDrive : Byte := 0x05
/-- CALL. -/
def kindCall : Byte := 0x06
/-- COMMAND. -/
def kindCommand : Byte := 0x07
/-- REPLY. -/
def kindReply : Byte := 0x08
/-- NOTICE. -/
def kindNotice : Byte := 0x09
/-- The destination that addresses all nodes. -/
def allNodes : Byte := 0x7F

/-! ## The loop CRC (R5) -/

/-- One bit of the CRC with polynomial x^16 + x^12 + x^5 + 1, most significant bit first. -/
def crcBit (crc : BitVec 16) : BitVec 16 :=
  if crc.getLsbD 15 then (crc <<< 1) ^^^ 0x1021 else crc <<< 1

/-- One byte of the CRC, most significant bit first. -/
def crcByte (crc : BitVec 16) (b : Byte) : BitVec 16 :=
  (List.range 8).foldl (fun c _ => crcBit c) (crc ^^^ (b.setWidth 16 <<< 8))

/-- The CRC over a list of bytes, from the value with all 16 bits at one, not inverted (R5). -/
def crc16 (bytes : List Byte) : BitVec 16 := bytes.foldl crcByte 0xFFFF

/-- The header and payload characters of a frame, in the order sent (R1, 1.2). -/
def Frame.bytes (frame : Frame) : List Byte :=
  frame.dest :: frame.source :: frame.kind :: byte frame.payload.length :: frame.payload

end Sys2Proof.Machine
end

