-- ==== Sys2Proof/Machine/Entries.lean ====
section
/-! DEFINITION. Table entries: the layout of every load entry, read and written (R221), the ranges its entry rule allows
(R61, R76, R99, R101, R169, R172, R192), the profile's field codes with their clamps (R214), and the table image (R218,
R219). -/

namespace Sys2Proof.Machine

/-! ## Cutting a load's payload into entries (R205) -/

/-- Cut a load's argument bytes into whole entries, each of the length that `lengthOf` reads at its start. `none` when
the bytes end inside an entry or an entry has no length. The fuel is the number of bytes. -/
def cutEntries (lengthOf : List Byte → Option Nat) : Nat → List Byte → Option (List (List Byte))
  | _, [] => some []
  | 0, _ :: _ => none
  | fuel + 1, b :: rest =>
    match lengthOf (b :: rest) with
    | none => none
    | some n =>
      if n = 0 ∨ (b :: rest).length < n then none
      else (cutEntries lengthOf fuel ((b :: rest).drop n)).map ((b :: rest).take n :: ·)

/-- A load's entries: one or more whole ones (R205). -/
def entriesOf (lengthOf : List Byte → Option Nat) (bytes : List Byte) : Option (List (List Byte)) :=
  match cutEntries lengthOf bytes.length bytes with
  | none => none
  | some [] => none
  | some entries => some entries

/-- Every entry of the table has this length. -/
def fixedLength (n : Nat) : List Byte → Option Nat := fun _ => some n

/-- The length of an LDCU entry: 4 + 6 × its action count, whatever the count (R205). -/
def cueLength : List Byte → Option Nat
  | _ :: _ :: _ :: count :: _ => some (4 + 6 * count.toNat)
  | _ => none

/-- The length of an LDZN entry: 6 when its first byte is 00h, 10 when it is 01h, otherwise none (R205). -/
def zoneLength : List Byte → Option Nat
  | b :: _ => if b = 0 then some 6 else if b = 1 then some 10 else none
  | [] => none

/-! ## Channel policy (R75, R76) -/

/-- What a policy entry asks for. -/
inductive PolicyLoad where
  | delete (segment channel : Nat)
  | set (defn : PolicyDef)
  deriving DecidableEq, Repr

/-- The role of a code other than NONE (R221). -/
def Role.ofCode : Nat → Option Role
  | 1 => some .house
  | 2 => some .aisle
  | 3 => some .stageWork
  | 4 => some .effect
  | _ => none

/-- The ranges of a policy definition (R76). -/
def PolicyDef.inRange (d : PolicyDef) : Bool :=
  decide (d.segment ≤ 3 ∧ d.channel ≤ 511) &&
    match d.role with
    | .house => decide (d.group.toNat ≤ 7 ∧ d.merge.toNat ≤ 2)
    | .effect => decide (d.window.toNat ≤ 15)
    | .aisle | .stageWork => true

/-- Read a policy entry; `none` is REFUSED_RANGE (R76). -/
def readPolicy : List Byte → Option PolicyLoad
  | [segment, channelHi, channelLo, role, group, merge, floor, window, alarm] =>
    if segment.toNat ≤ 3 ∧ number2 channelHi channelLo ≤ 511 then
      if role = 0 then some (.delete segment.toNat (number2 channelHi channelLo))
      else
        match Role.ofCode role.toNat with
        | none => none
        | some r =>
          let d : PolicyDef :=
            { segment := segment.toNat, channel := number2 channelHi channelLo, role := r, group := group,
              merge := merge, floor := floor, window := window, alarm := alarm }
          if d.inRange then some (.set d) else none
    else none
  | _ => none

/-- Write a policy entry in the layout of LDPO (R221). -/
def PolicyDef.bytes (d : PolicyDef) : List Byte :=
  byte d.segment :: bytes2 d.channel ++ [byte d.role.code, d.group, d.merge, d.floor, d.window, d.alarm]

/-! ## Cues (R60, R61) -/

/-- What a cue entry asks for. -/
inductive CueLoad where
  | delete (list cue : Nat)
  | set (entry : CueEntry)
  deriving DecidableEq, Repr

/-- The ranges of an action's arguments (R60). -/
def CueAction.inRange : CueAction → Bool
  | .phase _ act => decide (act ≤ 5)
  | .hfade group level time => decide (group ≤ 7 ∧ level ≤ 65535 ∧ time ≤ 36000)
  | .wopen window => decide (window ≤ 15)
  | .wclose window => decide (window ≤ 15)
  | .call id => decide (id ≤ 31)
  | .demo => true
  | .mark _ => true

/-- The ranges of a cue entry (R60). -/
def CueEntry.inRange (e : CueEntry) : Bool :=
  decide (e.list ≤ 3 ∧ e.cue ≤ 9999 ∧ 1 ≤ e.actions.length ∧ e.actions.length ≤ 4) &&
    e.actions.all CueAction.inRange

/-- Read an action's six bytes, whatever its ranges; `none` is an unknown kind or phase code. -/
def readAction : List Byte → Option CueAction
  | [kind, a, b, c, d, e] =>
    match kind.toNat with
    | 0 => (Phase.ofCode a.toNat).map fun target => .phase target b.toNat
    | 1 => some (.hfade a.toNat (number2 b c) (number2 d e))
    | 2 => some (.wopen a.toNat)
    | 3 => some (.wclose a.toNat)
    | 4 => some (.call a.toNat)
    | 5 => some .demo
    | 6 => some (.mark a)
    | _ => none
  | _ => none

/-- Read `n` actions from their bytes. -/
def readActions : Nat → List Byte → Option (List CueAction)
  | 0, _ => some []
  | n + 1, bytes =>
    match readAction (bytes.take 6), readActions n (bytes.drop 6) with
    | some action, some rest => some (action :: rest)
    | _, _ => none

/-- Read a cue entry; `none` is REFUSED_RANGE (R61). -/
def readCue : List Byte → Option CueLoad
  | list :: cueHi :: cueLo :: count :: actions =>
    if list.toNat ≤ 3 ∧ number2 cueHi cueLo ≤ 9999 then
      if count = 0 then some (.delete list.toNat (number2 cueHi cueLo))
      else if 4 < count.toNat then none
      else
        match readActions count.toNat actions with
        | none => none
        | some actions =>
          let e : CueEntry := { list := list.toNat, cue := number2 cueHi cueLo, actions := actions }
          if e.inRange then some (.set e) else none
    else none
  | _ => none

/-- Write an action's six bytes; unused argument bytes are reserved and sent as 0 (R221). -/
def CueAction.bytes : CueAction → List Byte
  | .phase target act => [0, byte target.code, byte act, 0, 0, 0]
  | .hfade group level time => [1, byte group] ++ bytes2 level ++ bytes2 time
  | .wopen window => [2, byte window, 0, 0, 0, 0]
  | .wclose window => [3, byte window, 0, 0, 0, 0]
  | .call id => [4, byte id, 0, 0, 0, 0]
  | .demo => [5, 0, 0, 0, 0, 0]
  | .mark value => [6, value, 0, 0, 0, 0]

/-- The action kind of a CUE_REFUSED entry (R72, R221). -/
def CueAction.kind : CueAction → Byte
  | .phase _ _ => 0
  | .hfade _ _ _ => 1
  | .wopen _ => 2
  | .wclose _ => 3
  | .call _ => 4
  | .demo => 5
  | .mark _ => 6

/-- Write a cue entry in the layout of LDCU (R221). -/
def CueEntry.bytes (e : CueEntry) : List Byte :=
  byte e.list :: bytes2 e.cue ++ byte e.actions.length :: e.actions.flatMap CueAction.bytes

/-! ## Zones and windows (R98 to R101) -/

/-- What an LDZN entry asks for. -/
inductive ZoneLoad where
  | deleteZone (zone : Nat)
  | setZone (zone : Nat) (defn : ZoneDef)
  | deleteWindow (window : Nat)
  | setWindow (window : Nat) (defn : WindowDef)
  deriving DecidableEq, Repr

/-- The side of a code other than NONE (R221). -/
def Side.ofCode : Nat → Option Side
  | 1 => some .stage
  | 2 => some .house
  | 3 => some .front
  | _ => none

/-- The ranges of a zone definition (R99). -/
def ZoneDef.inRange (zone : Nat) (d : ZoneDef) : Bool :=
  decide (d.verification ≤ 600) &&
    match d.partner with
    | none => true
    | some p => decide (p ≤ 47 ∧ p ≠ zone)

/-- The ranges of a window definition (R101). -/
def WindowDef.inRange (d : WindowDef) : Bool := decide (1 ≤ d.duration ∧ d.duration ≤ 600)

/-- Read an LDZN entry; `none` is REFUSED_RANGE (R99, R101). -/
def readZone : List Byte → Option ZoneLoad
  | [form, zone, side, verifyHi, verifyLo, partner] =>
    if form = 0 ∧ zone.toNat ≤ 47 then
      if side = 0 then some (.deleteZone zone.toNat)
      else
        match Side.ofCode side.toNat with
        | none => none
        | some sd =>
          let d : ZoneDef :=
            { side := sd, verification := number2 verifyHi verifyLo,
              partner := if partner = 0xFF then none else some partner.toNat }
          if d.inRange zone.toNat then some (.setZone zone.toNat d) else none
    else none
  | [form, window, durationHi, durationLo, z5, z4, z3, z2, z1, z0] =>
    if form = 1 ∧ window.toNat ≤ 15 ∧ number2 durationHi durationLo ≤ 600 then
      if number2 durationHi durationLo = 0 then some (.deleteWindow window.toNat)
      else
        some (.setWindow window.toNat
          { duration := number2 durationHi durationLo
            zones := BitVec.ofNat 48 (numberOf [z5, z4, z3, z2, z1, z0]) })
    else none
  | _ => none

/-- Write a zone's definition in the layout of LDZN (R221). -/
def ZoneDef.bytes (zone : Nat) (d : ZoneDef) : List Byte :=
  [0, byte zone, byte d.side.code] ++ bytes2 d.verification ++ [optionByte d.partner]

/-- Write a window's definition in the layout of LDZN (R221). -/
def WindowDef.bytes (window : Nat) (d : WindowDef) : List Byte :=
  [1, byte window] ++ bytes2 d.duration ++ maskBytes 6 d.zones

/-! ## Calls (R171, R172) -/

/-- What a call entry asks for. -/
inductive CallLoad where
  | delete (id : Nat)
  | set (id : Nat) (defn : CallDef)
  deriving DecidableEq, Repr

/-- A byte that names one of the numbers 0 to `top`, or none as FFh; the outer `none` is any other code. -/
def readOption (top : Nat) (b : Byte) : Option (Option Nat) :=
  if b = 0xFF then some none else if b.toNat ≤ top then some (some b.toNat) else none

/-- The anchor of a code, none being FFh; the outer `none` is any other code (R221). -/
def readAnchor (b : Byte) : Option (Option Anchor) :=
  if b = 0xFF then some none
  else if b = 0 then some (some .curtainUp)
  else if b = 1 then some (some .intervalEnd)
  else none

/-- An option's number, if it has one, is at most `top`. -/
def optionAtMost (top : Nat) : Option Nat → Bool
  | none => true
  | some n => decide (n ≤ top)

/-- The ranges of a call definition (R172). -/
def CallDef.inRange (d : CallDef) : Bool :=
  optionAtMost 7 d.pattern && optionAtMost 63 d.slot &&
    decide (d.messageTime ≤ 60 ∧ d.priority ≤ 2 ∧ 1 ≤ d.repeats ∧ d.repeats ≤ 4 ∧ d.gap ≤ 60 ∧
      10 ≤ d.lifetime ∧ d.lifetime ≤ 3600 ∧ d.offset ≤ 3600)

/-- Read a call entry; `none` is REFUSED_RANGE (R172). -/
def readCall : List Byte → Option CallLoad
  | [id, areasHi, areasLo, pattern, slot, message, priority, gate, repeats, gap, lifeHi, lifeLo, anchor, offsetHi,
      offsetLo] =>
    if id.toNat ≤ 31 then
      if repeats = 0 then some (.delete id.toNat)
      else
        match readOption 7 pattern, readOption 63 slot, readAnchor anchor with
        | some p, some sl, some an =>
          let d : CallDef :=
            { areas := BitVec.ofNat 12 (number2 areasHi areasLo), pattern := p, slot := sl,
              messageTime := message.toNat, priority := priority.toNat, gate := gate, repeats := repeats.toNat,
              gap := gap.toNat, lifetime := number2 lifeHi lifeLo, anchor := an,
              offset := number2 offsetHi offsetLo }
          if d.inRange then some (.set id.toNat d) else none
        | _, _, _ => none
    else none
  | _ => none

/-- Write a call definition in the layout of LDCL (R221). -/
def CallDef.bytes (id : Nat) (d : CallDef) : List Byte :=
  byte id :: maskBytes 2 d.areas ++
    [optionByte d.pattern, optionByte d.slot, byte d.messageTime, byte d.priority, d.gate, byte d.repeats, byte d.gap] ++
    bytes2 d.lifetime ++ [optionByte (d.anchor.map Anchor.code)] ++ bytes2 d.offset

/-! ## Bell patterns (R191, R192) -/

/-- What a pattern entry asks for. -/
inductive PatternLoad where
  | delete (number : Nat)
  | set (number : Nat) (pattern : Pattern)
  deriving DecidableEq, Repr

/-- The ranges of a pattern (R191, R192). -/
def Pattern.inRange (p : Pattern) : Bool :=
  decide (1 ≤ p.ring ∧ p.ring ≤ 256 ∧ 1 ≤ p.gap ∧ p.gap ≤ 256 ∧ 1 ≤ p.rings ∧ p.rings ≤ 16 ∧ p.burstGap ≤ 100 ∧
    1 ≤ p.bursts ∧ p.bursts ≤ 8)

/-- Read a pattern entry; `none` is REFUSED_RANGE (R192). -/
def readPattern : List Byte → Option PatternLoad
  | [number, ringHi, ringLo, gapHi, gapLo, rings, burstGap, bursts] =>
    if number.toNat ≤ 7 then
      if bursts = 0 then some (.delete number.toNat)
      else
        let p : Pattern :=
          { ring := number2 ringHi ringLo, gap := number2 gapHi gapLo, rings := rings.toNat,
            burstGap := burstGap.toNat, bursts := bursts.toNat }
        if p.inRange then some (.set number.toNat p) else none
    else none
  | _ => none

/-- Write a pattern in the layout of LDPT (R221). -/
def Pattern.bytes (number : Nat) (p : Pattern) : List Byte :=
  byte number :: bytes2 p.ring ++ bytes2 p.gap ++ [byte p.rings, byte p.burstGap, byte p.bursts]

/-! ## Call areas (R168, R169) -/

/-- What an area entry asks for. -/
inductive AreaLoad where
  | delete (area : Nat)
  | set (area : Nat) (defn : AreaDef)
  deriving DecidableEq, Repr

/-- The class of a code other than NONE (R221). -/
def AreaClass.ofCode : Nat → Option AreaClass
  | 1 => some .audience
  | 2 => some .staff
  | _ => none

/-- The in-auditorium field of its byte: 00h no, 01h yes; any other byte is a free value (log entry 19). -/
def readInAuditorium (b : Byte) : Bool :=
  if b = 0 then false else if b = 1 then true else Config.inAuditorium b

/-- The ranges of an area definition (R169). -/
def AreaDef.inRange (d : AreaDef) : Bool :=
  decide (d.group ≤ 2 ∧ d.stationA ≤ 126 ∧ d.stationB ≤ 126) && optionAtMost 3 d.bellA && optionAtMost 3 d.bellB

/-- Read an area entry; `none` is REFUSED_RANGE (R169). -/
def readArea : List Byte → Option AreaLoad
  | [area, cls, auditorium, group, stationA, bellA, stationB, bellB] =>
    if area.toNat ≤ 11 then
      if cls = 0 then some (.delete area.toNat)
      else
        match AreaClass.ofCode cls.toNat, readOption 3 bellA, readOption 3 bellB with
        | some c, some ba, some bb =>
          let d : AreaDef :=
            { areaClass := c, inAuditorium := readInAuditorium auditorium, group := group.toNat,
              stationA := stationA.toNat, bellA := ba, stationB := stationB.toNat, bellB := bb }
          if d.inRange then some (.set area.toNat d) else none
        | _, _, _ => none
    else none
  | _ => none

/-- Write an area definition in the layout of LDRT (R221). -/
def AreaDef.bytes (area : Nat) (d : AreaDef) : List Byte :=
  [byte area, byte d.areaClass.code, flagByte d.inAuditorium, byte d.group, byte d.stationA, optionByte d.bellA,
    byte d.stationB, optionByte d.bellB]

/-! ## The profile (R214) -/

/-- A value clamped into a range: a value below it is replaced with the lowest, one above it with the highest. -/
def clamp (low high value : Nat) : Nat := max low (min high value)

/-- A profile field applied: the new profile and whether the value was clamped. -/
structure ProfileLoad where
  profile : Profile
  clamped : Bool
  deriving DecidableEq, Repr

/-- A field that is clamped into `low`–`high` and put into the profile by `put`. -/
def clampedField (low high value : Nat) (put : Nat → Profile) : Option ProfileLoad :=
  some { profile := put (clamp low high value), clamped := decide (clamp low high value ≠ value) }

/-- A built-in call's pattern or slot: a number 0 to `top`, or none as FFh; any other code is held as none, which is a
clamp (R173, R214). -/
def optionField (top value : Nat) (put : Option Nat → Profile) : Option ProfileLoad :=
  if value ≤ top then some { profile := put (some value), clamped := false }
  else some { profile := put none, clamped := decide (value ≠ 0xFF) }

/-- The edge selection of a code; a value that is not one of the three codes is held as BOTH (R27). -/
def EdgeSelection.ofCode : Nat → EdgeSelection
  | 0 => .activate
  | 1 => .deactivate
  | _ => .both

/-- Apply one LDPF entry's field code and value to a profile (R214); `none` is REFUSED_RANGE: an unknown field code, or
a travel length of 0. -/
def Profile.load (p : Profile) (code value : Nat) : Option ProfileLoad :=
  match code with
  | 0x01 => clampedField 1 126 value fun v => { p with controller := v }
  | 0x02 => clampedField 0 4095 value fun v => { p with divisor := v }
  | 0x03 => clampedField 300 6000 value fun v => { p with ringTimeout := v }
  | 0x04 => clampedField 100 2000 value fun v => { p with noticeInterval := v }
  | 0x05 => clampedField 200 5000 value fun v => { p with refreshLimit := v }
  | 0x06 => clampedField 1 30 value fun v => { p with zoneReportLimit := v }
  | 0x07 => clampedField 0 3600 value fun v => { p with intervalLength := v }
  | 0x40 => clampedField 0 126 value fun v => { p with driveNode := v }
  | 0x41 => if value = 0 then none else clampedField 1000 65535 value fun v => { p with travel := v }
  | 0x42 => clampedField 0 255 value fun v => { p with floorTolerance := v }
  | 0x43 => clampedField 0 255 value fun v => { p with topTolerance := v }
  | 0x44 => clampedField 5000 60000 value fun v => { p with descentLimit := v }
  | 0x45 => clampedField 0 5000 value fun v => { p with startGrace := v }
  | 0x46 => clampedField 1 256 value fun v => { p with filterWeight := v }
  | 0x47 => clampedField 1 1024 value fun v => { p with minSpeed := v }
  | 0x48 => clampedField 1 8 value fun v => { p with latePersistence := v }
  | 0x49 => clampedField 50 2000 value fun v => { p with positionStale := v }
  | 0x4A => clampedField 200 5000 value fun v => { p with emergencyStale := v }
  | 0x4B => clampedField 100 5000 value fun v => { p with deadTime := v }
  | 0x4C => clampedField 10 300 value fun v => { p with raiseLimit := v }
  | 0x4D => clampedField 0 30 value fun v => { p with demoDwell := v }
  | 0x4E => clampedField 0 65535 value fun v => { p with houseMinimum := v }
  | 0x4F => some { profile := { p with demoGroups := BitVec.ofNat 8 value }, clamped := false }
  | 0x50 => clampedField 1 60 value fun v => { p with flowWait := v }
  | 0x60 => optionField 7 value fun v => { p with evacPattern := v }
  | 0x61 => optionField 63 value fun v => { p with evacSlot := v }
  | 0x62 => clampedField 0 60 value fun v => { p with evacMessage := v }
  | 0x63 => clampedField 0 60 value fun v => { p with evacGap := v }
  | 0x64 => optionField 7 value fun v => { p with staffPattern := v }
  | 0x65 => optionField 63 value fun v => { p with staffSlot := v }
  | 0x66 => clampedField 0 60 value fun v => { p with staffMessage := v }
  | 0x67 => clampedField 10 3600 value fun v => { p with staffLifetime := v }
  | code =>
    if 0x10 ≤ code ∧ code ≤ 0x17 then
      clampedField 1 15 value fun v => { p with persistence := p.persistence.setIfInBounds (code - 0x10) v }
    else if 0x18 ≤ code ∧ code ≤ 0x1F then
      some
        { profile := { p with edges := p.edges.setIfInBounds (code - 0x18) (EdgeSelection.ofCode value) }
          clamped := decide (2 < value) }
    else none

/-- The profile's field codes in ascending order (R210, R221). -/
def profileCodes : List Nat :=
  [0x01, 0x02, 0x03, 0x04, 0x05, 0x06, 0x07] ++ (List.range 8).map (0x10 + ·) ++ (List.range 8).map (0x18 + ·) ++
    (List.range 17).map (0x40 + ·) ++ (List.range 8).map (0x60 + ·)

/-- The value RDTB returns for a field code (R210, R214). -/
def Profile.read (p : Profile) (code : Nat) : Nat :=
  match code with
  | 0x01 => p.controller
  | 0x02 => p.divisor
  | 0x03 => p.ringTimeout
  | 0x04 => p.noticeInterval
  | 0x05 => p.refreshLimit
  | 0x06 => p.zoneReportLimit
  | 0x07 => p.intervalLength
  | 0x40 => p.driveNode
  | 0x41 => p.travel
  | 0x42 => p.floorTolerance
  | 0x43 => p.topTolerance
  | 0x44 => p.descentLimit
  | 0x45 => p.startGrace
  | 0x46 => p.filterWeight
  | 0x47 => p.minSpeed
  | 0x48 => p.latePersistence
  | 0x49 => p.positionStale
  | 0x4A => p.emergencyStale
  | 0x4B => p.deadTime
  | 0x4C => p.raiseLimit
  | 0x4D => p.demoDwell
  | 0x4E => p.houseMinimum
  | 0x4F => p.demoGroups.toNat
  | 0x50 => p.flowWait
  | 0x60 => p.evacPattern.getD 0xFF
  | 0x61 => p.evacSlot.getD 0xFF
  | 0x62 => p.evacMessage
  | 0x63 => p.evacGap
  | 0x64 => p.staffPattern.getD 0xFF
  | 0x65 => p.staffSlot.getD 0xFF
  | 0x66 => p.staffMessage
  | 0x67 => p.staffLifetime
  | code =>
    if code ≤ 0x17 then (p.persistence[code - 0x10]?).getD 0
    else ((p.edges[code - 0x18]?).map EdgeSelection.code).getD 0

/-- The profile as a list of LDPF entries, one for every field (R210). -/
def Profile.bytes (p : Profile) : List (List Byte) :=
  profileCodes.map fun code => byte code :: bytes2 (p.read code)

/-- Every field of the profile lies in its range: loading it again changes and clamps nothing (R214, R219). -/
def Profile.inRange (p : Profile) : Bool :=
  profileCodes.all fun code =>
    match p.load code (p.read code) with
    | none => false
    | some l => !l.clamped

/-- The line divisor the ports use: a profile divisor below 5 is used as 5 (R2). -/
def Profile.lineDivisor (p : Profile) : Nat := max 5 p.divisor

/-! ## The table image (R218, R219) -/

/-- The entries of a table held by number, in ascending order of number. -/
def numbered {α : Type} {n : Nat} (table : Vector (Option α) n) : List (Nat × α) :=
  table.toList.zipIdx.filterMap fun (entry, i) => entry.map fun e => (i, e)

/-- The image's bytes, table after table in the order of the table codes, each entry in the layout of its load entry
(log entry 12). -/
def Image.bytes (image : Image) : List Byte :=
  image.policy.flatMap PolicyDef.bytes ++ image.cues.flatMap CueEntry.bytes ++
    (numbered image.zones).flatMap (fun (i, d) => d.bytes i) ++
    (numbered image.windows).flatMap (fun (i, d) => d.bytes i) ++
    (numbered image.calls).flatMap (fun (i, d) => d.bytes i) ++
    (numbered image.patterns).flatMap (fun (i, d) => d.bytes i) ++
    (numbered image.areas).flatMap (fun (i, d) => d.bytes i) ++ image.profile.bytes.flatten

/-- The image's checksum: the loop CRC over it (R218). -/
def Image.checksum (image : Image) : BitVec 16 := crc16 image.bytes

/-- Every entry of the image lies within the ranges of its entry rule (R219). -/
def Image.inRange (image : Image) : Bool :=
  image.policy.all PolicyDef.inRange && image.cues.all CueEntry.inRange &&
    (numbered image.zones).all (fun (i, d) => d.inRange i) &&
    (numbered image.windows).all (fun (_, d) => d.inRange) &&
    (numbered image.calls).all (fun (_, d) => d.inRange) &&
    (numbered image.patterns).all (fun (_, p) => p.inRange) &&
    (numbered image.areas).all (fun (_, d) => d.inRange) && image.profile.inRange

/-- A stored image is valid when its checksum matches and every entry is in range (R219). -/
def StoredImage.valid (stored : StoredImage) : Bool :=
  decide (stored.checksum = stored.image.checksum) && stored.image.inRange

end Sys2Proof.Machine
end

