-- ==== Sys2Proof/Machine/Flags.lean ====
section
/-! DEFINITION. The attention set: its sixteen flags, their new marks, and what sets, reports and clears them
(R215, R216). -/

namespace Sys2Proof.Machine

/-- The sixteen attention flags (R215). -/
inductive Flag where
  | restarted
  | tableFault
  | ringOpen
  | lineErrors
  | forwardOverrun
  | originOverrun
  | alarmChange
  | zoneFault
  | unknownZone
  | curtainFault
  | demoResult
  | callLost
  | consoleSilent
  | contactFault
  | reportFull
  | drencherNoFlow
  deriving DecidableEq, Repr

/-- The flag's bit in NOTICE, from bit 0 (R221). -/
def Flag.bit : Flag → Nat
  | .restarted => 0
  | .tableFault => 1
  | .ringOpen => 2
  | .lineErrors => 3
  | .forwardOverrun => 4
  | .originOverrun => 5
  | .alarmChange => 6
  | .zoneFault => 7
  | .unknownZone => 8
  | .curtainFault => 9
  | .demoResult => 10
  | .callLost => 11
  | .consoleSilent => 12
  | .contactFault => 13
  | .reportFull => 14
  | .drencherNoFlow => 15

/-- The attention set that holds this flag alone. -/
def Flag.mask (flag : Flag) : BitVec 16 := BitVec.twoPow 16 flag.bit

/-- A rule sets the flag, whether it was set or clear: flag and new mark are set (R215). -/
def setAttention (flag : Flag) (s : State) : State :=
  s.onCommand fun c =>
    { c with attention := c.attention ||| flag.mask, newMarks := c.newMarks ||| flag.mask }

/-- An attention report is built: every new mark is cleared (R215). -/
def reportAttention (s : State) : State := s.onCommand fun c => { c with newMarks := 0 }

/-- ACKA's effect on the flags (R216): a flag in the mask that is set with its new mark clear is cleared. -/
def clearAcknowledged (mask : BitVec 16) (s : State) : State :=
  s.onCommand fun c => { c with attention := c.attention &&& ~~~(mask &&& ~~~c.newMarks) }

end Sys2Proof.Machine
end

