-- ==== Sys2Proof/Machine/Report.lean ====
section
/-! DEFINITION. The performance report: appending an entry, making room for a safety kind, the lost count and the full
marker (R56, R57, R58). -/

namespace Sys2Proof.Machine

/-- The safety kinds (R56). -/
def ReportKind.safety : ReportKind → Bool
  | .phase | .demo | .alarm | .zone | .curtain => true
  | .hold | .call | .cueRefused | .contact | .mark | .table => false

/-- The report without its oldest entry that is not of a safety kind (R57). -/
def dropOldestOther (report : List ReportEntry) : List ReportEntry :=
  report.eraseP fun entry => !entry.kind.safety

/-- The first removal or drop while the full marker is clear sets REPORT_FULL and the marker (R58). -/
def markFull (s : State) : State :=
  if s.phase.fullMarker then s
  else setAttention .reportFull (s.onPhase fun p => { p with fullMarker := true })

/-- Offer an entry to the performance report (R57). -/
def appendEntry (entry : ReportEntry) (s : State) : State :=
  if s.phase.report.length < Config.reportCapacity then
    s.onPhase fun p => { p with report := p.report ++ [entry] }
  else if entry.kind.safety && s.phase.report.any (fun e => !e.kind.safety) then
    markFull (s.onPhase fun p => { p with report := dropOldestOther p.report ++ [entry] })
  else
    markFull (s.onPhase fun p => { p with lost := min 255 (p.lost + 1) })

/-- Offer an entry timed at the present reading (R26). -/
def report (kind : ReportKind) (data : List Byte) (s : State) : State :=
  appendEntry { time := s.clock, kind := kind, data := data } s

end Sys2Proof.Machine
end

