-- ==== Sys2Proof/Machine/Bells.lean ====
section
/-! DEFINITION. The Bell Generators (chapter 10): the pattern table, a pattern's duration, and a generator's start, stop and
segment expiry. -/

namespace Sys2Proof.Machine

/-- The duration of a pattern in milliseconds (R193). -/
def Pattern.duration (p : Pattern) : Nat :=
  p.bursts * (p.rings * p.ring * 10 + (p.rings - 1) * p.gap * 10) + (p.bursts - 1) * p.burstGap * 100

/-- The definition of a pattern number, if it has one. -/
def patternOf (s : State) (number : Nat) : Option Pattern := (s.bells.patterns[number]?).join

/-- Change one generator's record. -/
def setGenerator (b : Nat) (g : Generator) (s : State) : State :=
  s.onBells fun u => { u with generators := u.generators.setIfInBounds b g }

/-- A generator in RING on its latched pattern: relay energised, segment timer started with the ring time (R195,
R196). -/
def ringing (latched : Latched) (r k : Nat) (s : State) : Generator where
  state := .ring
  latched := some latched
  r := r
  k := k
  timer := some (s.timerOf (latched.pattern.ring * 10))
  relay := true

/-- A start of a generator on a pattern, in any of its states (R195). -/
def startGenerator (number : Nat) (pattern : Pattern) (b : Nat) (s : State) : State :=
  setGenerator b (ringing { number := number, pattern := pattern } 1 1 s) s

/-- A stop of a generator, in any of its states (R197). -/
def stopGenerator (b : Nat) (s : State) : State := setGenerator b .initial s

/-- The generator after the expiry of its segment timer, by state and indices (R196). -/
def nextSegment (g : Generator) (latched : Latched) (s : State) : Generator :=
  let p := latched.pattern
  match g.state with
  | .idle => g
  | .ring =>
    if g.r < p.rings then
      { g with state := .gap, timer := some (s.timerOf (p.gap * 10)), relay := false }
    else if g.k < p.bursts then
      if 0 < p.burstGap then
        { g with state := .burstGap, timer := some (s.timerOf (p.burstGap * 100)), relay := false }
      else ringing latched 1 (g.k + 1) s
    else .initial
  | .gap => ringing latched (g.r + 1) g.k s
  | .burstGap => ringing latched 1 (g.k + 1) s

/-- A generator's segment timer expires (R196). -/
def segmentExpiry (b : Nat) (s : State) : State :=
  match s.bells.generators[b]? with
  | none => s
  | some g =>
    match g.latched with
    | none => s
    | some latched => if due g.timer s.clock then setGenerator b (nextSegment g latched s) s else s

/-- Apply a pattern entry (R192). -/
def applyPattern (load : PatternLoad) (s : State) : State :=
  match load with
  | .delete number => s.onBells fun u => { u with patterns := u.patterns.setIfInBounds number none }
  | .set number p => s.onBells fun u => { u with patterns := u.patterns.setIfInBounds number (some p) }

end Sys2Proof.Machine
end

