-- ==== Sys2Proof/Machine/Lights.lean ====
section
/-! DEFINITION. The House Light Unit (chapter 5) up to what it sends: the policy table, console tracking, the house groups
and their fades, the output levels, the rewrite of a LEVEL frame, the demonstration figure and relay K4. -/

namespace Sys2Proof.Machine

/-! ## The policy table (5.2) -/

/-- The entry's key is this segment and channel (R75). -/
def PolicyDef.hasKey (d : PolicyDef) (segment channel : Nat) : Bool :=
  decide (d.segment = segment ∧ d.channel = channel)

/-- The key order: by segment, then by channel (R75). -/
def PolicyDef.before (d e : PolicyDef) : Bool :=
  decide (d.segment < e.segment ∨ (d.segment = e.segment ∧ d.channel < e.channel))

/-- The entry that governs a channel, if it is governed (5.2). -/
def findPolicy (s : State) (segment channel : Nat) : Option PolicyEntry :=
  s.lights.policy.find? fun e => e.defn.hasKey segment channel

/-- A channel is silent while its silence timer is expired (R80). -/
def PolicyEntry.silent (e : PolicyEntry) : Bool := e.silence.isNone

/-- The console level counted in outputs: the last console level, or 0 if silent (R80). -/
def PolicyEntry.consoleLevel (e : PolicyEntry) : Nat := if e.silent then 0 else e.lastLevel.toNat

/-- A definition makes its channel one of group `g` (R75). -/
def PolicyDef.inGroup (d : PolicyDef) (g : Nat) : Bool := decide (d.role = .house ∧ d.group.toNat = g)

/-- The HOUSE entries of a group (R75). -/
def groupEntries (s : State) (g : Nat) : List PolicyEntry := s.lights.policy.filter fun e => e.defn.inGroup g

/-- The highest of a list of numbers, 0 if it is empty. -/
def highest (levels : List Nat) : Nat := levels.foldl max 0

/-- Change one group's record. -/
def setGroup (g : Nat) (group : Group) (s : State) : State :=
  s.onLights fun l => { l with groups := l.groups.setIfInBounds g group }

/-! ## Groups (5.4) -/

/-- What the request and command rules of this unit answer: a result and the state. -/
abbrev Response := Result × State

/-- HFAD and the HFADE action (R82, R67). -/
def houseFade (g level time : Nat) (s : State) : Response :=
  match s.lights.groups[g]? with
  | none => (.refusedRange, s)
  | some group =>
    if 36000 < time then (.refusedRange, s)
    else if group.owner = .console then (.refusedState, s)
    else if time = 0 then
      (.done, setGroup g { group with level := level, fade := none, stepTimer := none } s)
    else
      (.done, setGroup g
        { group with
          fade := some { start := group.level, target := level, steps := 4 * time, index := 0 }
          stepTimer := some (s.timerOf 25) } s)

/-- The level of a fade at step i: L0 + trunc((T − L0) × i / n) (R83). -/
def Fade.levelAt (fade : Fade) (i : Nat) : Nat :=
  ((fade.start : Int) + Int.tdiv (((fade.target : Int) - fade.start) * i) fade.steps).toNat

/-- One step of a group's fade (R83). -/
def fadeStep (g : Nat) (s : State) : State :=
  match s.lights.groups[g]? with
  | none => s
  | some group =>
    match group.fade with
    | none => s
    | some fade =>
      if due group.stepTimer s.clock then
        if fade.index + 1 < fade.steps then
          setGroup g
            { group with
              level := fade.levelAt (fade.index + 1)
              fade := some { fade with index := fade.index + 1 }
              stepTimer := some (s.timerOf 25) } s
        else setGroup g { group with level := fade.target, fade := none, stepTimer := none } s
      else s

/-- HREL (R84). -/
def releaseGroup (g : Nat) (s : State) : Response :=
  match s.lights.groups[g]? with
  | none => (.refusedRange, s)
  | some group =>
    if group.owner = .console then (.done, s)
    else if groupEntries s g ≠ [] ∧ (groupEntries s g).all PolicyEntry.silent then (.refusedState, s)
    else (.done, setGroup g { group with owner := .console, fade := none, stepTimer := none } s)

/-- The level a group has when the part takes it: 257 × its highest last console level, silent or not (R85, R86). -/
def takenLevel (s : State) (g : Nat) : Nat :=
  257 * highest ((groupEntries s g).map fun e => e.lastLevel.toNat)

/-- HTAK (R85). -/
def takeGroup (g : Nat) (s : State) : Response :=
  match s.lights.groups[g]? with
  | none => (.refusedRange, s)
  | some group =>
    if group.owner = .part then (.done, s)
    else (.done, setGroup g { level := takenLevel s g, owner := .part, fade := none, stepTimer := none } s)

/-- The take-back check of a group (R86). -/
def takeBackCheck (g : Nat) (s : State) : State :=
  match s.lights.groups[g]? with
  | none => s
  | some group =>
    if group.owner = .console ∧ groupEntries s g ≠ [] ∧ (groupEntries s g).all PolicyEntry.silent then
      setAttention .consoleSilent
        (setGroup g { level := takenLevel s g, owner := .part, fade := none, stepTimer := none } s)
    else s

/-- A governed channel's silence timer expires: the channel becomes silent, and a HOUSE channel's group is checked
(R80, R86). -/
def silenceExpiry (segment channel : Nat) (s : State) : State :=
  match findPolicy s segment channel with
  | none => s
  | some entry =>
    if due entry.silence s.clock then
      let s := s.onLights fun l =>
        { l with policy := l.policy.map fun e => if e.defn.hasKey segment channel then { e with silence := none } else e }
      if entry.defn.role = .house then takeBackCheck entry.defn.group.toNat s else s
    else s

/-! ## Loads of the policy table (R76) -/

/-- Insert an entry at its place in key order (R76). -/
def insertPolicy (entry : PolicyEntry) : List PolicyEntry → List PolicyEntry
  | [] => [entry]
  | e :: rest => if entry.defn.before e.defn then entry :: e :: rest else e :: insertPolicy entry rest

/-- The group a definition puts its channel in, if any. -/
def PolicyDef.memberOf (d : PolicyDef) : Option Nat := if d.role = .house then some d.group.toNat else none

/-- The take-back checks after a change of a channel's group membership (R76, R86). -/
def membershipChecks (before after : Option Nat) (s : State) : State :=
  if before = after then s
  else
    let s := match before with
      | none => s
      | some g => takeBackCheck g s
    match after with
    | none => s
    | some g => takeBackCheck g s

/-- Apply a policy entry (R76, R77). -/
def applyPolicy (load : PolicyLoad) (s : State) : Response :=
  match load with
  | .delete segment channel =>
    match findPolicy s segment channel with
    | none => (.done, s)
    | some old =>
      (.done, membershipChecks old.defn.memberOf none
        (s.onLights fun l => { l with policy := l.policy.filter fun e => !e.defn.hasKey segment channel }))
  | .set d =>
    match findPolicy s d.segment d.channel with
    | some old =>
      (.done, membershipChecks old.defn.memberOf d.memberOf
        (s.onLights fun l =>
          { l with
            policy := l.policy.map fun e => if e.defn.hasKey d.segment d.channel then { e with defn := d } else e }))
    | none =>
      if s.lights.policy.length < Config.policyCapacity then
        (.done, membershipChecks none d.memberOf
          (s.onLights fun l =>
            { l with
              policy := insertPolicy
                { defn := d, lastLevel := 0, lastConsole := none, silence := none, lastOutput := none } l.policy }))
      else (.refusedFull, s)

/-! ## LEVEL payloads (R78) -/

/-- The two forms of a LEVEL payload. -/
inductive LevelForm where
  | run
  | pair
  deriving DecidableEq, Repr

/-- A valid LEVEL payload's form and segment; `none` is a rejected payload (R78). -/
def levelForm (payload : List Byte) : Option (LevelForm × Nat) :=
  match payload with
  | [] => none
  | b :: _ =>
    if 3 < b.toNat % 16 then none
    else if b.toNat / 16 = 0 ∧ 4 ≤ payload.length ∧ payload.length ≤ 239 then some (.run, b.toNat % 16)
    else if b.toNat / 16 = 1 ∧ payload.length % 3 = 1 ∧ payload.length ≤ 238 then some (.pair, b.toNat % 16)
    else none

/-- The channels and levels of pair-form bytes. -/
def readPairs : List Byte → List (Nat × Byte)
  | hi :: lo :: level :: rest => (number2 hi lo, level) :: readPairs rest
  | _ => []

/-- The channels and levels of a run. -/
def readRun (start : Nat) : List Byte → List (Nat × Byte)
  | [] => []
  | level :: rest => (start, level) :: readRun (start + 1) rest

/-- The segment, channels and levels a valid LEVEL payload carries, in frame order (R78). -/
def carriedLevels (payload : List Byte) : Option (Nat × List (Nat × Byte)) :=
  match levelForm payload, payload with
  | some (.run, segment), _ :: hi :: lo :: levels => some (segment, readRun (number2 hi lo) levels)
  | some (.pair, segment), _ :: pairs => some (segment, readPairs pairs)
  | _, _ => none

/-- Track one channel of a console frame (R79); a channel above 511 or not governed is not tracked. -/
def trackChannel (segment : Nat) (item : Nat × Byte) (s : State) : State :=
  if 511 < item.1 then s
  else
    s.onLights fun l =>
      { l with
        policy := l.policy.map fun e =>
          if e.defn.hasKey segment item.1 then
            { e with
              lastLevel := item.2
              lastConsole := some s.clock
              silence := some (s.timerOf s.command.profile.refreshLimit) }
          else e }

/-- Console tracking of a LEVEL frame at its hand-off (R79). -/
def trackLevels (payload : List Byte) (s : State) : State :=
  match carriedLevels payload with
  | none => s
  | some (segment, items) => forEach items (trackChannel segment) s

/-! ## Output levels (5.5) -/

/-- A 16-bit group level scaled to eight bits (R87). -/
def scaleLevel (level : Nat) : Nat := (level * 255 + 32767) / 65535

/-- The override (R88). -/
def overrideActive (s : State) : Bool :=
  !s.zones.alarm.confirmed.isEmpty || decide (s.phase.phase = .evacuating) || s.phase.showStop

/-- A window is OPEN. -/
def windowOpen (s : State) (w : Nat) : Bool :=
  match s.zones.windows[w]? with
  | none => false
  | some window => window.isOpen

/-- The level a HOUSE channel carries outside the override (R89). -/
def houseLevel (s : State) (e : PolicyEntry) : Nat :=
  match s.lights.groups[e.defn.group.toNat]? with
  | none => e.consoleLevel
  | some group =>
    if group.owner = .console then e.consoleLevel
    else if e.defn.merge = 1 then max (scaleLevel group.level) e.consoleLevel
    else if e.defn.merge = 2 then min (scaleLevel group.level) e.consoleLevel
    else scaleLevel group.level

/-- The level a governed channel carries in a LEVEL frame that starts out now (R88, R89, R90). -/
def outputLevel (s : State) (e : PolicyEntry) : Byte :=
  if overrideActive s then (if e.defn.role = .effect then 0 else e.defn.alarm)
  else
    match e.defn.role with
    | .house => byte (houseLevel s e)
    | .aisle => byte (max e.consoleLevel e.defn.floor.toNat)
    | .stageWork => byte e.consoleLevel
    | .effect => if windowOpen s e.defn.window.toNat then byte e.consoleLevel else 0

/-- The level byte of a channel after the rewrite: the part's own for a governed channel, as it was otherwise
(R91). -/
def rewriteByte (s : State) (segment channel : Nat) (level : Byte) : Byte :=
  if 511 < channel then level
  else
    match findPolicy s segment channel with
    | none => level
    | some e => outputLevel s e

/-- Rewrite pair-form bytes (R91). -/
def rewritePairs (s : State) (segment : Nat) : List Byte → List Byte
  | hi :: lo :: level :: rest =>
    hi :: lo :: rewriteByte s segment (number2 hi lo) level :: rewritePairs s segment rest
  | rest => rest

/-- Rewrite the levels of a run (R91). -/
def rewriteRun (s : State) (segment : Nat) : Nat → List Byte → List Byte
  | _, [] => []
  | channel, level :: rest => rewriteByte s segment channel level :: rewriteRun s segment (channel + 1) rest

/-- The payload of a LEVEL frame at its send start; a rejected payload goes on as it was (R78, R91). -/
def rewriteLevels (s : State) (payload : List Byte) : List Byte :=
  match levelForm payload, payload with
  | some (.run, segment), b :: hi :: lo :: levels => b :: hi :: lo :: rewriteRun s segment (number2 hi lo) levels
  | some (.pair, segment), b :: pairs => b :: rewritePairs s segment pairs
  | _, _ => payload

/-- The governed channels a LEVEL frame carries take the send start as their last output time (R91). -/
def noteOutputs (payload : List Byte) (s : State) : State :=
  match carriedLevels payload with
  | none => s
  | some (segment, items) =>
    s.onLights fun l =>
      { l with
        policy := l.policy.map fun e =>
          if e.defn.segment = segment ∧ e.defn.channel ≤ 511 ∧ (items.map Prod.fst).contains e.defn.channel then
            { e with lastOutput := some s.clock }
          else e }

/-! ## What the unit hands to others (5.7) -/

/-- A group's demonstration figure (R95). -/
def demonstrationFigure (s : State) (g : Nat) : Nat :=
  match s.lights.groups[g]? with
  | none => 0
  | some group =>
    if group.owner = .part then group.level
    else 257 * highest ((groupEntries s g).map PolicyEntry.consoleLevel)

/-- Re-derive relay K4 from the confirmed set and the phase (R96). -/
def deriveK4 (s : State) : State :=
  s.onLights fun l => { l with k4 := !s.zones.alarm.confirmed.isEmpty || decide (s.phase.phase = .evacuating) }

end Sys2Proof.Machine
end

