-- ==== Sys2Proof/Machine/LoopOut.lean ====
section
/-! DEFINITION. The sending side of the Loop Port Unit: the origin queue (R14, R15, R16), the OUT-port arbiter (R17, R18),
the send start (R19), the NOTICE (R217), and the refresh check that offers LEVEL frames (R92, R93). -/

namespace Sys2Proof.Machine

/-- The part is numbered: its straps read 1–126 (R12). -/
def State.numbered (s : State) : Bool := decide (1 ≤ s.loop.node.toNat ∧ s.loop.node.toNat ≤ 126)

/-- The part's node number as a source byte (R3). -/
def State.nodeByte (s : State) : Byte := s.loop.node.setWidth 8

/-! ## The OUT port (1.7) -/

/-- What the arbiter selects: a frame, the queues it leaves, and the forward-run count after it (R18). -/
structure Selection where
  frame : Frame
  forward : List Frame
  origin : List OriginFrame
  run : Nat
  deriving DecidableEq, Repr

/-- The arbiter's selection, the first of its four steps that exists (R18). -/
def select (l : LoopPort) : Option Selection :=
  match l.origin.find? OriginFrame.urgent, l.forward, l.origin with
  | some urgent, _, _ =>
    some { frame := urgent.frame, forward := l.forward, origin := l.origin.eraseP OriginFrame.urgent, run := 0 }
  | none, head :: rest, [] =>
    some { frame := head, forward := rest, origin := [], run := min 4 (l.forwardRun + 1) }
  | none, head :: rest, oldest :: others =>
    if l.forwardRun < 4 then
      some { frame := head, forward := rest, origin := l.origin, run := l.forwardRun + 1 }
    else some { frame := oldest.frame, forward := l.forward, origin := others, run := 0 }
  | none, [], oldest :: others => some { frame := oldest.frame, forward := [], origin := others, run := 0 }
  | none, [], [] => none

/-- The frame as its send start fixes it: a LEVEL frame is rewritten from the state at this moment (R19). -/
def fixedBytes (s : State) (frame : Frame) : Frame :=
  if frame.kind = kindLevel then { frame with payload := rewriteLevels s frame.payload } else frame

/-- The channels of a LEVEL frame that starts out take their last output time (R91). -/
def sendOutputs (frame : Frame) (s : State) : State :=
  if frame.kind = kindLevel then noteOutputs frame.payload s else s

/-- The send start of a selected frame: it leaves its queue, its bytes and their CRC are fixed, and the port is SENDING
for N + 6 character times at the divisor in use (R17, R19). -/
def startSend (sel : Selection) (s : State) : State :=
  sendOutputs sel.frame
    (s.onLoop fun l =>
      { l with
        forward := sel.forward
        origin := sel.origin
        forwardRun := sel.run
        sending := some
          { frame := fixedBytes s sel.frame
            crc := crc16 (fixedBytes s sel.frame).bytes
            span :=
              { start := s.clock
                cycles := ((fixedBytes s sel.frame).payload.length + 6) * characterCycles l.outDivisor } } })

/-- The arbiter runs if the port is FREE (R17). -/
def arbitrate (s : State) : State :=
  match s.loop.sending with
  | some _ => s
  | none =>
    match select s.loop with
    | none => s
    | some sel => startSend sel s

/-- The last CRC character has been sent: the port becomes FREE, takes the profile's divisor, and the arbiter selects the
next frame (R2, R17). -/
def sendCompletion (s : State) : State :=
  if lineDue (s.loop.sending.map Sending.span) s.clock then
    arbitrate (s.onLoop fun l => { l with sending := none, outDivisor := s.command.profile.lineDivisor })
  else s

/-! ## The origin queue (1.6) -/

/-- The segment a LEVEL payload names. -/
def levelSegment (payload : List Byte) : Option Nat := payload.head?.map fun b => b.toNat % 16

/-- An offered frame coalesces with a queued frame of the same kind and destination, and for LEVEL of the same segment
(R15). -/
def coalesces (offered queued : Frame) : Bool :=
  decide (offered.kind = queued.kind ∧ offered.dest = queued.dest ∧
    (offered.kind = kindLevel → levelSegment offered.payload = levelSegment queued.payload))

/-- Replace the first queued frame the offered frame coalesces with, urgent if either was (R15). -/
def coalesce (offered : OriginFrame) : List OriginFrame → List OriginFrame
  | [] => []
  | q :: rest =>
    if coalesces offered.frame q.frame then { frame := offered.frame, urgent := q.urgent || offered.urgent } :: rest
    else q :: coalesce offered rest

/-- An offered frame joins the origin queue by coalescing, at the tail, or by displacement (R14, R15, R16). -/
def joinOrigin (offered : OriginFrame) (s : State) : State :=
  if s.loop.origin.any fun q => coalesces offered.frame q.frame then
    s.onLoop fun l => { l with origin := coalesce offered l.origin }
  else if s.loop.origin.length < Config.originCapacity then
    s.onLoop fun l => { l with origin := l.origin ++ [offered] }
  else if s.loop.origin.any fun q => !q.urgent then
    setAttention .originOverrun
      (s.onLoop fun l => { l with origin := (l.origin.eraseP fun q => !q.urgent) ++ [offered] })
  else setAttention .originOverrun s

/-- Offer a frame the part has built; an unnumbered part discards it (R12, R14, R17). -/
def offer (kind dest : Byte) (payload : List Byte) (urgent : Bool) (s : State) : State :=
  if s.numbered then
    arbitrate
      (joinOrigin { frame := { dest := dest, source := s.nodeByte, kind := kind, payload := payload }, urgent := urgent } s)
  else s

/-! ## The NOTICE (11.6) -/

/-- The alarm summary's five values, bits 1 to 5 of NOTICE byte 3 (R217, R221). -/
def AlarmRecord.bits (a : AlarmRecord) : List Bool := [a.stage, a.house, a.front, a.prealarm, a.fault]

/-- The seventeen payload bytes of a NOTICE (R217, R221). -/
def noticePayload (s : State) : List Byte :=
  [byte s.phase.phase.code, byte s.phase.act,
    packBits (s.phase.showStop :: s.zones.alarm.bits ++ [decide (s.loop.ring = .ok)]),
    byte s.zones.alarm.confirmed.length] ++
  bytes2 s.phase.curtainUp ++ bytes2 s.phase.intervalLeft ++
  [byte (curtainCode s.curtain.state s.curtain.cause), optionByte (s.curtain.cause.map FaultCause.code),
    byte s.curtain.mode.code] ++
  bytes2 s.curtain.position ++
  [byte s.phase.demoStatus.code, optionByte (s.phase.demoStatus.reason.map DemoReason.code)] ++
  bytes2 s.command.attention.toNat

/-- Build a NOTICE and offer it; the build is an attention report (R215, R217). -/
def notice (urgent : Bool) (s : State) : State :=
  offer kindNotice allNodes (noticePayload s) urgent (reportAttention s)

/-- The notice timer expires: a periodic NOTICE, and the timer restarts with the notice interval (R217). -/
def noticeExpiry (s : State) : State :=
  if s.command.noticeTimer.expired s.clock then
    notice false (s.onCommand fun c => { c with noticeTimer := s.timerOf c.profile.noticeInterval })
  else s

/-! ## Refresh (5.6) -/

/-- A governed channel is due for refresh (R92). -/
def refreshDue (s : State) (e : PolicyEntry) : Bool :=
  match e.lastOutput with
  | none => true
  | some t => decide (s.command.profile.refreshLimit ≤ duration s.clock t)

/-- The payload of a segment's refresh frame: its due channels in ascending order, at most 79 (R93). -/
def refreshPayload (s : State) (segment : Nat) (entries : List PolicyEntry) : List Byte :=
  byte (16 + segment) ::
    (entries.take Config.refreshPairs).flatMap fun e => bytes2 e.defn.channel ++ [outputLevel s e]

/-- Offer the refresh frame of a segment that has a due channel (R92, R93). -/
def refreshSegment (segment : Nat) (s : State) : State :=
  match s.lights.policy.filter fun e => decide (e.defn.segment = segment) && refreshDue s e with
  | [] => s
  | entries => offer kindLevel allNodes (refreshPayload s segment entries) (overrideActive s) s

/-- A refresh check, every 100 ms (R92). -/
def refreshCheck (s : State) : State :=
  if s.lights.refreshTimer.expired s.clock then
    forEach (List.range 4) refreshSegment
      (s.onLights fun l => { l with refreshTimer := { l.refreshTimer with start := l.refreshTimer.start + 100 } })
  else s

end Sys2Proof.Machine
end

