-- ==== Sys2Proof/Machine/Calls.lean ====
section
/-! DEFINITION. The Call Unit (chapter 9): requests and the call queue, eligibility and selection, the start copy and the
soundings, pre-emption, requeue, cancelling, schedules, and what it does when it is told of the phase, of show stop and of
the alarm condition. -/

namespace Sys2Proof.Machine

/-! ## Definitions -/

/-- The id of the built-in call EVAC (R173). -/
def evacId : Nat := 62
/-- The id of the built-in call STAFF (R173). -/
def staffId : Nat := 63

/-- The definition of a call id 0–31, if it has one. -/
def callEntry (s : State) (id : Nat) : Option CallEntry := (s.calls.defs[id]?).join

/-- The id is a built-in call, or has a definition. -/
def callDefined (s : State) (id : Nat) : Bool := decide (id = evacId ∨ id = staffId) || (callEntry s id).isSome

/-- A call's priority: a built-in's is 3, any other from its definition (R171, R173). -/
def callPriority (s : State) (id : Nat) : Nat :=
  if id = evacId ∨ id = staffId then 3
  else
    match callEntry s id with
    | none => 0
    | some e => e.defn.priority

/-- A call's lifetime in seconds; EVAC has none (R173, R176). -/
def callLifetime (s : State) (id : Nat) : Option Nat :=
  if id = evacId then none
  else if id = staffId then some s.command.profile.staffLifetime
  else (callEntry s id).map fun e => e.defn.lifetime

/-- The areas a call names: EVAC all, STAFF the STAFF areas, any other its area set (R171, R173). -/
def callNames (s : State) (id area : Nat) (d : AreaDef) : Bool :=
  if id = evacId then true
  else if id = staffId then decide (d.areaClass = .staff)
  else
    match callEntry s id with
    | none => false
    | some e => e.defn.areas.getLsbD area

/-! ## Report entries (R179) -/

/-- The outcomes of a call (R179). -/
inductive CallOutcome where
  | done
  | suppressed
  | merged
  | refused
  | displaced
  | lapsed
  | aborted
  | undefined
  | cancelled
  | ended
  deriving DecidableEq, Repr

/-- Call outcome codes (R221). -/
def CallOutcome.code : CallOutcome → Nat
  | .done => 0
  | .suppressed => 1
  | .merged => 2
  | .refused => 3
  | .displaced => 4
  | .lapsed => 5
  | .aborted => 6
  | .undefined => 7
  | .cancelled => 8
  | .ended => 9

/-- Append the CALL entry of an instance's outcome (R179). -/
def reportCall (call : CallInstance) (outcome : CallOutcome) (s : State) : State :=
  report .call [byte call.id, byte outcome.code, byte call.source.code, byte call.priority, byte call.soundings, 0xFF] s

/-- Append the CALL entry of a request's outcome: the request has sounded nothing; its priority is its definition's
(R179, log entry 16). -/
def reportRequest (id : Nat) (source : CallSource) (outcome : CallOutcome) (reason : Option Result) (s : State) : State :=
  let priority := if callDefined s id then byte (callPriority s id) else Config.undefinedCallPriority s.clock id
  report .call [byte id, byte outcome.code, byte source.code, priority, 0, optionByte (reason.map Result.code)] s

/-! ## The queue (9.4) -/

/-- Replace the call queue. -/
def setQueue (queue : List CallInstance) (s : State) : State := s.onCalls fun c => { c with queue := queue }

/-- Replace the call player. -/
def setPlayer (player : Player) (s : State) : State := s.onCalls fun c => { c with player := player }

/-- The sounding instance: the one the player holds in SOUNDING or GAP (R167). -/
def Player.call : Player → Option CallInstance
  | .idle => none
  | .sounding call _ _ => some call
  | .gap call _ _ => some call

/-- The start copy of the sounding instance. -/
def Player.copy : Player → Option StartCopy
  | .idle => none
  | .sounding _ copy _ => some copy
  | .gap _ copy _ => some copy

/-- The id is queued or sounding (R175). -/
def callHeld (s : State) (id : Nat) : Bool :=
  s.calls.queue.any (fun c => decide (c.id = id)) || decide (s.calls.player.call.map CallInstance.id = some id)

/-- Insert a new instance after every instance of equal or higher priority (R176). -/
def insertCall (call : CallInstance) : List CallInstance → List CallInstance
  | [] => [call]
  | c :: rest => if call.priority ≤ c.priority then c :: insertCall call rest else call :: c :: rest

/-- Insert a requeued instance before the first of its own priority (R176, R187). -/
def requeueCall (call : CallInstance) : List CallInstance → List CallInstance
  | [] => [call]
  | c :: rest => if call.priority < c.priority then c :: requeueCall call rest else call :: c :: rest

/-- The instance displaced by one of priority `p`: the youngest of the lowest priority present, which is the last in queue
order, if its priority is below `p` (R177). -/
def displaceable (p : Nat) (queue : List CallInstance) : Option CallInstance :=
  match queue.getLast? with
  | none => none
  | some last => if last.priority < p then some last else none

/-- Remove the displaced instance: a DISPLACED entry and CALL_LOST (R177, R179). -/
def displace (victim : CallInstance) (s : State) : State :=
  setAttention .callLost (reportCall victim .displaced (setQueue s.calls.queue.dropLast s))

/-- The instance of a request taken now (R176). -/
def newInstance (s : State) (id : Nat) (source : CallSource) : CallInstance where
  id := id
  priority := callPriority s id
  source := source
  enqueued := s.clock
  expiry := (callLifetime s id).map fun life => s.clock + BitVec.ofNat 32 (life * 1000)
  timer := (callLifetime s id).map fun life => s.timerOf (life * 1000)
  repeats := none
  soundings := 0

/-! ## Soundings (9.7) -/

/-- The plan of a plan group as its selector stands (R170). -/
def planOf (s : State) (group : Nat) : Plan := (s.calls.selectors[group]?).getD .a

/-- The station and the bell that an area is routed to (R170, R184). -/
def routeOf (s : State) (d : AreaDef) : Nat × Option Nat :=
  match planOf s d.group with
  | .a => (d.stationA, d.bellA)
  | .b => (d.stationB, d.bellB)

/-- The effective areas of a call at its start: its defined areas, less the in-auditorium ones if the phase is RUNNING
(R184). -/
def effectiveAreas (s : State) (id : Nat) : List (Nat × AreaDef) :=
  (numbered s.calls.areas).filter fun (area, d) =>
    callNames s id area d && !(decide (s.phase.phase = .running) && d.inAuditorium)

/-- The stations of the routes in ascending node order, each with the effective areas routed to it (R184, log
entry 17). -/
def routeStations (s : State) (areas : List (Nat × AreaDef)) : List (Nat × BitVec 12) :=
  (List.range 126).filterMap fun i =>
    match areas.filter fun (_, d) => decide ((routeOf s d).1 = i + 1) with
    | [] => none
    | routed => some (i + 1, (routed.map fun (area, _) => BitVec.twoPow 12 area).foldl (· ||| ·) 0)

/-- The distinct bells of the routes, in ascending order (R184). -/
def routeBells (s : State) (areas : List (Nat × AreaDef)) : List Nat :=
  (List.range 4).filter fun b => areas.any fun (_, d) => decide ((routeOf s d).2 = some b)

/-- The settings a call starts with: pattern, slot, message time in seconds, repeats, gap in seconds (R184). -/
def callSettings (s : State) (id : Nat) : Option (Option Nat × Option Nat × Nat × Repeats × Nat) :=
  let p := s.command.profile
  if id = evacId then some (p.evacPattern, p.evacSlot, p.evacMessage, .continuous, p.evacGap)
  else if id = staffId then some (p.staffPattern, p.staffSlot, p.staffMessage, .count 1, 0)
  else
    (callEntry s id).map fun e =>
      (e.defn.pattern, e.defn.slot, e.defn.messageTime, .count e.defn.repeats, e.defn.gap)

/-- Offer a CALL START to a station of the routes (R184, R221). -/
def offerStart (call : CallInstance) (copy : StartCopy) (station : Nat × BitVec 12) (s : State) : State :=
  offer kindCall (byte station.1) ([1, byte call.id, optionByte copy.slot] ++ maskBytes 2 station.2)
    (decide (call.priority = 3)) s

/-- Offer a CALL STOP to a station of the routes (R186, R221). -/
def offerStop (call : CallInstance) (station : Nat × BitVec 12) (s : State) : State :=
  offer kindCall (byte station.1) [2, byte call.id] (decide (call.priority = 3)) s

/-- The pattern a sounding rings: the copy's, if it has a definition now (R184). -/
def soundingPattern (s : State) (copy : StartCopy) : Option (Nat × Pattern) :=
  match copy.pattern with
  | none => none
  | some number => (patternOf s number).map fun p => (number, p)

/-- The sounding time in milliseconds: the longer of the pattern's duration, if it starts a generator, and the message
time, if a slot is named (R184). -/
def soundingTime (s : State) (copy : StartCopy) : Nat :=
  max
    (match soundingPattern s copy with
      | none => 0
      | some (_, p) => if copy.bells = [] then 0 else p.duration)
    (match copy.slot with
      | none => 0
      | some _ => copy.messageTime * 1000)

/-- A sounding begins: CALL START frames, generators, player timer (R184). -/
def beginSounding (call : CallInstance) (copy : StartCopy) (s : State) : State :=
  let length := soundingTime s copy
  let pattern := soundingPattern s copy
  let s := setPlayer (.sounding call copy (s.timerOf length)) s
  let s := forEach copy.stations (offerStart call copy) s
  match pattern with
  | none => s
  | some (number, p) => forEach copy.bells (startGenerator number p) s

/-- A call starts: its start copy is made and its first sounding begins, or it completes as SUPPRESSED (R184). -/
def startCall (call : CallInstance) (s : State) : State :=
  let areas := effectiveAreas s call.id
  let stations := routeStations s areas
  let bells := routeBells s areas
  match callSettings s call.id with
  | none => reportCall call .undefined s
  | some (pattern, slot, message, repeats, gap) =>
    if stations = [] ∧ bells = [] then reportCall call .suppressed s
    else
      let left := call.repeats.getD repeats
      beginSounding { call with timer := none, repeats := some left }
        { stations := stations, bells := bells, pattern := pattern, slot := slot, messageTime := message,
          repeats := repeats, gap := gap } s

/-! ## Eligibility and selection (9.6) -/

/-- A queued instance is eligible (R182). -/
def eligible (s : State) (call : CallInstance) : Bool :=
  (match callEntry s call.id with
    | none => true
    | some e => decide (call.id = evacId ∨ call.id = staffId) || e.defn.gate.getLsbD s.phase.phase.code) &&
  (!decide (s.phase.phase = .evacuating) || decide (call.priority = 3)) &&
  (!s.phase.showStop || decide (2 ≤ call.priority))

/-- The player is IDLE. -/
def Player.isIdle : Player → Bool
  | .idle => true
  | .sounding _ _ _ => false
  | .gap _ _ _ => false

/-- Walk the queue in queue order: `kept` has been passed, in queue order; the walk ends at the first instance that starts
(R183). -/
def walkQueue (kept : List CallInstance) : List CallInstance → State → State
  | [], s => s
  | call :: rest, s =>
    if !callDefined s call.id then
      walkQueue kept rest (reportCall call .undefined (setQueue (kept ++ rest) s))
    else if eligible s call then
      let s := startCall call (setQueue (kept ++ rest) s)
      if s.calls.player.isIdle then walkQueue kept rest s else s
    else walkQueue (kept ++ [call]) rest s

/-- The generators of a sounding instance's routes are stopped (R185, R186). -/
def stopRoutes (copy : StartCopy) (s : State) : State := forEach copy.bells stopGenerator s

/-- Repeats remaining after one more sounding (R185). -/
def Repeats.less : Repeats → Repeats
  | .count n => .count (n - 1)
  | .continuous => .continuous

/-- An expiry of the player timer (R185). -/
def playerExpires (s : State) : State :=
  match s.calls.player with
  | .idle => s
  | .sounding call copy _ =>
    let s := stopRoutes copy s
    let left := (call.repeats.getD (.count 1)).less
    let call := { call with soundings := min 255 (call.soundings + 1), repeats := some left }
    if left = .count 0 then reportCall call .done (setPlayer .idle s)
    else setPlayer (.gap call copy (s.timerOf (copy.gap * 1000))) s
  | .gap call copy _ => beginSounding call copy s

/-- The player timer was started with length 0: it expires when it is started (R25, R184, R185). A call that repeats
without end and whose soundings and gaps all last 0 ms would never come to rest so, and waits (log entry 8). -/
def expiresAtOnce (s : State) : Bool :=
  let endless (call : CallInstance) (copy : StartCopy) : Bool :=
    decide (call.repeats = some .continuous ∧ copy.gap = 0 ∧ soundingTime s copy = 0)
  match s.calls.player with
  | .idle => false
  | .sounding call copy timer => decide (timer.length = 0) && !endless call copy
  | .gap call copy timer => decide (timer.length = 0) && !endless call copy

/-- The end of an event of the Call Unit: while the player is IDLE it makes a selection, and a player timer of length 0
expires when it is started (R25, R183, R184, R185). The fuel covers every sounding of every instance. -/
def settlePlayer : Nat → State → State
  | 0, s => s
  | fuel + 1, s =>
    if s.calls.player.isIdle then
      let s := walkQueue [] s.calls.queue s
      if s.calls.player.isIdle then s else settlePlayer fuel s
    else if expiresAtOnce s then settlePlayer fuel (playerExpires s)
    else s

/-- The selection at the end of an event of the Call Unit (R183). -/
def selection (s : State) : State := settlePlayer 256 s

/-- The player timer expires: one event of the Call Unit (R185, R183). -/
def playerExpiry (s : State) : State :=
  match s.calls.player with
  | .idle => s
  | .sounding _ _ timer => if timer.expired s.clock then selection (playerExpires s) else s
  | .gap _ _ timer => if timer.expired s.clock then selection (playerExpires s) else s

/-! ## Interruptions (9.8) -/

/-- Steps 1 to 4 of an abort: the generators of the routes are stopped, a CALL STOP goes to each station, and the player
becomes IDLE (R186). -/
def abortSounding (call : CallInstance) (copy : StartCopy) (s : State) : State :=
  setPlayer .idle (forEach copy.stations (offerStop call) (stopRoutes copy s))

/-- An aborted instance of priority 2 is requeued at the front of its priority, lapses, or is dropped (R187). -/
def requeue (call : CallInstance) (s : State) : State :=
  let left (t : Time) : Option Timer := some { start := s.clock, length := duration t s.clock }
  let again := { call with timer := call.expiry.bind left }
  if call.expiry.any (reached s.clock) then reportCall call .lapsed s
  else if s.calls.queue.length < Config.callCapacity then setQueue (requeueCall again s.calls.queue) s
  else
    match displaceable 2 s.calls.queue with
    | some victim =>
      let s := displace victim s
      setQueue (requeueCall again s.calls.queue) s
    | none => setAttention .callLost (reportCall call .aborted s)

/-- A queued request of priority 3 aborts a sounding instance of lower priority (R186). -/
def preempt (priority : Nat) (s : State) : State :=
  match s.calls.player.call, s.calls.player.copy with
  | some call, some copy =>
    if priority = 3 ∧ call.priority < 3 then
      let s := abortSounding call copy s
      if call.priority = 2 then requeue call s
      else setAttention .callLost (reportCall call .aborted s)
    else s
  | _, _ => s

/-! ## Requests (R174) -/

/-- A request refused by the Call Unit: a CALL entry with the reason, and CALL_LOST for want of room (R174, R177,
R179). A selection follows it, as every request (log entry 44). -/
def refuseRequest (id : Nat) (source : CallSource) (reason : Result) (s : State) : Response :=
  let s := reportRequest id source .refused (some reason) s
  (reason, selection (if reason = .refusedFull then setAttention .callLost s else s))

/-- Steps 4 to 6: the instance is inserted, may pre-empt, and a selection follows (R174). -/
def enqueueRequest (id : Nat) (source : CallSource) (s : State) : State :=
  let call := newInstance s id source
  selection (preempt call.priority (setQueue (insertCall call s.calls.queue) s))

/-- A request for a call (R174). -/
def requestCall (id : Nat) (source : CallSource) (s : State) : Response :=
  if !callDefined s id then refuseRequest id source .refusedState s
  else if callHeld s id then (.done, selection (reportRequest id source .merged none s))
  else if s.calls.queue.length < Config.callCapacity then (.done, enqueueRequest id source s)
  else
    match displaceable (callPriority s id) s.calls.queue with
    | some victim => (.done, enqueueRequest id source (displace victim s))
    | none => refuseRequest id source .refusedFull s

/-- CALN (R174): an id above 31 is out of range. -/
def callNow (id : Nat) (s : State) : Response :=
  if 31 < id then refuseRequest id .command .refusedRange s else requestCall id .command s

/-- CALX (R188); a refused one makes no selection (log entry 44). -/
def cancelCall (id : Nat) (s : State) : Response :=
  if ¬ (id ≤ 31 ∨ id = evacId ∨ id = staffId) then (.refusedRange, s)
  else if id = evacId ∧ s.phase.phase = .evacuating then (.refusedState, s)
  else
    match s.calls.queue.find? fun c => decide (c.id = id) with
    | some call =>
      (.done, selection (reportCall call .cancelled
        (setQueue (s.calls.queue.eraseP fun c => decide (c.id = id)) s)))
    | none =>
      match s.calls.player.call, s.calls.player.copy with
      | some call, some copy =>
        if call.id = id then (.done, selection (reportCall call .cancelled (abortSounding call copy s)))
        else (.refusedState, s)
      | _, _ => (.refusedState, s)

/-- The queued instance of an id lapses at its expiry time (R178). -/
def lapseCall (id : Nat) (s : State) : State :=
  match s.calls.queue.find? fun c => decide (c.id = id) with
  | none => s
  | some call =>
    if due call.timer s.clock then
      selection (reportCall call .lapsed (setQueue (s.calls.queue.eraseP fun c => decide (c.id = id)) s))
    else s

/-- EVAC is ended at the end of EVACUATING (R189). -/
def endEvac (s : State) : State :=
  match s.calls.queue.find? fun c => decide (c.id = evacId) with
  | some call => reportCall call .ended (setQueue (s.calls.queue.eraseP fun c => decide (c.id = evacId)) s)
  | none =>
    match s.calls.player.call, s.calls.player.copy with
    | some call, some copy => if call.id = evacId then reportCall call .ended (abortSounding call copy s) else s
    | _, _ => s

/-! ## What the unit is told -/

/-- The telling of a phase change (R189). -/
def callsToldPhase (new previous : Phase) (s : State) : State :=
  if new = .evacuating then (requestCall evacId .fire s).2
  else if previous = .evacuating then selection (endEvac s)
  else if new = .closed ∧ s.zones.alarm.confirmed ≠ [] then (requestCall staffId .fire s).2
  else selection s

/-- The telling of a change of the alarm condition (R190). -/
def callsToldAlarm (before : AlarmRecord) (s : State) : State :=
  if before.confirmed = [] ∧ s.zones.alarm.confirmed ≠ [] ∧ s.phase.phase = .closed then
    (requestCall staffId .fire s).2
  else selection s

/-! ## Schedules (9.5) -/

/-- A definition is scheduled on the anchor. -/
def CallDef.scheduledOn (anchor : Anchor) (d : CallDef) : Bool := decide (d.anchor = some anchor)

/-- Set or clear a definition's fired mark. -/
def setFired (fired : Bool) (id : Nat) (s : State) : State :=
  match callEntry s id with
  | none => s
  | some e => s.onCalls fun c => { c with defs := c.defs.setIfInBounds id (some { e with fired := fired }) }

/-- One definition meets a countdown announcement (R180). -/
def fireSchedule (anchor : Anchor) (value id : Nat) (s : State) : State :=
  match callEntry s id with
  | none => s
  | some e =>
    if e.defn.scheduledOn anchor ∧ e.defn.offset = value ∧ ¬ e.fired then
      setFired true id (requestCall id .schedule s).2
    else s

/-- A countdown announcement, in ascending order of id (R180). -/
def announce (anchor : Anchor) (value : Nat) (s : State) : State :=
  forEach (List.range 32) (fireSchedule anchor value) s

/-- Clear every fired mark (R181: BGPF, RSTR). -/
def clearFired (s : State) : State := forEach (List.range 32) (setFired false) s

/-- Clear the fired marks of the calls scheduled on INTERVAL_END (R181). -/
def clearIntervalFired (s : State) : State :=
  forEach (List.range 32)
    (fun id s =>
      match callEntry s id with
      | none => s
      | some e => if e.defn.scheduledOn .intervalEnd then setFired false id s else s) s

/-! ## Loads (R169, R170, R172) -/

/-- A replacement keeps the fired mark when it is scheduled on the same anchor with the same offset (R172). -/
def keepsFired (old new : CallDef) : Bool :=
  decide (new.anchor ≠ none ∧ old.anchor = new.anchor ∧ old.offset = new.offset)

/-- Apply a call entry (R172). -/
def applyCall (load : CallLoad) (s : State) : State :=
  match load with
  | .delete id => s.onCalls fun c => { c with defs := c.defs.setIfInBounds id none }
  | .set id d =>
    let fired := match callEntry s id with
      | none => false
      | some old => old.fired && keepsFired old.defn d
    s.onCalls fun c => { c with defs := c.defs.setIfInBounds id (some { defn := d, fired := fired }) }

/-- Apply an area entry (R169). -/
def applyArea (load : AreaLoad) (s : State) : State :=
  match load with
  | .delete area => s.onCalls fun c => { c with areas := c.areas.setIfInBounds area none }
  | .set area d => s.onCalls fun c => { c with areas := c.areas.setIfInBounds area (some d) }

/-- The plan of a code (R170). -/
def Plan.ofCode : Nat → Option Plan
  | 0 => some .a
  | 1 => some .b
  | _ => none

/-- RPLN (R170); a selection follows (R183), but not one that is refused (log entry 44). -/
def routePlan (group plan : Nat) (s : State) : Response :=
  match Plan.ofCode plan with
  | none => (.refusedRange, s)
  | some p =>
    if 2 < group then (.refusedRange, s)
    else (.done, selection (s.onCalls fun c => { c with selectors := c.selectors.setIfInBounds group p }))

end Sys2Proof.Machine
end

