-- ==== Sys2Proof/Machine/Curtain.lean ====
section
/-! DEFINITION. The Curtain Supervisor (chapters 7 and 8): a change of the curtain's state (R126), the DRIVE frames it
offers (R127), the release (R145), the descent estimator (R149 to R156), the demonstration sequence (R157 to R166), the
requests of the curtain commands, the POS frame, the limit lines, and what the unit is told by the other blocks. -/

namespace Sys2Proof.Machine

/-- The reading of a contact line (R33). -/
def lineReading (s : State) (line : Nat) : Reading :=
  match s.lines[line]? with
  | none => .normal
  | some l => l.reading

/-- The curtain's state as its byte, with its cause (R221). -/
def Curtain.code (c : Curtain) : Byte := byte (curtainCode c.state c.cause)

/-- Append a CURTAIN entry: event, new state, previous state, mode, value (R126, R221). -/
def reportCurtain (event : Byte) (new previous : Byte) (value : Nat) (s : State) : State :=
  report .curtain ([event, new, previous, byte s.curtain.mode.code] ++ bytes2 value) s

/-- Append a CURTAIN entry of an event that changes nothing: the state stands as both new and previous state (log
entry 15). -/
def reportStanding (event : Byte) (value : Nat) (s : State) : State :=
  reportCurtain event s.curtain.code s.curtain.code value s

/-! ## DRIVE frames (R127) -/

/-- The commands of a DRIVE frame. -/
inductive DriveCommand where
  | stop
  | lower
  | raise
  deriving DecidableEq, Repr

/-- DRIVE command codes (R221). -/
def DriveCommand.code : DriveCommand → Byte
  | .stop => 0
  | .lower => 1
  | .raise => 2

/-- Offer a DRIVE frame with the mode of the record; none while the drive node is 0 (R127). -/
def offerDrive (command : DriveCommand) (s : State) : State :=
  if s.command.profile.driveNode = 0 then s
  else
    offer kindDrive (byte s.command.profile.driveNode) [command.code, byte s.curtain.mode.code] true s

/-- The command of the frame that a state offers, local control aside (R127). -/
def CurtainState.drive : CurtainState → Option DriveCommand
  | .unknown => none
  | .lowering => some .lower
  | .raising => some .raise
  | .atFloor | .stored | .stopped | .deadTime | .released | .fault => some .stop

/-- Offer the DRIVE frame of the present state; under local control only RELEASED offers one (R127). -/
def offerStateDrive (s : State) : State :=
  match s.curtain.state.drive with
  | none => s
  | some command =>
    if s.curtain.flags.localControl ∧ s.curtain.state ≠ .released then s else offerDrive command s

/-! ## A change of state (R126) -/

/-- What a rule makes of the curtain: state, fault cause, mode and pending direction (R125). -/
structure Move where
  state : CurtainState
  cause : Option FaultCause
  mode : Mode
  pending : Option Pending
  deriving DecidableEq, Repr

/-- A move to a state of mode NORMAL, without cause or pending direction. -/
def Move.plain (state : CurtainState) : Move := { state := state, cause := none, mode := .normal, pending := none }

/-- A move into a movement with a mode. -/
def Move.moving (state : CurtainState) (mode : Mode) : Move :=
  { state := state, cause := none, mode := mode, pending := none }

/-- A move into FAULT with its cause. -/
def Move.faulted (cause : FaultCause) : Move := { state := .fault, cause := some cause, mode := .normal, pending := none }

/-- A move into DEAD_TIME with a pending direction and its mode. -/
def Move.pausing (pending : Pending) (mode : Mode) : Move :=
  { state := .deadTime, cause := none, mode := mode, pending := some pending }

/-- The states in which the position stale timer runs (R131). -/
def CurtainState.positioned : CurtainState → Bool
  | .lowering | .raising | .released => true
  | .unknown | .atFloor | .stored | .stopped | .deadTime | .fault => false

/-- The descent start time stays present through these (R125). -/
def Move.descending (next : Move) : Bool :=
  decide (next.state = .lowering ∨ next.state = .released ∨ (next.state = .deadTime ∧ next.pending = some .lower))

/-- The estimator after a move: it runs on in LOWERING with a descent start time and in RELEASED (R150); the late action
mark is cleared when the mode becomes EMERGENCY within LOWERING (R156). -/
def movedEstimator (c : Curtain) (next : Move) : Estimator :=
  { c.estimator with
    running := c.estimator.running &&
      (decide (next.state = .released) || (decide (next.state = .lowering) && c.descentStart.isSome))
    lateAction := c.estimator.lateAction &&
      !decide (c.state = .lowering ∧ next.state = .lowering ∧ c.mode ≠ .emergency ∧ next.mode = .emergency) }

/-- Step 1 of R126: the record after a move, with the timers its states stop and start (R128, R131, R135, R138) and relay K5
(R145). -/
def moved (next : Move) (s : State) (c : Curtain) : Curtain :=
  let entered := decide (next.state ≠ c.state)
  let driven := !c.flags.localControl
  let p := s.command.profile
  { c with
    state := next.state
    cause := next.cause
    mode := next.mode
    pending := next.pending
    repeatTimer :=
      if (next.state = .lowering ∨ next.state = .raising) ∧ driven then
        if entered then some (s.timerOf 100) else c.repeatTimer
      else none
    raiseTimer :=
      if next.state = .raising ∧ driven then
        if entered then some (s.timerOf (p.raiseLimit * 1000)) else c.raiseTimer
      else none
    deadTimer :=
      if next.state = .deadTime then (if entered then some (s.timerOf p.deadTime) else c.deadTimer) else none
    staleTimer :=
      if next.state.positioned then (if entered then some (s.timerOf p.positionStale) else c.staleTimer) else none
    emergencyTimer :=
      if next.state = .lowering ∧ next.mode = .emergency ∧ c.stale then
        some (c.emergencyTimer.getD (s.timerOf p.emergencyStale))
      else none
    descentStart := if next.descending then c.descentStart else none
    k5 := decide (next.state = .released)
    estimator := movedEstimator c next }

/-- CURTAIN_FAULT is set by a change to FAULT or RELEASED (R126). -/
def curtainAttention (s : State) : State :=
  if s.curtain.state = .fault ∨ s.curtain.state = .released then setAttention .curtainFault s else s

/-- A change of the curtain's state or mode (R126). -/
def changeCurtain (next : Move) (s : State) : State :=
  let previous := s.curtain.code
  let s := offerStateDrive (s.onCurtain (moved next s))
  notice true (curtainAttention (reportCurtain 0 s.curtain.code previous s.curtain.position s))

/-! ## The demonstration's results (R166) -/

/-- A demonstration is in progress (8.3). -/
def DemoStatus.inProgress : DemoStatus → Bool
  | .lowering | .dwell | .raising => true
  | .notDone | .passed | .failed _ | .missed => false

/-- The marks as a byte: bit 0 SLOW, bit 1 UNVERIFIED, bit 2 HOUSE_DARK (R221). -/
def DemoSequence.markByte (q : DemoSequence) : Byte := packBits [q.slow, q.unverified, q.houseDark]

/-- Set the demonstration status in the performance record. -/
def setDemoStatus (status : DemoStatus) (s : State) : State := s.onPhase fun p => { p with demoStatus := status }

/-- Stop the dwell timer. -/
def stopDwell (s : State) : State :=
  s.onCurtain fun c => { c with sequence := { c.sequence with dwellTimer := none } }

/-- Record a demonstration result: status, DEMO entry, DEMO_RESULT (R166). -/
def recordDemo (status : DemoStatus) (s : State) : State :=
  setAttention .demoResult
    (report .demo
      ([byte status.code, optionByte (status.reason.map DemoReason.code)] ++ bytes2 s.phase.demoTime ++
        [s.curtain.sequence.markByte])
      (setDemoStatus status (stopDwell s)))

/-- A demonstration in progress fails with a reason; without one nothing happens (R160, R162, R163, R164, R165). -/
def failDemo (reason : DemoReason) (s : State) : State :=
  if s.phase.demoStatus.inProgress then recordDemo (.failed reason) s else s

/-- Set a mark of the demonstration; the first mark stays as first set (R157). -/
def markDemo (reason : DemoReason) (s : State) : State :=
  s.onCurtain fun c =>
    { c with
      sequence :=
        { c.sequence with
          slow := c.sequence.slow || decide (reason = .slow)
          unverified := c.sequence.unverified || decide (reason = .unverified)
          houseDark := c.sequence.houseDark || decide (reason = .houseDark)
          first := some (c.sequence.first.getD reason) } }

/-- The demonstration watches this descent: status LOWERING, curtain LOWERING in DEMO mode (R159). -/
def demoWatches (s : State) : Bool :=
  decide (s.phase.demoStatus = .lowering ∧ s.curtain.state = .lowering ∧ s.curtain.mode = .demo)

/-! ## The estimator (8.1, 8.2) -/

/-- Clamp to the range of a filtered speed. -/
def clampSpeed (v : Int) : Int := max (-32768) (min 32767 v)

/-- Stage 2: the raw speed, trunc(Δp × 16000 / Δt) (R152). -/
def rawSpeed (dp : Int) (dt : Nat) : Int := clampSpeed (Int.tdiv (dp * 16000) dt)

/-- Stage 3: the filtered speed after a raw speed (R153). -/
def filterSpeed (weight : Nat) (speed raw : Int) : Int :=
  clampSpeed (speed + Int.fdiv ((raw - speed) * weight + 128) 256)

/-- Stage 4: the predicted time and the no-progress mark at a position (R154). -/
def predict (minSpeed position : Nat) (e : Estimator) : Estimator :=
  if position = 0 then { e with predicted := 0, noProgress := false }
  else if e.speed ≤ minSpeed then { e with predicted := 65535, noProgress := true }
  else { e with predicted := min 65535 (position * 16000 / e.speed.toNat), noProgress := false }

/-- The estimator as seeded from the curtain record (R150). Stage 4 is run whole at the seeding, so that a seed at or below
the minimum speed leaves the no-progress mark set: the model's choice (log entry 48). -/
def seeded (p : Profile) (c : Curtain) : Estimator :=
  let e : Estimator :=
    { running := true
      refPosition := c.reportTime.map fun _ => c.position
      refTime := c.reportTime
      speed := clampSpeed (p.travel * 16000 / p.descentLimit : Nat)
      predicted := 65535
      noProgress := false
      late := 0
      lateAction := false }
  match c.reportTime with
  | none => e
  | some _ => predict p.minSpeed c.position e

/-- Seed the estimator (R150). -/
def seedEstimator (s : State) : State :=
  s.onCurtain fun c => { c with estimator := seeded s.command.profile c }

/-- Stages 1 to 3: the filtered speed after a report at reading `t`, and the report as the new reference (R151 to
R153). -/
def takeReference (p : Profile) (position : Nat) (t : Time) (e : Estimator) : Estimator :=
  let speed :=
    match e.refPosition, e.refTime with
    | some rp, some rt =>
      let dt := duration t rt
      if dt = 0 ∨ p.positionStale < dt then e.speed
      else filterSpeed p.filterWeight e.speed (rawSpeed ((rp : Int) - position) dt)
    | _, _ => e.speed
  { e with speed := speed, refPosition := some position, refTime := some t }

/-- A report is LATE: elapsed at or above the start grace, and elapsed + t_pred above the descent limit (R155). -/
def isLate (p : Profile) (elapsed : Nat) (e : Estimator) : Bool :=
  decide (p.startGrace ≤ elapsed ∧ p.descentLimit < elapsed + e.predicted)

/-- Stage 5: the late count and the late action mark (R155). -/
def judgeReport (p : Profile) (elapsed : Nat) (e : Estimator) : Estimator :=
  if elapsed < p.startGrace then e
  else if p.descentLimit < elapsed + e.predicted then { e with late := min 8 (e.late + 1) }
  else { e with late := 0, lateAction := false }

/-- Stages 1 to 5 for a report at reading `t` in a descent begun at `start` (R151 to R155). -/
def estimate (p : Profile) (position : Nat) (t start : Time) (e : Estimator) : Estimator :=
  judgeReport p (duration t start) (predict p.minSpeed position (takeReference p position t e))

/-! ## Descents, the release, arrivals -/

/-- A descent driven by the part starts (R134). -/
def startDescent (mode : Mode) (s : State) : State :=
  changeCurtain (.moving .lowering mode)
    ((seedEstimator s).onCurtain fun c => { c with descentStart := some s.clock, floorCheck := false })

/-- The raise conditions of R137 other than the state, in their order. -/
def raiseBarred (waiveKey : Bool) (s : State) : Option Result :=
  if s.curtain.flags.localControl then some .refusedLocal
  else if s.curtain.state = .fault ∨ s.curtain.state = .unknown ∨ s.curtain.state = .released then some .refusedState
  else if s.phase.phase = .evacuating then some .refusedState
  else if s.curtain.stageAlarm then some .refusedState
  else if ¬ waiveKey ∧ lineReading s 4 ≠ .active then some .refusedState
  else none

/-- The arrival at the floor, at the reading of the event that brings it: C1's acceptance, or the entry into RELEASED
(R140, R145). -/
def arrive (s : State) : State :=
  let previous := s.curtain.code
  let descent := s.curtain.descentStart.map fun start => min 65535 (duration s.clock start)
  let s := changeCurtain (.plain .atFloor)
    (s.onCurtain fun c => { c with lastDescent := descent.getD c.lastDescent, floorCheck := true })
  match descent with
  | none => s
  | some d => reportCurtain 1 s.curtain.code previous d s

/-- The entry into RELEASED, with the fault that caused it, if one did (R145). -/
def enterReleased (cause : Option FaultCause) (s : State) : State :=
  let s := if s.curtain.estimator.running then s else seedEstimator s
  let s := s.onCurtain fun c => { c with descentStart := some (c.descentStart.getD s.clock) }
  changeCurtain { state := .released, cause := cause, mode := .emergency, pending := none } s

/-- A release by any event but the rise of the stage alarm, with its arrival where C1 already reads ACTIVE (R145). A
demonstration in progress fails with FAULT (log entry 24), and the arrival of one that has failed judges nothing (R165). -/
def release (cause : Option FaultCause) (s : State) : State :=
  let s := failDemo .fault (enterReleased cause s)
  if lineReading s 1 = .active then arrive s else s

/-- A curtain that has entered OUT or STOPPED while the stage alarm stands is released or lowered at once (R144); with the
local flag set and the ring OK it is released, by the first row of R144's table that fits: the model's choice (log
entry 47). -/
def alarmAtRest (s : State) : State :=
  if s.curtain.stageAlarm ∧ (s.curtain.state = .stored ∨ s.curtain.state = .stopped) then
    if s.curtain.ring = .broken ∨ s.curtain.flags.localControl then release none s
    else startDescent .emergency s
  else s

/-- A change of state by a rule, the entries and tellings the rule adds after the CHANGE entry, and what a standing stage
alarm then makes of a curtain at rest (R126, R144). The NOTICE of the change is built before the rule's own entries, and so
before the result of a demonstration that the change ends (log entry 43). -/
def moveCurtain (next : Move) (after : State → State) (s : State) : State :=
  alarmAtRest (after (changeCurtain next s))

/-- A rule gives FAULT with a cause: RELEASED instead while the stage alarm is true, but for a curtain IN (R145, log
entry 22); the state and cause already held are no change (log entry 32). -/
def faultCurtain (cause : FaultCause) (s : State) : State :=
  if s.curtain.state = .released ∨ (s.curtain.state = .fault ∧ s.curtain.cause = some cause) then s
  else if s.curtain.stageAlarm ∧ s.curtain.state ≠ .atFloor then release (some cause) s
  else moveCurtain (.faulted cause) (failDemo .fault) s

/-! ## Requests -/

/-- Change the pending direction of DEAD_TIME; a change of mode is made by R126 (R136). -/
def setPending (pending : Pending) (mode : Mode) (s : State) : State :=
  if s.curtain.mode = mode then s.onCurtain fun c => { c with pending := some pending }
  else changeCurtain (.pausing pending mode) s

/-- The pending direction is LOWER EMERGENCY (R136). -/
def pendingEmergency (s : State) : Bool :=
  decide (s.curtain.pending = some .lower ∧ s.curtain.mode = .emergency)

/-- A lower request of mode NORMAL or DEMO (R133, R136). -/
def lowerRequest (mode : Mode) (s : State) : Response :=
  if s.curtain.flags.localControl then (.refusedLocal, s)
  else
    match s.curtain.state with
    | .unknown => (.refusedState, s)
    | .stored | .stopped =>
      if lineReading s 3 = .active then (.refusedState, s) else (.done, startDescent mode s)
    | .atFloor => (.done, s)
    | .raising =>
      if lineReading s 3 = .active then (.refusedState, s)
      else (.done, moveCurtain (.pausing .lower mode) (failDemo .stopped) s)
    | .deadTime =>
      if pendingEmergency s then (.done, s)
      else if lineReading s 3 = .active then (.refusedState, s)
      else (.done, setPending .lower mode s)
    | .lowering => (.done, s)
    | .released => (.done, s)
    | .fault => (.refusedState, s)

/-- A raise request with its mode; the demonstration's waives the key (R137, R136). -/
def raiseRequest (mode : Mode) (waiveKey : Bool) (s : State) : Response :=
  match raiseBarred waiveKey s with
  | some refusal => (refusal, s)
  | none =>
    match s.curtain.state with
    | .atFloor | .stopped => (.done, changeCurtain (.moving .raising mode) s)
    | .deadTime => if pendingEmergency s then (.refusedState, s) else (.done, setPending .raise mode s)
    | .lowering =>
      if s.curtain.mode = .emergency then (.refusedState, s)
      else (.done, moveCurtain (.pausing .raise mode) (failDemo .stopped) s)
    | .unknown | .stored | .raising | .released | .fault => (.refusedState, s)

/-- The demonstration's raise is taken: the status becomes RAISING and the dwell timer stops (R162). -/
def demoRaises (s : State) : State := setDemoStatus .raising (stopDwell s)

/-- CRSE (R137); taken at the floor in the dwell, it completes the demonstration (R162). -/
def raiseCurtain (s : State) : Response :=
  let answer := raiseRequest .normal false s
  if s.phase.demoStatus = .dwell ∧ answer.1 = .done then (answer.1, demoRaises answer.2) else answer

/-- The expiry of the dwell timer: the demonstration's raise request, with mode DEMO and the key waived (R162). -/
def dwellEnds (s : State) : State :=
  let s := stopDwell s
  let answer := raiseRequest .demo true s
  if answer.1 = .done then demoRaises answer.2 else recordDemo (.failed .fault) s

/-- The demonstration judges its descent at the arrival (R161). A dwell of 0 expires at once (R25, R162). -/
def judgeDescent (s : State) : State :=
  if s.phase.demoStatus ≠ .lowering then s
  else
    let s := s.onPhase fun p => { p with demoTime := s.curtain.lastDescent }
    if !s.curtain.sequence.posSeen then recordDemo (.failed .unverified) s
    else
      match s.curtain.sequence.first with
      | some mark => recordDemo (.failed mark) s
      | none =>
        if s.command.profile.descentLimit < s.curtain.lastDescent then recordDemo (.failed .slow) s
        else
          let dwell := s.command.profile.demoDwell * 1000
          let s := setDemoStatus .dwell
            (s.onCurtain fun c => { c with sequence := { c.sequence with dwellTimer := some (s.timerOf dwell) } })
          if dwell = 0 then dwellEnds s else s

/-- The release that the rise of the stage alarm makes (R144, R145). Where C1 already reads ACTIVE the arrival is taken at
once, and a demonstration in its descent takes it as any other arrival (R140, R161); the alarm fails the demonstration
afterwards (R164). -/
def releaseInAlarm (cause : Option FaultCause) (s : State) : State :=
  let s := enterReleased cause s
  if lineReading s 1 = .active then judgeDescent (arrive s) else s

/-- CSTP (R139, R136). -/
def stopCurtain (s : State) : Response :=
  if s.curtain.flags.localControl then (.refusedLocal, s)
  else
    match s.curtain.state with
    | .lowering =>
      if s.curtain.mode = .emergency then (.refusedState, s)
      else (.done, moveCurtain (.plain .stopped) (failDemo .stopped) s)
    | .raising => (.done, moveCurtain (.plain .stopped) (failDemo .stopped) s)
    | .deadTime => if pendingEmergency s then (.refusedState, s) else (.done, setPending .none .normal s)
    | .atFloor | .stored | .stopped => (.done, s)
    | .unknown | .released | .fault => (.refusedState, s)

/-- CCLR (R147). -/
def clearCurtainFault (s : State) : Response :=
  if s.curtain.flags.localControl then (.refusedLocal, s)
  else if s.curtain.state = .fault then
    (.done, moveCurtain (.plain .stopped) id (s.onCurtain fun c => { c with rederive := true }))
  else (.refusedState, s)

/-- DEMO, the command and the action (R158). -/
def startDemo (s : State) : Response :=
  if s.phase.phase ≠ .houseOpen then (.refusedState, s)
  else if s.phase.demoStatus ≠ .notDone ∧ s.phase.demoStatus.reason.isNone then (.refusedState, s)
  else if s.phase.showStop then (.refusedState, s)
  else if s.zones.alarm.confirmed ≠ [] then (.refusedState, s)
  else if s.curtain.state ≠ .stored then (.refusedState, s)
  else if s.curtain.flags.localControl then (.refusedState, s)
  else if lineReading s 3 = .active then (.refusedState, s)
  else
    (.done, startDescent .demo (setDemoStatus .lowering (s.onCurtain fun c => { c with sequence := .initial })))

/-! ## Timers -/

/-- The dead-time timer expires (R135). -/
def deadTimeExpiry (s : State) : State :=
  if s.curtain.state = .deadTime ∧ due s.curtain.deadTimer s.clock then
    match s.curtain.pending with
    | some .lower => startDescent s.curtain.mode s
    | some .raise =>
      if (raiseBarred (decide (s.curtain.mode = .demo)) s).isNone then
        changeCurtain (.moving .raising s.curtain.mode) s
      else moveCurtain (.plain .stopped) id s
    | some .none => moveCurtain (.plain .stopped) id s
    | none => moveCurtain (.plain .stopped) id s
  else s

/-- The drive repeat timer expires (R128). -/
def driveRepeatExpiry (s : State) : State :=
  if due s.curtain.repeatTimer s.clock then
    offerStateDrive (s.onCurtain fun c => { c with repeatTimer := some (s.timerOf 100) })
  else s

/-- The raise timer expires (R138). -/
def raiseTimerExpiry (s : State) : State :=
  if due s.curtain.raiseTimer s.clock then
    faultCurtain .travelTimeout (s.onCurtain fun c => { c with raiseTimer := none })
  else s

/-- The emergency stale timer starts, if it is not running, at a position stale expiry in an emergency descent (R131). -/
def startEmergencyStale (s : State) : State :=
  if s.curtain.state = .lowering ∧ s.curtain.mode = .emergency then
    s.onCurtain fun c =>
      { c with emergencyTimer := some (c.emergencyTimer.getD (s.timerOf s.command.profile.emergencyStale)) }
  else s

/-- The position stale timer expires (R131, R159). -/
def positionStaleExpiry (s : State) : State :=
  if due s.curtain.staleTimer s.clock then
    let s := reportStanding 3 s.curtain.position (s.onCurtain fun c => { c with stale := true, staleTimer := none })
    let s := startEmergencyStale s
    if demoWatches s then markDemo .unverified s else s
  else s

/-- The emergency stale timer expires (R131, R145). -/
def emergencyStaleExpiry (s : State) : State :=
  if due s.curtain.emergencyTimer s.clock then
    let s := s.onCurtain fun c => { c with emergencyTimer := none }
    if s.curtain.state = .released ∨ s.curtain.state = .atFloor then s else release none s
  else s

/-- The flow timer expires (R148). -/
def flowTimerExpiry (s : State) : State :=
  if due s.curtain.flowTimer s.clock then
    reportStanding 5 s.command.profile.flowWait
      (setAttention .drencherNoFlow (s.onCurtain fun c => { c with flowTimer := none }))
  else s

/-- The dwell timer expires (R162). -/
def dwellExpiry (s : State) : State :=
  if s.phase.demoStatus = .dwell ∧ due s.curtain.sequence.dwellTimer s.clock then dwellEnds s else s

/-! ## POS frames (7.4) -/

/-- The move a derivation gives (R132). -/
def derivedMove (s : State) : Move :=
  let p := s.command.profile
  let c1 := lineReading s 1
  let c2 := lineReading s 2
  let position := s.curtain.position
  if s.curtain.flags.driveFault then .faulted .driveFault
  else if c1 = .fault then .faulted .inLine
  else if c2 = .fault then .faulted .outLine
  else if c1 = .active ∧ c2 = .active then .faulted .limitConflict
  else if c1 = .active ∧ position ≤ p.floorTolerance then .plain .atFloor
  else if c2 = .active ∧ p.travel ≤ position + p.topTolerance then .plain .stored
  else if c1 = .active ∨ c2 = .active then .faulted .positionDisagree
  else .plain .stopped

/-- A demonstration whose curtain is moved by the drive or by a derivation ends: in a dwell only when the curtain leaves
IN (R160, R162, R163, log entries 23 and 24). -/
def failMoved (s : State) : State :=
  if s.phase.demoStatus = .dwell ∧ s.curtain.state = .atFloor then s else failDemo .fault s

/-- Make a derived or reported move by R126, if it changes the state or the mode (R132). -/
def followMove (next : Move) (s : State) : State :=
  match next.cause with
  | some cause => faultCurtain cause s
  | none =>
    if next.state = s.curtain.state ∧ next.mode = s.curtain.mode then s else moveCurtain next failMoved s

/-- The move a POS under local control gives, from its motion flags (R130); both set is a free value (log entry 20). -/
def localMove (s : State) : Move :=
  match s.curtain.flags.movingDown, s.curtain.flags.movingUp with
  | true, false => .moving .lowering .normal
  | false, true => .moving .raising .normal
  | false, false => derivedMove s
  | true, true =>
    if Config.bothMotionsLower s.clock s.curtain.position then .moving .lowering .normal
    else .moving .raising .normal

/-- The part's drive ends as the local flag appears (R130); without a descent start time the estimator stops (R150). -/
def endDrive (s : State) : State :=
  s.onCurtain fun c =>
    { c with
      repeatTimer := none
      raiseTimer := none
      deadTimer := none
      pending := none
      descentStart := none
      estimator := { c.estimator with running := false } }

/-- Step 1 of R129: the record takes the report. -/
def takePosition (position : Nat) (flags : DriveFlags) (s : State) : State :=
  s.onCurtain fun c =>
    { c with
      position := position
      reportTime := some s.clock
      flags := flags
      stale := false
      emergencyTimer := none
      staleTimer :=
        if c.state.positioned then some (s.timerOf s.command.profile.positionStale) else c.staleTimer }

/-- Step 2 of R129: the drive fault flag (R130). -/
def applyDriveFault (s : State) : State :=
  if s.curtain.flags.driveFault ∧ s.curtain.state ≠ .released ∧ s.curtain.state ≠ .atFloor ∧
      s.curtain.state ≠ .fault then faultCurtain .driveFault s
  else s

/-- The local flag set in a POS (R130). -/
def applyLocal (appears : Bool) (s : State) : State :=
  if s.curtain.state = .fault ∨ s.curtain.state = .released then s
  else if s.curtain.stageAlarm then
    (if s.curtain.state = .atFloor then s else release none s)
  else
    let s := followMove (localMove s) (if appears then endDrive s else s)
    if appears then failMoved s else s

/-- Derive the state; RELEASED is left only at the arrival (R132, R145). -/
def deriveState (s : State) : State :=
  if s.curtain.state = .released then s else followMove (derivedMove s) s

/-- The POS that clears the local flag: derivation, and STOP once, by the change that the derivation makes or by
itself (R129, R127, log entry 21). -/
def applyLocalCleared (s : State) : State :=
  let next := deriveState s
  if next.curtain.code = s.curtain.code ∧ next.curtain.mode = s.curtain.mode then offerDrive .stop next else next

/-- Step 3 of R129: the local flag. -/
def applyLocalFlag (wasLocal : Bool) (s : State) : State :=
  if s.curtain.flags.localControl then applyLocal (!wasLocal) s
  else if wasLocal then applyLocalCleared s
  else s

/-- Step 4 of R129: the first POS after power-on, RSTR or CCLR. -/
def applyDerivation (s : State) : State :=
  if s.curtain.state = .unknown ∨ s.curtain.rederive then
    deriveState (s.onCurtain fun c => { c with rederive := false })
  else s

/-- Step 5 of R129: the floor check (R141). -/
def applyFloorCheck (s : State) : State :=
  if s.curtain.floorCheck then
    let s := s.onCurtain fun c => { c with floorCheck := false }
    if s.command.profile.floorTolerance + 64 < s.curtain.position then
      faultCurtain .positionDisagree s
    else s
  else s

/-- The action of the late count, by state and mode (R156). -/
def lateAction (s : State) : State :=
  let position := s.curtain.position
  if s.curtain.state = .lowering ∧ s.curtain.mode = .emergency then
    reportStanding 4 position (release none s)
  else if s.curtain.state = .released then reportStanding 4 position s
  else if demoWatches s then markDemo .slow (reportStanding 4 position s)
  else setAttention .curtainFault (reportStanding 4 position s)

/-- The estimator takes a report (R151 to R156). -/
def estimatorReport (s : State) : State :=
  let p := s.command.profile
  let start := s.curtain.descentStart.getD s.clock
  let s := s.onCurtain fun c => { c with estimator := estimate p c.position s.clock start c.estimator }
  let e := s.curtain.estimator
  if isLate p (duration s.clock start) e ∧ p.latePersistence ≤ e.late ∧ ¬ e.lateAction then
    (lateAction s).onCurtain fun c => { c with estimator := { c.estimator with lateAction := true } }
  else s

/-- A group of the demonstration group set is below the house minimum (R159). -/
def houseIsDark (s : State) : Bool :=
  (List.range 8).any fun g =>
    s.command.profile.demoGroups.getLsbD g && decide (demonstrationFigure s g < s.command.profile.houseMinimum)

/-- The demonstration's checks at a POS of its descent (R159). -/
def demoChecks (s : State) : State :=
  if demoWatches s then
    let s := s.onCurtain fun c => { c with sequence := { c.sequence with posSeen := true } }
    if houseIsDark s then markDemo .houseDark s else s
  else s

/-- Step 6 of R129: the estimator and the demonstration. -/
def applyEstimator (s : State) : State :=
  if s.curtain.state = .released ∨ (s.curtain.state = .lowering ∧ s.curtain.descentStart.isSome) then
    demoChecks (estimatorReport s)
  else s

/-- A POS from the drive node, at its arrival (R129). -/
def takePos (payload : List Byte) (s : State) : State :=
  match payload with
  | hi :: lo :: flags :: _ =>
    let wasLocal := s.curtain.flags.localControl
    applyEstimator (applyFloorCheck (applyDerivation (applyLocalFlag wasLocal (applyDriveFault
      (takePosition (number2 hi lo) (DriveFlags.ofByte flags) s)))))
  | _ => s

/-! ## The lines (7.7, 7.9) -/

/-- C1's reading changes to ACTIVE (R140). -/
def floorReached (s : State) : State :=
  match s.curtain.state with
  | .lowering | .released => judgeDescent (arrive s)
  | .stopped | .deadTime => moveCurtain (.plain .atFloor) id s
  | .raising => faultCurtain .positionDisagree s
  | .stored => faultCurtain (if lineReading s 2 = .active then .limitConflict else .positionDisagree) s
  | .atFloor | .fault | .unknown => s

/-- C2's reading changes to ACTIVE (R142); a raise of the demonstration is then PASSED (R163). -/
def topReached (s : State) : State :=
  match s.curtain.state with
  | .raising =>
    moveCurtain (.plain .stored) (fun s => if s.phase.demoStatus = .raising then recordDemo .passed s else s) s
  | .stopped | .deadTime => moveCurtain (.plain .stored) id s
  | .lowering => faultCurtain .positionDisagree s
  | .atFloor => faultCurtain (if lineReading s 1 = .active then .limitConflict else .positionDisagree) s
  | .stored | .released | .fault | .unknown => s

/-- A limit line's reading changes to FAULT (R140, R142). -/
def limitFaulted (cause : FaultCause) (s : State) : State :=
  if s.curtain.state = .released ∨ s.curtain.state = .unknown then s else faultCurtain cause s

/-- A hand-off of C1 (R140). -/
def handC1 (previous new : Reading) (s : State) : State :=
  match previous, new with
  | .active, .active | .normal, .normal | .fault, .fault => s
  | _, .active => floorReached s
  | _, .fault => limitFaulted .inLine s
  | .active, .normal =>
    if s.curtain.state = .atFloor then moveCurtain (.plain .stopped) (failDemo .fault) s else s
  | .fault, .normal => s

/-- A hand-off of C2 (R142). -/
def handC2 (previous new : Reading) (s : State) : State :=
  match previous, new with
  | .active, .active | .normal, .normal | .fault, .fault => s
  | _, .active => topReached s
  | _, .fault => limitFaulted .outLine s
  | .active, .normal => if s.curtain.state = .stored then moveCurtain (.plain .stopped) id s else s
  | .fault, .normal => s

/-- The EDGE entry of a descent that the safety edge stops: the new and previous states of that change (R143, log
entry 15). -/
def edgeStops (previous : Byte) (s : State) : State :=
  failDemo .obstructed (reportCurtain 2 s.curtain.code previous s.curtain.position s)

/-- A hand-off of C3 (R143). -/
def handC3 (previous new : Reading) (s : State) : State :=
  if previous ≠ .active ∧ new = .active ∧ s.curtain.state = .lowering then
    if s.curtain.mode = .emergency then reportStanding 2 s.curtain.position s
    else moveCurtain (.plain .stopped) (edgeStops s.curtain.code) s
  else s

/-- The flow timer starts with the flow wait (R148). -/
def startFlow (s : State) : State :=
  s.onCurtain fun c => { c with flowTimer := some (s.timerOf (s.command.profile.flowWait * 1000)) }

/-- A hand-off of C7 (R148). -/
def handC7 (previous new : Reading) (s : State) : State :=
  if new = .active ∧ previous ≠ .active then s.onCurtain fun c => { c with flowTimer := none }
  else if previous = .active ∧ new ≠ .active ∧ s.curtain.k6 then startFlow s
  else s

/-! ## What the unit is told -/

/-- The stage-side value becomes true: the first row that fits (R144). -/
def stageAlarmRow (s : State) : State :=
  match s.curtain.state with
  | .atFloor | .released => s
  | .unknown => releaseInAlarm none s
  | .fault => releaseInAlarm s.curtain.cause s
  | state =>
    if s.curtain.ring = .broken ∨ s.curtain.flags.localControl then releaseInAlarm none s
    else if state = .raising then changeCurtain (.pausing .lower .emergency) s
    else if state = .deadTime then setPending .lower .emergency s
    else if state = .lowering then
      (if s.curtain.mode = .emergency then s else changeCurtain (.moving .lowering .emergency) s)
    else startDescent .emergency s

/-- The stage-side value changes to true: the stage alarm, K6 and the flow timer, and R144's row. -/
def stageAlarmRises (s : State) : State :=
  let s := s.onCurtain fun c => { c with stageAlarm := true, k6 := true }
  stageAlarmRow (if lineReading s 7 = .active then s else startFlow s)

/-- The stage-side value changes to false (R144, R148). -/
def stageAlarmFalls (s : State) : State :=
  s.onCurtain fun c => { c with stageAlarm := false, k6 := false, flowTimer := none }

/-- The telling of the stage-side value (R144, R148). -/
def curtainToldStage (stage : Bool) (s : State) : State :=
  if stage = s.curtain.stageAlarm then s else if stage then stageAlarmRises s else stageAlarmFalls s

/-- The telling of a change of the alarm condition: the stage alarm first, then a demonstration that the telling finds in
progress fails with ALARM if the confirmed set has become non-empty, even where its descent was judged at an arrival between
the two (R121, R144, R164, log entry 24). -/
def curtainToldAlarm (before : AlarmRecord) (s : State) : State :=
  let fails := decide (before.confirmed = [] ∧ s.zones.alarm.confirmed ≠ []) && s.phase.demoStatus.inProgress
  let s := curtainToldStage s.zones.alarm.stage s
  if fails then recordDemo (.failed .alarm) s else s

/-- The telling of a change of the ring state (R146). -/
def curtainToldRing (ring : RingState) (s : State) : State :=
  let changes := decide (s.curtain.ring ≠ ring)
  let s := s.onCurtain fun c => { c with ring := ring }
  if changes ∧ ring = .broken ∧ s.curtain.stageAlarm ∧ s.curtain.state ≠ .atFloor ∧ s.curtain.state ≠ .released then
    release (if s.curtain.state = .fault then s.curtain.cause else none) s
  else s

/-- The telling of a phase change: EVACUATING stops a raise and a pending raise (R138, R136), CLOSED abandons a
demonstration (R165). -/
def curtainToldPhase (new : Phase) (s : State) : State :=
  if new = .evacuating then
    match s.curtain.state with
    | .raising => moveCurtain (.plain .stopped) (failDemo .alarm) s
    | .deadTime => if s.curtain.pending = some .raise then setPending .none .normal s else s
    | .unknown | .atFloor | .stored | .lowering | .stopped | .released | .fault => s
  else if new = .closed then failDemo .stopped s
  else s

end Sys2Proof.Machine
end

