-- ==== Sys2Proof/Machine/Zones.lean ====
section
/-! DEFINITION. The Zone Monitor (chapter 6): zone transitions and their coincidences, the closure of windows, the step with
its four stages (R102), the alarm condition record (R120) and how a change of it is handed on (R121, R122). -/

namespace Sys2Proof.Machine

/-! ## Zones and windows -/

/-- PANEL's number (R97). -/
def panelNumber : Nat := 48

/-- A zone's record, if the zone has a definition. -/
def zoneAt (s : State) (z : Nat) : Option Zone := (s.zones.zones[z]?).join

/-- Replace a zone's record. -/
def setZone (z : Nat) (zone : Option Zone) (s : State) : State :=
  s.onZones fun m => { m with zones := m.zones.setIfInBounds z zone }

/-- Replace a window's record. -/
def setWindow (w : Nat) (window : Window) (s : State) : State :=
  s.onZones fun m => { m with windows := m.windows.setIfInBounds w window }

/-- The zone is in this state. -/
def zoneIs (s : State) (z : Nat) (state : ZoneState) : Bool := (zoneAt s z).any fun zone => decide (zone.state = state)

/-- FAULT(REPORTED) or FAULT(STALE) (R98). -/
def ZoneState.isFault : ZoneState → Bool
  | .faultReported | .faultStale => true
  | .normal | .prealarm | .verifying | .masked | .confirmed | .isolated => false

/-- The window holds the zone in its zone set (R100). -/
def Window.holds (window : Window) (z : Nat) : Bool := window.defn.any fun d => d.zones.getLsbD z

/-- At least one OPEN window holds the zone (R100). -/
def covered (s : State) (z : Nat) : Bool :=
  s.zones.windows.toList.any fun window => window.isOpen && window.holds z

/-- The causes of a ZONE entry (R106, R115, R118). -/
inductive ZoneCause where
  | report
  | verified
  | coincidence
  | stale
  | line
  | command
  | window
  | cue
  | expiry
  | alarm
  | evacuation
  | ended
  deriving DecidableEq, Repr

/-- Zone cause codes (R221). -/
def ZoneCause.code : ZoneCause → Byte
  | .report => 0
  | .verified => 1
  | .coincidence => 2
  | .stale => 3
  | .line => 4
  | .command => 5
  | .window => 6
  | .cue => 7
  | .expiry => 8
  | .alarm => 9
  | .evacuation => 10
  | .ended => 11

/-- Append a ZONE entry of a zone or of PANEL (R106). -/
def reportZone (z : Nat) (new previous : ZoneState) (cause : ZoneCause) (s : State) : State :=
  report .zone [byte z, byte new.code, byte previous.code, cause.code] s

/-- A window's number in ZONE and ALARM entries (R221). -/
def windowByte (w : Nat) : Byte := byte (64 + w)

/-- Append a ZONE entry of a window (R115, R118). -/
def reportWindow (w : Nat) (new previous : Bool) (cause : ZoneCause) (s : State) : State :=
  report .zone [windowByte w, byte (windowCode new), byte (windowCode previous), cause.code] s

/-- ZONE_FAULT at a change into a FAULT state from a state that is none (R110). -/
def zoneFaultAttention (previous new : ZoneState) (s : State) : State :=
  if new.isFault ∧ ¬ previous.isFault then setAttention .zoneFault s else s

/-- A zone's change of state: its verification timer stops unless it enters VERIFYING with one, a ZONE entry is appended,
and ZONE_FAULT is set on entry into a fault (R106, R107, R110). -/
def moveZone (z : Nat) (new : ZoneState) (verify : Option Timer) (cause : ZoneCause) (s : State) : State :=
  match zoneAt s z with
  | none => s
  | some zone =>
    if zone.state = new then s
    else
      zoneFaultAttention zone.state new
        (reportZone z new zone.state cause (setZone z (some { zone with state := new, verifyTimer := verify }) s))

/-! ## Coincidence (R108) -/

/-- Two defined zones are linked when either names the other as its partner (R108). -/
def linked (s : State) (a b : Nat) : Bool :=
  match zoneAt s a, zoneAt s b with
  | some x, some y => decide (x.defn.partner = some b ∨ y.defn.partner = some a)
  | _, _ => false

/-- The MASKED zones linked to a zone, in ascending order. -/
def linkedMasked (s : State) (z : Nat) : List Nat :=
  (List.range 48).filter fun other => linked s z other && zoneIs s other .masked

/-- A zone linked to this one is VERIFYING or CONFIRMED. -/
def linkedAlarmed (s : State) (z : Nat) : Bool :=
  (List.range 48).any fun other => linked s z other && (zoneIs s other .verifying || zoneIs s other .confirmed)

/-- The coincidence confirmations of the entries in `work`, each confirmation being an entry that makes its own (R108, log
entry 18). A zone is confirmed at most once, so the fuel of `coincide` covers every entry. -/
def coincideLoop : Nat → List Nat → State → State
  | 0, _, s => s
  | _ + 1, [], s => s
  | fuel + 1, z :: work, s =>
    let partners := linkedMasked s z
    let s := forEach partners (fun p => moveZone p .confirmed none .coincidence) s
    if zoneIs s z .masked ∧ linkedAlarmed s z then
      coincideLoop fuel (work ++ partners ++ [z]) (moveZone z .confirmed none .coincidence s)
    else coincideLoop fuel (work ++ partners) s

/-- Stage 2 of a step for one entry into VERIFYING, MASKED or CONFIRMED (R102, R108). -/
def coincide (z : Nat) (s : State) : State := coincideLoop 100 [z] s

/-- An entry that makes coincidence confirmations (R108). -/
def ZoneState.coincides : ZoneState → Bool
  | .verifying | .masked | .confirmed => true
  | .normal | .prealarm | .faultReported | .faultStale | .isolated => false

/-- A zone's change of state with the coincidences it makes (R102, stages 1 and 2). -/
def enterZone (z : Nat) (new : ZoneState) (verify : Option Timer) (cause : ZoneCause) (s : State) : State :=
  if zoneIs s z new then s
  else
    let s := moveZone z new verify cause s
    if new.coincides then coincide z s else s

/-! ## Closures (R118) -/

/-- Close one OPEN window: CLOSED, timer stopped, ZONE entry. -/
def closeWindow (cause : ZoneCause) (w : Nat) (s : State) : State :=
  match s.zones.windows[w]? with
  | none => s
  | some window =>
    if window.isOpen then
      reportWindow w false true cause (setWindow w { window with isOpen := false, timer := none } s)
    else s

/-- The MASKED zones that stood in the zone set of one of these windows and that no OPEN window now holds. -/
def uncovered (closed : List Nat) (s : State) : List Nat :=
  (List.range 48).filter fun z =>
    zoneIs s z .masked && !covered s z &&
      closed.any fun w => (s.zones.windows[w]?).any fun window => window.holds z

/-- Pass 1 for one zone: CONFIRMED if it is still MASKED and its last condition is ALARM. -/
def resolveAlarm (z : Nat) (s : State) : State :=
  match zoneAt s z with
  | none => s
  | some zone =>
    if zone.state = .masked ∧ zone.last = .alarm then enterZone z .confirmed none .window s else s

/-- Pass 2 for one zone: NORMAL if it is still MASKED. -/
def resolveClear (z : Nat) (s : State) : State :=
  if zoneIs s z .masked then enterZone z .normal none .window s else s

/-- The closure of the OPEN ones among these windows, with its resolution in two passes (R118). Several windows close in
ascending order, and pass 2 takes its zones in ascending order: the model's choice (log entry 45). -/
def closeWindows (windows : List Nat) (cause : ZoneCause) (s : State) : State :=
  let closing := windows.filter (windowOpen s)
  let s := forEach closing (closeWindow cause) s
  let zones := uncovered closing s
  forEach zones resolveClear (forEach zones resolveAlarm s)

/-- Every window, in ascending order. -/
def allWindows : List Nat := List.range 16

/-! ## The alarm condition record (R120) -/

/-- The confirmed set as the zone states give it: ascending, PANEL last. -/
def confirmedZones (s : State) : List Nat :=
  ((List.range 48).filter fun z => zoneIs s z .confirmed) ++
    (if s.zones.panel.state = .confirmed then [panelNumber] else [])

/-- The confirmed set holds a zone of the side, or PANEL. -/
def sideConfirmed (s : State) (side : Side) : Bool :=
  decide (s.zones.panel.state = .confirmed) ||
    s.zones.zones.toList.any fun zone =>
      zone.any fun z => decide (z.state = .confirmed ∧ z.defn.side = side)

/-- Any zone, PANEL aside, is in a state of this kind. -/
def anyZone (s : State) (kind : ZoneState → Bool) : Bool :=
  s.zones.zones.toList.any fun zone => zone.any fun z => kind z.state

/-- A state that counts toward prealarm present (R102, R120). -/
def ZoneState.isPrealarm : ZoneState → Bool
  | .prealarm | .verifying => true
  | .normal | .masked | .confirmed | .faultReported | .faultStale | .isolated => false

/-- The record as the zone states give it (R120). -/
def derivedAlarm (s : State) : AlarmRecord where
  confirmed := confirmedZones s
  stage := sideConfirmed s .stage
  house := sideConfirmed s .house
  front := sideConfirmed s .front
  prealarm := anyZone s ZoneState.isPrealarm
  fault := anyZone s ZoneState.isFault || s.zones.panel.state.isFault

/-! ## Steps (R102) -/

/-- Append the ALARM entry of a changed record (R121, item 1). -/
def reportAlarm (origin : Byte) (s : State) : State :=
  report .alarm [byte s.zones.alarm.confirmed.length, packBits s.zones.alarm.bits, origin] s

/-- The STAFF request of a step (R122). -/
def staffRequest (before after : AlarmRecord) (s : State) : State :=
  if ¬ before.prealarm ∧ after.prealarm ∧ after.confirmed = [] then (requestCall staffId .fire s).2 else s

/-- A change of the record is handed on (R121); `evacuation` is the Phase Unit's taking of the evacuation request. -/
def handOn (evacuation : State → State) (before : AlarmRecord) (origin : Byte) (s : State) : State :=
  let after := s.zones.alarm
  let s := setAttention .alarmChange (reportAlarm origin s)
  let s := callsToldAlarm before (deriveK4 (curtainToldAlarm before s))
  let s := if before.confirmed = [] ∧ after.confirmed ≠ [] then evacuation s else s
  notice true (staffRequest before after s)

/-- Stage 3: a confirmed set that is not empty closes every OPEN window with cause ALARM. -/
def alarmClosure (s : State) : State :=
  if confirmedZones s ≠ [] then closeWindows allWindows .alarm s else s

/-- A step of the Zone Monitor (R102): the change with its coincidences (stages 1 and 2), stage 3, and stage 4. -/
def zoneStepWith (evacuation : State → State) (origin : Byte) (change : State → State) (s : State) : State :=
  let before := s.zones.alarm
  let s := alarmClosure (change s)
  let after := derivedAlarm s
  if after = before then s
  else handOn evacuation before origin (s.onZones fun m => { m with alarm := after })

/-- The close request of ENPF or of the entry into EVACUATING: one step, whose evacuation request the Phase Unit ignores
in the phase it then holds (R119, R47). -/
def closeAllWindows (cause : ZoneCause) (s : State) : State :=
  zoneStepWith id 0xFF (closeWindows allWindows cause) s

/-! ## The changes of the steps -/

/-- A report's new state for a zone in NORMAL, PREALARM or a FAULT state that reports ALARM (R105). -/
def alarmState (isCovered : Bool) (d : ZoneDef) : ZoneState :=
  if isCovered then .masked else if d.verification = 0 then .confirmed else .verifying

/-- A report's new state (R104). -/
def reportedState (isCovered : Bool) (zone : Zone) (condition : Condition) : ZoneState :=
  match zone.state, condition with
  | .confirmed, _ => .confirmed
  | .isolated, _ => .isolated
  | .masked, .fault => .faultReported
  | .masked, _ => .masked
  | .verifying, .alarm => .verifying
  | _, .clear => .normal
  | _, .prealarm => .prealarm
  | _, .alarm => alarmState isCovered zone.defn
  | _, .fault => .faultReported

/-- A FAULT report taken by a CONFIRMED zone, or by a CONFIRMED PANEL, whose last condition was not FAULT (R106, R110,
R111). -/
def confirmedFault (z : Nat) (state : ZoneState) (last new : Condition) (cause : ZoneCause) (s : State) : State :=
  if state = .confirmed ∧ new = .fault ∧ last ≠ .fault then
    setAttention .zoneFault (reportZone z .confirmed .confirmed cause s)
  else s

/-- One pair of a ZONE frame (R103, R104, R105). -/
def zoneReport (z : Nat) (condition : Condition) (s : State) : State :=
  match zoneAt s z with
  | none => setAttention .unknownZone s
  | some zone =>
    let stored :=
      { zone with
        last := condition
        lastReport := s.clock
        stale := false
        staleTimer := some (s.timerOf (s.command.profile.zoneReportLimit * 1000)) }
    let new := reportedState (covered s z) zone condition
    let verify := if new = .verifying then some (s.timerOf (zone.defn.verification * 100)) else none
    confirmedFault z zone.state zone.last condition .report
      (enterZone z new verify .report (setZone z (some stored) s))

/-- A verification timer expires (R107). -/
def verified (z : Nat) (s : State) : State := enterZone z .confirmed none .verified s

/-- A staleness timer expires (R109). -/
def zoneStale (z : Nat) (s : State) : State :=
  match zoneAt s z with
  | none => s
  | some zone =>
    let s := setZone z (some { zone with stale := true, staleTimer := none }) s
    if zone.state = .normal ∨ zone.state = .prealarm then enterZone z .faultStale none .stale s else s

/-- PANEL's change of state: a ZONE entry, and ZONE_FAULT on entry into a fault (R111). -/
def movePanel (new : ZoneState) (cause : ZoneCause) (s : State) : State :=
  let previous := s.zones.panel.state
  if new = previous then s
  else
    zoneFaultAttention previous new
      (reportZone panelNumber new previous cause
        (s.onZones fun m => { m with panel := { m.panel with state := new } }))

/-- PANEL's last condition for a reading of C0 (R111). -/
def panelCondition : Reading → Condition
  | .normal => .clear
  | .active => .alarm
  | .fault => .fault

/-- PANEL's new state for a reading of C0 (R111). -/
def panelState (state : ZoneState) (reading : Reading) : ZoneState :=
  if state = .confirmed then .confirmed
  else
    match reading with
    | .normal => .normal
    | .active => .confirmed
    | .fault => .faultReported

/-- A hand-off of C0 (R111). -/
def panelReading (reading : Reading) (s : State) : State :=
  let panel := s.zones.panel
  confirmedFault panelNumber panel.state panel.last (panelCondition reading) .line
    (movePanel (panelState panel.state reading) .line
      (s.onZones fun m => { m with panel := { m.panel with last := panelCondition reading } }))

/-- The state a zone takes when it is restored or reset: FAULT(STALE) if its stale mark is set (R113, R114). -/
def Zone.restored (zone : Zone) : ZoneState := if zone.stale then .faultStale else .normal

/-- Restore an isolated zone or reset a confirmed one (R113, R114). -/
def restoreZone (z : Nat) (s : State) : State :=
  match zoneAt s z with
  | none => s
  | some zone => enterZone z zone.restored none .command s

/-- A zone 0–47, or PANEL, that ARST resets: CONFIRMED, with its last condition CLEAR or C0 reading NORMAL (R114). -/
def resettable (s : State) (z : Nat) : Bool :=
  if z = panelNumber then decide (s.zones.panel.state = .confirmed ∧ lineReading s 0 = .normal)
  else (zoneAt s z).any fun zone => decide (zone.state = .confirmed ∧ zone.last = .clear)

/-- Reset one zone or PANEL (R114). -/
def resetZone (z : Nat) (s : State) : State :=
  if z = panelNumber then movePanel .normal .command s else restoreZone z s

/-- The zones that ALL resets, in ascending order, PANEL last (R114). -/
def resettableZones (s : State) : List Nat := (List.range 49).filter (resettable s)

/-- The window opens or is renewed: its timer runs with its definition's duration (R115). -/
def openWindow (cause : ZoneCause) (w : Nat) (s : State) : State :=
  match s.zones.windows[w]? with
  | none => s
  | some window =>
    match window.defn with
    | none => s
    | some d =>
      let s := setWindow w { window with isOpen := true, timer := some (s.timerOf (d.duration * 1000)) } s
      if window.isOpen then s else reportWindow w true false cause s

/-! ## Loads (R99, R101) -/

/-- A zone's runtime fields at power-on, at RSTR and when it is defined (R98, R99). -/
def Zone.initial (s : State) (d : ZoneDef) : Zone where
  defn := d
  state := .normal
  last := .clear
  lastReport := s.clock
  stale := false
  verifyTimer := none
  staleTimer := some (s.timerOf (s.command.profile.zoneReportLimit * 1000))

/-- The zone's state allows a load to change it: NORMAL or ISOLATED (R99). -/
def ZoneState.loadable : ZoneState → Bool
  | .normal | .isolated => true
  | .prealarm | .verifying | .masked | .confirmed | .faultReported | .faultStale => false

/-- The result of an LDZN entry (R99, R101). -/
def zoneLoadResult (load : ZoneLoad) (s : State) : Result :=
  match load with
  | .deleteZone z | .setZone z _ =>
    match zoneAt s z with
    | none => .done
    | some zone => if zone.state.loadable then .done else .refusedState
  | .deleteWindow w | .setWindow w _ => if windowOpen s w then .refusedState else .done

/-- The change of an LDZN entry that is applied (R99, R101). -/
def zoneLoadChange (load : ZoneLoad) (s : State) : State :=
  match load with
  | .deleteZone z => setZone z none s
  | .setZone z d =>
    match zoneAt s z with
    | none => setZone z (some (Zone.initial s d)) s
    | some zone => setZone z (some { zone with defn := d }) s
  | .deleteWindow w => setWindow w { defn := none, isOpen := false, timer := none } s
  | .setWindow w d => setWindow w { defn := some d, isOpen := false, timer := none } s

/-- The zone or window of an LDZN entry, as an ALARM entry names it. -/
def ZoneLoad.origin : ZoneLoad → Byte
  | .deleteZone z => byte z
  | .setZone z _ => byte z
  | .deleteWindow w => windowByte w
  | .setWindow w _ => windowByte w

/-- CLTB of the zone table is refused while a zone is neither NORMAL nor ISOLATED, or a window is OPEN (R101, R213). PANEL
is no zone here (log entry 46). -/
def zonesClearable (s : State) : Bool :=
  (s.zones.zones.toList.all fun zone => zone.all fun z => z.state.loadable) &&
    s.zones.windows.toList.all fun window => !window.isOpen

/-- Remove every zone and window definition (R101, R213). -/
def clearZones (s : State) : State :=
  s.onZones fun m =>
    { m with
      zones := Vector.replicate 48 none
      windows := Vector.replicate 16 { defn := none, isOpen := false, timer := none } }

end Sys2Proof.Machine
end

