-- ==== Sys2Proof/Machine/Phase.lean ====
section
/-! DEFINITION. The Phase Unit (chapter 3): a change of phase (R37), the transitions and their requests (R38 to R49), the
countdowns and the prescaler (R50 to R53), show stop (R54) and the check of the demonstration at the first act (R55). -/

namespace Sys2Proof.Machine

/-- The causes of a PHASE entry (R37). -/
inductive PhaseCause where
  | command
  | cue
  | key
  | alarm
  deriving DecidableEq, Repr

/-- Phase cause codes (R221). -/
def PhaseCause.code : PhaseCause → Byte
  | .command => 0
  | .cue => 1
  | .key => 2
  | .alarm => 3

/-- Append a PHASE entry with the act and show stop as they stand (R37, R54). -/
def reportPhase (new previous : Phase) (cause : PhaseCause) (s : State) : State :=
  report .phase
    [byte new.code, byte previous.code, byte s.phase.act, cause.code, flagByte s.phase.showStop] s

/-- Append a HOLD entry: edge, curtain-up countdown, hold-pending second (R40, R41). -/
def reportHold (edge : Byte) (pending : Bool) (s : State) : State :=
  report .hold ([edge] ++ bytes2 s.phase.curtainUp ++ [flagByte pending]) s

/-- Step 4 of R37: the Zone Monitor, House Light Unit, Curtain Supervisor and Call Unit are told in this order. -/
def tellPhase (new previous : Phase) (s : State) : State :=
  let s := if new = .evacuating then closeAllWindows .evacuation s else s
  callsToldPhase new previous (curtainToldPhase new (deriveK4 s))

/-- A change of phase (R37): `fields` is what the transition sets, `further` the entries it adds after the PHASE entry. -/
def changePhase (new : Phase) (cause : PhaseCause) (fields : PhaseUnit → PhaseUnit) (further : State → State)
    (s : State) : State :=
  let previous := s.phase.phase
  let s := s.onPhase fun p => { fields p with phase := new }
  notice true (tellPhase new previous (further (reportPhase new previous cause s)))

/-! ## Evacuation (R47) and the full zone step -/

/-- The evacuation request; ignored in CLOSED and in EVACUATING (R47). -/
def evacuate (s : State) : State :=
  if s.phase.phase = .closed ∨ s.phase.phase = .evacuating then s
  else changePhase .evacuating .alarm (fun p => { p with saved := some p.phase }) id s

/-- A step of the Zone Monitor (R102), its evacuation request taken by the Phase Unit (R121, R47). -/
def zoneStep (origin : Byte) (change : State → State) (s : State) : State := zoneStepWith evacuate origin change s

/-! ## Transitions -/

/-- BGPF (R38). -/
def beginPerformance (number countdown : Nat) (s : State) : Response :=
  if number = 0 ∨ 9999 < number ∨ 7200 < countdown then (.refusedRange, s)
  else if s.phase.phase ≠ .closed then (.refusedState, s)
  else if s.zones.alarm.confirmed ≠ [] then (.refusedState, s)
  else
    let s := s.onPhase fun p =>
      { p with
        report := []
        lost := 0
        fullMarker := false
        number := number
        act := 0
        curtainUp := countdown
        intervalLeft := 0
        demoStatus := .notDone
        demoTime := 0 }
    (.done, changePhase .preshow .command id id (clearFired s))

/-- The request for HOUSE_OPEN (R39). -/
def openHouse (cause : PhaseCause) (s : State) : Response :=
  if s.phase.phase = .preshow then (.done, changePhase .houseOpen cause id id s) else (.refusedState, s)

/-- HOLD and the key (R40). -/
def holdHouse (cause : PhaseCause) (s : State) : Response :=
  if s.phase.phase = .preshow ∨ s.phase.phase = .houseOpen then
    (.done, changePhase .held cause (fun p => { p with heldFrom := some p.phase })
      (fun s => reportHold 0 s.phase.holdPending s) s)
  else (.refusedState, s)

/-- The immediate decrement of a release, announced (R41 step 2). -/
def pendingDecrement (s : State) : State :=
  if s.phase.holdPending ∧ 0 < s.phase.curtainUp then
    let s := s.onPhase fun p => { p with curtainUp := p.curtainUp - 1 }
    announce .curtainUp s.phase.curtainUp s
  else s

/-- Steps 2 to 4 of a release (R41, log entry 13). -/
def endHold (s : State) : State :=
  let pending := s.phase.holdPending
  reportHold 1 pending ((pendingDecrement s).onPhase fun p => { p with holdPending := false })

/-- RLHD and the key (R41). -/
def releaseHold (cause : PhaseCause) (s : State) : Response :=
  if s.phase.phase = .held then
    (.done, changePhase (s.phase.heldFrom.getD .preshow) cause (fun p => { p with heldFrom := none }) endHold s)
  else (.refusedState, s)

/-- The check of the demonstration at the first act (R55, R165). -/
def checkDemonstration (s : State) : State :=
  if s.phase.demoStatus = .passed then s
  else
    let s := if s.phase.demoStatus.inProgress then stopDwell s else s
    let s := setDemoStatus .missed s
    setAttention .demoResult (report .demo ([byte DemoStatus.missed.code, 0xFF] ++ bytes2 s.phase.demoTime ++ [0]) s)

/-- The HOLD entry of a hold that is left by another transition than its release (R42, R46, log entry 14). -/
def leaveHold (previous : Phase) (s : State) : State :=
  if previous = .held then reportHold 1 s.phase.holdPending s else s

/-- The request for RUNNING from HOUSE_OPEN or HELD (R42). -/
def beginAct1 (cause : PhaseCause) (s : State) : State :=
  let previous := s.phase.phase
  changePhase .running cause (fun p => { p with act := 1, heldFrom := none, holdPending := false })
    (fun s => checkDemonstration (leaveHold previous s)) s

/-- The request for INTERVAL from RUNNING with its countdown (R43). -/
def beginInterval (cause : PhaseCause) (countdown : Nat) (s : State) : State :=
  changePhase .interval cause id id (clearIntervalFired (s.onPhase fun p => { p with intervalLeft := countdown }))

/-- A phase request that fits the transition table; the others are refused (R49 item 4, R39, R42 to R45). -/
def takeTransition (target : Phase) (countdown : Nat) (cause : PhaseCause) (s : State) : Response :=
  match target, s.phase.phase with
  | .houseOpen, .preshow => openHouse cause s
  | .running, .houseOpen => (.done, beginAct1 cause s)
  | .running, .held => (.done, beginAct1 cause s)
  | .running, .interval =>
    if s.phase.act = 5 then (.refusedState, s)
    else (.done, changePhase .running cause (fun p => { p with act := p.act + 1 }) id s)
  | .interval, .running => (.done, beginInterval cause countdown s)
  | .egress, .running => (.done, changePhase .egress cause id id s)
  | _, _ => (.refusedState, s)

/-- The act that the record would hold after the transition to a target; none where no act can match (R49 item 2). -/
def actAfter (target : Phase) (s : State) : Option Nat :=
  match target, s.phase.phase with
  | .running, .houseOpen => some 1
  | .running, .held => some 1
  | .running, .interval => some (s.phase.act + 1)
  | .interval, _ => some s.phase.act
  | .egress, _ => some s.phase.act
  | _, _ => none

/-- The targets that a phase request accepts (R49 item 1). -/
def Phase.requestable : Phase → Bool
  | .houseOpen | .running | .interval | .egress => true
  | .closed | .preshow | .held | .evacuating => false

/-- A phase request, in the order of its checks (R49). -/
def phaseRequest (target : Option Phase) (act countdown : Nat) (cause : PhaseCause) (s : State) : Response :=
  match target with
  | none => (.refusedRange, s)
  | some target =>
    if ¬ target.requestable then (.refusedRange, s)
    else if 5 < act then (.refusedRange, s)
    else if act ≠ 0 ∧ actAfter target s ≠ some act then (.refusedState, s)
    else if target = .interval ∧ 3600 < countdown then (.refusedRange, s)
    else takeTransition target countdown cause s

/-- ENPF (R46, log entry 33). -/
def endPerformance (s : State) : Response :=
  if s.phase.phase = .closed then (.refusedState, s)
  else if s.phase.phase = .evacuating ∧ s.zones.alarm.confirmed ≠ [] then (.refusedState, s)
  else
    let previous := s.phase.phase
    let s := s.onPhase fun p =>
      { p with
        curtainUp := 0
        intervalLeft := 0
        heldFrom := none
        saved := none
        holdPending := false
        showStop := false }
    (.done, changePhase .closed .command id (leaveHold previous) (closeAllWindows .ended s))

/-- EVRS (R48). -/
def returnFromEvacuation (s : State) : Response :=
  if s.phase.phase = .evacuating ∧ s.zones.alarm.confirmed = [] then
    (.done, changePhase (s.phase.saved.getD .preshow) .command (fun p => { p with saved := none }) id s)
  else (.refusedState, s)

/-! ## Countdowns (3.3) -/

/-- A wrap of the prescaler, by phase (R51, R52). -/
def wrapActs (s : State) : State :=
  match s.phase.phase with
  | .preshow | .houseOpen =>
    if 0 < s.phase.curtainUp then
      announce .curtainUp (s.phase.curtainUp - 1) (s.onPhase fun p => { p with curtainUp := p.curtainUp - 1 })
    else s
  | .held => s.onPhase fun p => { p with holdPending := true }
  | .interval =>
    if 0 < s.phase.intervalLeft then
      announce .intervalEnd (s.phase.intervalLeft - 1)
        (s.onPhase fun p => { p with intervalLeft := p.intervalLeft - 1 })
    else s
  | .closed | .running | .egress | .evacuating => s

/-- One millisecond of the prescaler: from 999 it becomes 0, and the wrap is due (R50, log entry 6). -/
def advancePrescaler (p : PhaseUnit) : PhaseUnit :=
  if p.prescaler < 999 then { p with prescaler := p.prescaler + 1 } else { p with prescaler := 0, wrapDue := true }

/-- The wrap event: a wrap that is due acts (R51, log entry 6). -/
def prescalerWraps (s : State) : State :=
  if s.phase.wrapDue then wrapActs (s.onPhase fun p => { p with wrapDue := false }) else s

/-- STCD (R53). -/
def setCountdown (value : Nat) (s : State) : Response :=
  if 7200 < value then (.refusedRange, s)
  else
    match s.phase.phase with
    | .preshow | .houseOpen => (.done, s.onPhase fun p => { p with curtainUp := value })
    | .held => (.done, s.onPhase fun p => { p with curtainUp := value, holdPending := false })
    | .interval =>
      if value ≤ 3600 then (.done, s.onPhase fun p => { p with intervalLeft := value })
      else (.doneClamped, s.onPhase fun p => { p with intervalLeft := 3600 })
    | .closed | .running | .egress | .evacuating => (.refusedState, s)

/-! ## Show stop (3.4) -/

/-- A change of show stop: PHASE entry, the Call Unit told, urgent NOTICE (R54, R190). -/
def changeShowStop (value : Bool) (cause : PhaseCause) (s : State) : State :=
  let s := s.onPhase fun p => { p with showStop := value }
  notice true (selection (reportPhase s.phase.phase s.phase.phase cause s))

/-- SHST and the button (R54). -/
def setShowStop (cause : PhaseCause) (s : State) : Response :=
  if s.phase.phase = .closed then (.refusedState, s)
  else if s.phase.showStop then (.done, s)
  else (.done, changeShowStop true cause s)

/-- SHRS (R54). -/
def clearShowStop (s : State) : Response :=
  if s.phase.showStop then (.done, changeShowStop false .command s) else (.done, s)

/-! ## The lines C5 and C6 -/

/-- A hand-off of C5: the show stop button (R54). -/
def handC5 (previous new : Reading) (s : State) : State :=
  if previous = .normal ∧ new = .active then (setShowStop .key s).2 else s

/-- A hand-off of C6: the hold key (R40, R41). -/
def handC6 (previous new : Reading) (s : State) : State :=
  if previous = .normal ∧ new = .active then (holdHouse .key s).2
  else if previous = .active ∧ new = .normal then (releaseHold .key s).2
  else s

end Sys2Proof.Machine
end

