-- ==== Sys2Proof/Machine/ZoneEvents.lean ====
section
/-! DEFINITION. The events and requests that reach the Zone Monitor, each as its steps (R102): ZONE frames, expiries, ZISO,
ZRST, ARST, WOPN and WCLS with the cue actions beside them, and the entries of LDZN. -/

namespace Sys2Proof.Machine

/-- The pairs of a ZONE payload. -/
def zonePairs : List Byte → List (Byte × Byte)
  | z :: condition :: rest => (z, condition) :: zonePairs rest
  | _ => []

/-- A ZONE frame at its hand-off: one step per pair; a payload of length 0, odd, or above 48 is not acted on (R103). -/
def takeZoneFrame (payload : List Byte) (s : State) : State :=
  if payload.length = 0 ∨ payload.length % 2 = 1 ∨ 48 < payload.length then s
  else
    forEach (zonePairs payload)
      (fun pair => zoneStep pair.1 (zoneReport pair.1.toNat (Condition.ofByte pair.2))) s

/-- A zone's verification timer expires (R107). -/
def verificationExpires (z : Nat) (s : State) : State :=
  match zoneAt s z with
  | none => s
  | some zone =>
    if zone.state = .verifying ∧ due zone.verifyTimer s.clock then zoneStep (byte z) (verified z) s else s

/-- A zone's staleness timer expires (R109). -/
def stalenessExpires (z : Nat) (s : State) : State :=
  match zoneAt s z with
  | none => s
  | some zone => if due zone.staleTimer s.clock then zoneStep (byte z) (zoneStale z) s else s

/-- A window's timer expires (R116). -/
def windowExpires (w : Nat) (s : State) : State :=
  match s.zones.windows[w]? with
  | none => s
  | some window =>
    if window.isOpen ∧ due window.timer s.clock then
      zoneStep (windowByte w) (closeWindows [w] .expiry) s
    else s

/-- A hand-off of C0 (R111). -/
def handC0 (reading : Reading) (s : State) : State := zoneStep (byte panelNumber) (panelReading reading) s

/-- ZISO (R112). -/
def isolateZone (z : Nat) (s : State) : Response :=
  if 47 < z then (.refusedRange, s)
  else
    match zoneAt s z with
    | none => (.refusedState, s)
    | some zone =>
      if zone.state = .confirmed then (.refusedState, s)
      else if zone.state = .isolated then (.done, s)
      else (.done, zoneStep (byte z) (enterZone z .isolated none .command) s)

/-- ZRST (R113). -/
def restoreIsolated (z : Nat) (s : State) : Response :=
  if 47 < z then (.refusedRange, s)
  else
    match zoneAt s z with
    | none => (.refusedState, s)
    | some zone =>
      if zone.state = .isolated then (.done, zoneStep (byte z) (restoreZone z) s) else (.refusedState, s)

/-- A zone, or PANEL, is CONFIRMED. -/
def isConfirmed (s : State) (z : Nat) : Bool :=
  if z = panelNumber then decide (s.zones.panel.state = .confirmed) else zoneIs s z .confirmed

/-- What ARST answers: its result, the count of zones reset, and the state. -/
structure ResetAnswer where
  result : Result
  count : Nat
  state : State
  deriving DecidableEq, Repr

/-- ARST with one zone, 0–48 (R114). -/
def resetOne (z : Nat) (s : State) : ResetAnswer :=
  if ¬ isConfirmed s z then { result := .done, count := 0, state := s }
  else if resettable s z then { result := .done, count := 1, state := zoneStep (byte z) (resetZone z) s }
  else { result := .refusedState, count := 0, state := s }

/-- ARST with ALL: one step (R114). -/
def resetAll (s : State) : ResetAnswer :=
  let zones := resettableZones s
  let next := zoneStep 0xFF (forEach zones resetZone) s
  { result := if next.zones.alarm.confirmed = [] then .done else .partialDone
    count := zones.length
    state := next }

/-- ARST (R114). -/
def resetAlarm (argument : Byte) (s : State) : ResetAnswer :=
  if argument = 0xFF then resetAll s
  else if 48 < argument.toNat then { result := .refusedRange, count := 0, state := s }
  else resetOne argument.toNat s

/-- WOPN and WOPEN (R115). -/
def windowOpens (cause : ZoneCause) (w : Nat) (s : State) : Response :=
  if 15 < w then (.refusedRange, s)
  else if s.zones.alarm.confirmed ≠ [] then (.refusedState, s)
  else if s.phase.phase = .evacuating then (.refusedState, s)
  else
    match s.zones.windows[w]?.bind Window.defn with
    | none => (.refusedState, s)
    | some _ => (.done, zoneStep (windowByte w) (openWindow cause w) s)

/-- WCLS and WCLOSE (R117). -/
def windowCloses (cause : ZoneCause) (w : Nat) (s : State) : Response :=
  if 15 < w then (.refusedRange, s)
  else if windowOpen s w then (.done, zoneStep (windowByte w) (closeWindows [w] cause) s)
  else (.done, s)

/-- An LDZN entry that is in range: refused, or applied as one step (R99, R101, R102). -/
def applyZone (load : ZoneLoad) (s : State) : Response :=
  if zoneLoadResult load s = .done then (.done, zoneStep load.origin (zoneLoadChange load) s)
  else (zoneLoadResult load s, s)

end Sys2Proof.Machine
end

