-- ==== Sys2Proof/Machine/Lines.lean ====
section
/-! DEFINITION. The Contact Line Unit (chapter 2): the persistence filter (R28), the acceptance with its capture and entries
(R29 to R32), the readings and their hand-off to the owning blocks (R33). -/

namespace Sys2Proof.Machine

/-! ## Samples (R27, R28) -/

/-- A line's persistence F (R27). -/
def persistenceOf (s : State) (line : Nat) : Nat := (s.command.profile.persistence[line]?).getD 1

/-- A line's edge selection (R27). -/
def edgesOf (s : State) (line : Nat) : EdgeSelection := (s.command.profile.edges[line]?).getD .both

/-- A line's record after the table of R28, before its count is compared with F. -/
def Line.sampled (l : Line) (sample : LineState) : Line :=
  if sample = l.accepted then { l with candidate := none, count := 0 }
  else { l with candidate := some sample, count := if l.candidate = some sample then l.count + 1 else 1 }

/-- The sample completes the persistence F of its state (R28). -/
def Line.completes (l : Line) (sample : LineState) (persistence : Nat) : Bool :=
  decide (sample ≠ l.accepted) && decide (persistence ≤ (l.sampled sample).count)

/-- Change one line's record. -/
def setLine (line : Nat) (l : Line) (s : State) : State := s.onLines fun lines => lines.setIfInBounds line l

/-! ## Acceptances (R29 to R33) -/

/-- The edge of a transition between the working states (R30). -/
def edgeOf (previous new : LineState) : Option Edge :=
  match previous, new with
  | .normal, .active => some .activate
  | .active, .normal => some .deactivate
  | _, _ => none

/-- An edge selection includes an edge (R30). -/
def EdgeSelection.includes : EdgeSelection → Edge → Bool
  | .both, _ => true
  | .activate, .activate => true
  | .activate, .deactivate => false
  | .deactivate, .deactivate => true
  | .deactivate, .activate => false

/-- The fault states of a line (2.2). -/
def faultState : LineState → Bool
  | .opened | .shorted => true
  | .normal | .active => false

/-- The reading of a line for its accepted state; C5 and C6 keep theirs through a fault (R33). -/
def readingOf (line : Nat) (accepted : LineState) (before : Reading) : Reading :=
  match accepted with
  | .normal => .normal
  | .active => .active
  | .opened | .shorted =>
    if line ≤ 2 then .fault
    else if line = 3 then .active
    else if line = 5 ∨ line = 6 then before
    else .normal

/-- The transition appends a CONTACT entry: a selected edge, or any transition into or out of a fault state (R31). -/
def entered (selection : EdgeSelection) (previous new : LineState) : Bool :=
  match edgeOf previous new with
  | some edge => selection.includes edge
  | none => faultState previous || faultState new

/-- The record after an acceptance: accepted state, capture and reading (R29 steps 1, 2 and 5). -/
def Line.accept (l : Line) (line : Nat) (selection : EdgeSelection) (new : LineState) (t : Time) : Line where
  accepted := new
  candidate := none
  count := 0
  capture :=
    match edgeOf l.accepted new with
    | none => l.capture
    | some edge => if selection.includes edge then some { time := t, edge := edge } else l.capture
  reading := readingOf line new l.reading

/-- Append the CONTACT entry of a transition that has one (R31). -/
def reportContact (line : Nat) (selection : EdgeSelection) (previous new : LineState) (s : State) : State :=
  if entered selection previous new then
    report .contact [byte line, byte (lineCode new), byte (lineCode previous)] s
  else s

/-- The hand-off of an acceptance to the line's owner (R29 step 5, R33). C4 is read and not acted on (R143). -/
def handOff (line : Nat) (previous new : Reading) (s : State) : State :=
  match line with
  | 0 => handC0 new s
  | 1 => handC1 previous new s
  | 2 => handC2 previous new s
  | 3 => handC3 previous new s
  | 5 => handC5 previous new s
  | 6 => handC6 previous new s
  | 7 => handC7 previous new s
  | _ => s

/-- The steps of an acceptance of a new state, all at the reading of the sample that completed its persistence, which is
the present one (R26, R29). -/
def acceptState (line : Nat) (l : Line) (new : LineState) (s : State) : State :=
  let selection := edgesOf s line
  let next := l.accept line selection new s.clock
  let s := reportContact line selection l.accepted new (setLine line next s)
  let s := if faultState new then setAttention .contactFault s else s
  handOff line l.reading next.reading s

/-- A sample of a line: the sample that completes the persistence of its state accepts it (R28, R29, log entry 7). -/
def takeSample (line : Nat) (sample : LineState) (s : State) : State :=
  match s.lines[line]? with
  | none => s
  | some l =>
    if l.completes sample (persistenceOf s line) then acceptState line l sample s
    else setLine line (l.sampled sample) s

/-- The acceptance of a line's candidate: the sample of the candidate state that completes its persistence; where the next
such sample does not complete it, there is no acceptance (R28, R29, log entry 7). -/
def acceptLine (line : Nat) (s : State) : State :=
  match s.lines[line]?.bind Line.candidate with
  | none => s
  | some x =>
    if s.lines[line]?.any fun l => l.completes x (persistenceOf s line) then takeSample line x s else s

end Sys2Proof.Machine
end

