-- ==== Sys2Proof/Machine/Cues.lean ====
section
/-! DEFINITION. The Cue Unit (chapter 4): the cue table and its loads, the match of a CUE frame, and the execution of an
action list. -/

namespace Sys2Proof.Machine

/-! ## The table (4.1) -/

/-- The entry's key (R59). -/
def CueEntry.hasKey (e : CueEntry) (list cue : Nat) : Bool := decide (e.list = list ∧ e.cue = cue)

/-- The key order: by list, then by cue number (R59). -/
def CueEntry.before (a b : CueEntry) : Bool := decide (a.list < b.list ∨ (a.list = b.list ∧ a.cue < b.cue))

/-- Insert an entry at its place in key order (R61). -/
def insertCue (entry : CueEntry) : List CueEntry → List CueEntry
  | [] => [entry]
  | e :: rest => if entry.before e then entry :: e :: rest else e :: insertCue entry rest

/-- The entry of a key, if the table holds one. -/
def findCue (s : State) (list cue : Nat) : Option CueEntry := s.cues.table.find? fun e => e.hasKey list cue

/-- Apply a cue entry (R61). -/
def applyCue (load : CueLoad) (s : State) : Response :=
  match load with
  | .delete list cue => (.done, s.onCues fun c => { c with table := c.table.filter fun e => !e.hasKey list cue })
  | .set entry =>
    match findCue s entry.list entry.cue with
    | some _ =>
      (.done, s.onCues fun c =>
        { c with table := c.table.map fun e => if e.hasKey entry.list entry.cue then entry else e })
    | none =>
      if s.cues.table.length < Config.cueCapacity then
        (.done, s.onCues fun c => { c with table := insertCue entry c.table })
      else (.refusedFull, s)

/-! ## Execution (4.3, 4.4) -/

/-- The action's owner takes its request, with source CUE (R66 to R70). -/
def performAction (action : CueAction) (s : State) : Response :=
  match action with
  | .phase target act => phaseRequest (some target) act s.command.profile.intervalLength .cue s
  | .hfade group level time => houseFade group level time s
  | .wopen window => windowOpens .cue window s
  | .wclose window => windowCloses .cue window s
  | .call id => requestCall id .cue s
  | .demo => startDemo s
  | .mark _ => (.done, s)

/-- The Cue Unit refuses PHASE and CALL in CLOSED itself (R65). -/
def refusedInClosed (action : CueAction) (s : State) : Bool :=
  decide (s.phase.phase = .closed) &&
    match action with
    | .phase _ _ | .call _ => true
    | .hfade _ _ _ | .wopen _ | .wclose _ | .demo | .mark _ => false

/-- A result that is a refusal: every one but DONE (R64). -/
def Result.refuses : Result → Bool
  | .done | .doneClamped | .partialDone => false
  | .refusedState | .refusedRange | .refusedFull | .refusedLocked | .refusedSource | .refusedBusy | .refusedLocal
  | .unknownCommand | .badLength => true

/-- Append a CUE_REFUSED entry, timed at the frame's arrival (R72). -/
def reportRefusal (x : Execution) (action : CueAction) (reason : Result) (s : State) : State :=
  appendEntry
    { time := x.arrival
      kind := .cueRefused
      data := [byte x.list] ++ bytes2 x.cue ++ [byte x.next, action.kind, byte reason.code] } s

/-- Append a MARK entry, timed at the frame's arrival (R71). -/
def reportMark (x : Execution) (value : Byte) (s : State) : State :=
  appendEntry { time := x.arrival, kind := .mark, data := [value, byte x.list] ++ bytes2 x.cue } s

/-- One action of an execution: restriction, request, and CUE_REFUSED for a refusal (R64, R65, R71, R72). -/
def executeAction (x : Execution) (action : CueAction) (s : State) : State :=
  match action with
  | .mark value => reportMark x value s
  | action =>
    let answer := if refusedInClosed action s then (.refusedState, s) else performAction action s
    if answer.1.refuses then reportRefusal x action answer.1 answer.2 else answer.2

/-- The record's next action (R63, R64). -/
def setNext (x : Execution) (position : Nat) (s : State) : State :=
  s.onCues fun c => { c with execution := some { x with next := position } }

/-- Hand the actions one by one, from a position on (R64). -/
def executeFrom (x : Execution) : Nat → List CueAction → State → State
  | _, [], s => s
  | position, action :: rest, s =>
    executeFrom x (position + 1) rest
      (executeAction { x with next := position } action (setNext x position s))

/-- Execute the copy of a matched entry to its end; the record is then absent (R63, R64). -/
def executeCue (entry : CueEntry) (s : State) : State :=
  let x : Execution := { actions := entry.actions, list := entry.list, cue := entry.cue, arrival := s.clock, next := 1 }
  (executeFrom x 1 entry.actions s).onCues fun c => { c with execution := none }

/-- A CUE frame at its hand-off: checked and matched (R62, R63). -/
def takeCueFrame (payload : List Byte) (s : State) : State :=
  match payload with
  | list :: cueHi :: cueLo :: verb :: _ =>
    if list.toNat ≤ 3 ∧ number2 cueHi cueLo ≤ 9999 ∧ verb = 1 then
      match findCue s list.toNat (number2 cueHi cueLo) with
      | none => s
      | some entry => executeCue entry s
    else s
  | _ => s

end Sys2Proof.Machine
end

