-- ==== Sys2Proof/Machine/Reads.lean ====
section
/-! DEFINITION. The data of the read replies: RDST, RDZN, RDQU, RDRP and RDTB (R207 to R210), each in the layout of R221,
and the table image of the working tables (R218). -/

namespace Sys2Proof.Machine

/-- Data bytes that fit beside the three leading bytes of a REPLY (R205, R221). -/
def replyRoom : Nat := Config.payloadMax - 3

/-- As many whole items as fit in `room` bytes, in order (11.3). -/
def takeFitting : Nat → List (List Byte) → List Byte
  | _, [] => []
  | room, item :: rest => if item.length ≤ room then item ++ takeFitting (room - item.length) rest else []

/-! ## RDST (R207) -/

/-- The eight relays, bit n for Kn (R200, R221). -/
def relayByte (s : State) : Byte :=
  packBits ((s.bells.generators.toList.map Generator.relay) ++ [s.lights.k4, s.curtain.k5, s.curtain.k6, s.loop.k7])

/-- The seven bytes of a line in RDST PART. -/
def Line.status (l : Line) : List Byte :=
  [byte (lineCode l.accepted), byte l.reading.code] ++ optionTime (l.capture.map Capture.time) ++
    [optionByte (l.capture.map fun c => c.edge.code)]

/-- RDST PART. -/
def partStatus (s : State) : List Byte :=
  [0, s.nodeByte] ++ timeBytes s.clock ++
    [byte s.loop.ring.code, byte s.loop.badFrames, byte s.loop.forward.length, byte s.loop.origin.length,
      relayByte s] ++
    s.lines.toList.flatMap Line.status ++ bytes2 s.command.attention.toNat ++ [flagByte s.command.store.isSome]

/-- RDST PERFORMANCE. -/
def performanceStatus (s : State) : List Byte :=
  let p := s.phase
  [1, byte p.phase.code] ++ bytes2 p.number ++
    [byte p.act, optionByte (p.heldFrom.map Phase.code), optionByte (p.saved.map Phase.code)] ++
    bytes2 p.curtainUp ++ bytes2 p.intervalLeft ++ bytes2 p.prescaler ++
    [flagByte p.holdPending, flagByte p.showStop, byte p.demoStatus.code,
      optionByte (p.demoStatus.reason.map DemoReason.code)] ++
    bytes2 p.demoTime ++ [byte p.report.length, byte p.lost, flagByte p.fullMarker]

/-- A signed number in two's complement, two bytes. -/
def signedBytes2 (v : Int) : List Byte := bytes2 (BitVec.ofInt 16 v).toNat

/-- The curtain record of RDST CURTAIN. -/
def curtainRecord (c : Curtain) : List Byte :=
  [c.code, optionByte (c.cause.map FaultCause.code), byte c.mode.code, optionByte (c.pending.map Pending.code)] ++
    bytes2 c.position ++ optionTime c.reportTime ++
    [flagByte c.stale, c.flags.byte, flagByte c.rederive, flagByte c.floorCheck] ++
    optionTime c.descentStart ++ bytes2 c.lastDescent

/-- The estimator of RDST CURTAIN. -/
def estimatorRecord (e : Estimator) : List Byte :=
  [flagByte e.running] ++ optionBytes2 e.refPosition ++ optionTime e.refTime ++ signedBytes2 e.speed ++
    bytes2 e.predicted ++ [flagByte e.noProgress, byte e.late, flagByte e.lateAction]

/-- The running timers of the Curtain Supervisor, one bit each (R221). -/
def curtainTimers (c : Curtain) : Byte :=
  packBits
    [c.deadTimer.isSome, c.repeatTimer.isSome, c.raiseTimer.isSome, c.staleTimer.isSome, c.emergencyTimer.isSome,
      c.flowTimer.isSome, c.sequence.dwellTimer.isSome]

/-- RDST CURTAIN. -/
def curtainStatus (s : State) : List Byte :=
  let c := s.curtain
  [2] ++ curtainRecord c ++ [byte c.ring.code, flagByte c.stageAlarm, packBits [c.k5, c.k6]] ++
    estimatorRecord c.estimator ++
    [c.sequence.markByte, optionByte (c.sequence.first.map DemoReason.code), flagByte c.sequence.posSeen,
      curtainTimers c]

/-- The fifteen bytes of a group in RDST LIGHTS; an absent fade reads all ones. -/
def Group.status (g : Group) : List Byte :=
  bytes2 g.level ++ [byte g.owner.code] ++ optionBytes2 (g.fade.map Fade.start) ++
    optionBytes2 (g.fade.map Fade.target) ++
    (match g.fade with
      | none => [0xFF, 0xFF, 0xFF, 0xFF, 0xFF, 0xFF, 0xFF, 0xFF]
      | some fade => bytes4 fade.steps ++ bytes4 fade.index)

/-- RDST LIGHTS. -/
def lightsStatus (s : State) : List Byte :=
  [3] ++ s.lights.groups.toList.flatMap Group.status ++ [flagByte (overrideActive s), flagByte s.lights.k4]

/-- The four bytes of a generator in RDST BELLS. -/
def Generator.status (g : Generator) : List Byte :=
  [byte g.state.code, optionByte (g.latched.map Latched.number), byte g.r, byte g.k]

/-- RDST BELLS. -/
def bellsStatus (s : State) : List Byte :=
  [4] ++ s.bells.generators.toList.flatMap Generator.status ++
    s.calls.selectors.toList.map fun plan => byte plan.code

/-- The data of RDST for a section code; none for a code that names no section (R207). -/
def statusSection (section_ : Nat) (s : State) : Option (List Byte) :=
  match section_ with
  | 0 => some (partStatus s)
  | 1 => some (performanceStatus s)
  | 2 => some (curtainStatus s)
  | 3 => some (lightsStatus s)
  | 4 => some (bellsStatus s)
  | _ => none

/-! ## RDZN (R208) -/

/-- A span rounded up to whole units. -/
def roundUp (ms unit : Nat) : Nat := (ms + unit - 1) / unit

/-- The time left on a timer in whole units, rounded up; 0 while it is stopped. -/
def timeLeft (unit : Nat) (timer : Option Timer) (now : Time) : Nat :=
  match timer with
  | none => 0
  | some timer => roundUp (timer.left now) unit

/-- A zone's item (R208, R221). -/
def zoneItem (s : State) (z : Nat) (zone : Zone) : List Byte :=
  [byte z, byte zone.defn.side.code, byte zone.state.code, byte zone.last.code, flagByte zone.stale] ++
    timeBytes zone.lastReport ++ bytes2 (timeLeft 100 zone.verifyTimer s.clock)

/-- PANEL's item; its stale mark and verification time are free values (log entry 39). -/
def panelItem (s : State) : List Byte :=
  [byte panelNumber, 0xFF, byte s.zones.panel.state.code, byte s.zones.panel.last.code, Config.panelStaleMark s.clock] ++
    [0xFF, 0xFF, 0xFF, 0xFF] ++ bytes2 (Config.panelVerification s.clock).toNat

/-- A window's item (R208, R100, R221); a CLOSED window has no time left. -/
def windowItem (s : State) (w : Nat) (window : Window) (d : WindowDef) : List Byte :=
  [byte w, byte (windowCode window.isOpen)] ++
    bytes2 (if window.isOpen then timeLeft 1000 window.timer s.clock else 0) ++ bytes2 d.duration ++ maskBytes 6 d.zones

/-- The zone items from a first number upward, PANEL last. -/
def zoneItems (s : State) (first : Nat) : List (List Byte) :=
  ((numbered s.zones.zones).filter fun (z, _) => decide (first ≤ z)).map (fun (z, zone) => zoneItem s z zone) ++
    [panelItem s]

/-- The window items from a first number upward. -/
def windowItems (s : State) (first : Nat) : List (List Byte) :=
  s.zones.windows.toList.zipIdx.filterMap fun (window, w) =>
    match window.defn with
    | none => none
    | some d => if first ≤ w then some (windowItem s w window d) else none

/-- The leading bytes of an RDZN reply and as many items as fit. -/
def zoneReply (selector first : Byte) (items : List (List Byte)) (s : State) : List Byte :=
  [selector, packBits s.zones.alarm.bits, byte s.zones.alarm.confirmed.length, first] ++
    takeFitting (replyRoom - 4) items

/-- The data of RDZN; none where the selector or the first number is out of range (R208). -/
def zoneStatus (selector first : Byte) (s : State) : Option (List Byte) :=
  if selector = 0 ∧ first.toNat ≤ 48 then some (zoneReply selector first (zoneItems s first.toNat) s)
  else if selector = 1 ∧ first.toNat ≤ 15 then some (zoneReply selector first (windowItems s first.toNat) s)
  else none

/-! ## RDQU (R208) -/

/-- Repeats remaining as a byte: FEh for CONTINUOUS, FFh when absent (R221). -/
def repeatsByte : Option Repeats → Byte
  | none => 0xFF
  | some .continuous => 0xFE
  | some (.count n) => byte n

/-- The sounding instance's five bytes. -/
def soundingItem (call : CallInstance) : List Byte :=
  [byte call.id, byte call.priority, byte call.source.code, byte call.soundings, repeatsByte call.repeats]

/-- A queued instance's twelve bytes. -/
def queuedItem (call : CallInstance) : List Byte :=
  [byte call.id, byte call.priority, byte call.source.code] ++ timeBytes call.enqueued ++ optionTime call.expiry ++
    [repeatsByte call.repeats]

/-- The player's state, timer and sounding instance. -/
def playerStatus (s : State) : List Byte :=
  match s.calls.player with
  | .idle => [0] ++ bytes4 0 ++ [0xFF, 0xFF, 0xFF, 0xFF, 0xFF]
  | .sounding call _ timer => [1] ++ bytes4 (timer.left s.clock) ++ soundingItem call
  | .gap call _ timer => [2] ++ bytes4 (timer.left s.clock) ++ soundingItem call

/-- The data of RDQU. -/
def queueStatus (s : State) : List Byte :=
  playerStatus s ++ [byte s.calls.queue.length] ++ s.calls.queue.flatMap queuedItem

/-! ## RDRP (R209) -/

/-- A report entry as RDRP returns it (R221). -/
def ReportEntry.bytes (e : ReportEntry) : List Byte :=
  timeBytes e.time ++ [byte e.kind.code, byte e.data.length] ++ e.data

/-- The data of RDRP; none for an index above 127 (R209). A reply that returns no entry carries the requested index: the
model's choice (log entry 49). -/
def reportStatus (index : Nat) (s : State) : Option (List Byte) :=
  if 127 < index then none
  else
    some ([byte s.phase.report.length, byte s.phase.lost, flagByte s.phase.fullMarker, byte index] ++
      takeFitting (replyRoom - 4) ((s.phase.report.drop index).map ReportEntry.bytes))

/-! ## RDTB (R210) -/

/-- A policy entry with its runtime fields. -/
def PolicyEntry.bytes (e : PolicyEntry) : List Byte :=
  e.defn.bytes ++ [e.lastLevel, flagByte e.silent] ++ optionTime e.lastConsole ++ optionTime e.lastOutput

/-- The entries of the window table that have a definition. -/
def windowDefs (s : State) : Vector (Option WindowDef) 16 := mapTable Window.defn s.zones.windows

/-- The definitions of the zone table. -/
def zoneDefs (s : State) : Vector (Option ZoneDef) 48 := mapTable (Option.map Zone.defn) s.zones.zones

/-- The definitions of the call table. -/
def callDefs (s : State) : Vector (Option CallDef) 32 := mapTable (Option.map CallEntry.defn) s.calls.defs

/-- The entries of the table of a code in key order; none for an unknown code (R210, R221). -/
def tableEntries (table : Nat) (s : State) : Option (List (List Byte)) :=
  match table with
  | 0 => some (s.lights.policy.map PolicyEntry.bytes)
  | 1 => some (s.cues.table.map CueEntry.bytes)
  | 2 => some ((numbered (zoneDefs s)).map (fun (z, d) => d.bytes z) ++
      (numbered (windowDefs s)).map fun (w, d) => d.bytes w)
  | 3 => some ((numbered (callDefs s)).map fun (id, d) => d.bytes id)
  | 4 => some ((numbered s.bells.patterns).map fun (n, p) => p.bytes n)
  | 5 => some ((numbered s.calls.areas).map fun (a, d) => d.bytes a)
  | 6 => some s.command.profile.bytes
  | _ => none

/-- The data of RDTB; none for an unknown table code (R210). A reply that returns no entry carries the requested index: the
model's choice (log entry 49). -/
def tableStatus (table index : Byte) (s : State) : Option (List Byte) :=
  (tableEntries table.toNat s).map fun entries =>
    [table] ++ bytes2 entries.length ++ [index] ++ takeFitting (replyRoom - 4) (entries.drop index.toNat)

/-- The working tables and the profile as one image (R218). -/
def imageOf (s : State) : Image where
  policy := s.lights.policy.map PolicyEntry.defn
  cues := s.cues.table
  zones := zoneDefs s
  windows := windowDefs s
  calls := callDefs s
  patterns := s.bells.patterns
  areas := s.calls.areas
  profile := s.command.profile

end Sys2Proof.Machine
end

