-- ==== Sys2Proof/Machine/Commands.lean ====
section
/-! DEFINITION. The Command Unit's execution of a command: the checks in their order, the command in progress and the REPLY
(R203 to R206), the loads (R211), and the body of every command row. -/

namespace Sys2Proof.Machine

/-- What a command's own rule makes: its answer and the state (R205). -/
structure Executed where
  answer : Answer
  state : State
  deriving DecidableEq, Repr

/-- A response that carries no data. -/
def Response.executed (r : Response) : Executed := { answer := .plain r.1, state := r.2 }

/-- A read: its data with DONE, or REFUSED_RANGE without data (R206). -/
def readAnswer (data : Option (List Byte)) (s : State) : Executed :=
  match data with
  | none => { answer := .plain .refusedRange, state := s }
  | some data => { answer := { result := .done, data := data }, state := s }

/-! ## Acceptance and reply (R203 to R205) -/

/-- Offer a REPLY: code, sequence number, result, data (R205, R221). -/
def offerReply (dest code sequence : Byte) (answer : Answer) (s : State) : State :=
  offer kindReply dest ([code, sequence, byte answer.result.code] ++ answer.data) false s

/-- A COMMAND frame from this source to the part's node reaches the Command Unit: the part is numbered, the source is a
valid node, and it is not the part's own (R3, R10, R12). -/
def reachesUnit (source : Byte) (s : State) : Bool :=
  s.numbered && decide (1 ≤ source.toNat ∧ source.toNat ≤ 126 ∧ source ≠ s.nodeByte)

/-- The source is the controller node (R204 check 1). -/
def fromController (source : Byte) (s : State) : Bool := decide (source.toNat = s.command.profile.controller)

/-- Set or clear the command in progress (R203). -/
def setInProgress (c : Option CommandInProgress) (s : State) : State := s.onCommand fun u => { u with inProgress := c }

/-- A command ends: its REPLY is offered and no command is in progress (R203, R205). -/
def finish (code : Byte) (h : CommandHeader) (x : Executed) : State :=
  setInProgress none (offerReply h.source code h.sequence x.answer x.state)

/-- The phases under the performance lock (R212). -/
def Phase.locked : Phase → Bool
  | .closed | .preshow => false
  | .houseOpen | .held | .running | .interval | .egress | .evacuating => true

/-- What the checks of R204 ask of a command: its length fits (check 4), it needs the store IDLE (check 5), the performance
lock covers it (check 6). -/
structure Checks where
  fits : Bool
  needsStore : Bool
  lockable : Bool
  deriving DecidableEq, Repr

/-- Most commands: a fixed length, taken whatever the store and the lock. -/
def Checks.plain : Checks := { fits := true, needsStore := false, lockable := false }

/-- The first check of R204 that a named command fails, but for its own conditions. -/
def failedCheck (source : Byte) (c : Checks) (s : State) : Option Result :=
  if ¬ fromController source s then some .refusedSource
  else if ¬ c.fits then some .badLength
  else if c.needsStore ∧ s.command.store.isSome then some .refusedBusy
  else if c.lockable ∧ s.phase.phase.locked then some .refusedLocked
  else none

/-- The command is in progress from its hand-off (R203). -/
def begin (code : Byte) (h : CommandHeader) (s : State) : State :=
  setInProgress (some { code := code, sequence := h.sequence, source := h.source, arrival := s.clock }) s

/-- Execute a command: the checks, its own rule, and exactly one REPLY (R204, R205). A command that does not reach the unit
changes nothing (R10, R12). -/
def execute (code : Byte) (h : CommandHeader) (c : Checks) (body : State → Executed) (s : State) : State :=
  if ¬ reachesUnit h.source s then s
  else
    let s := begin code h s
    match failedCheck h.source c s with
    | some refusal => finish code h { answer := .plain refusal, state := s }
    | none => finish code h (body s)

/-- A command whose rule answers a response without data, under no store or lock check. -/
def simple (code : Byte) (h : CommandHeader) (body : State → Response) (s : State) : State :=
  execute code h .plain (fun s => (body s).executed) s

/-! ## Loads (R211, R212, R213) -/

/-- The operations of a TABLE entry (R221). -/
inductive TableOperation where
  | load
  | clear
  | store
  deriving DecidableEq, Repr

/-- Table operation codes (R221). -/
def TableOperation.code : TableOperation → Byte
  | .load => 0
  | .clear => 1
  | .store => 2

/-- Append a TABLE entry (R211, R213, R218). -/
def reportTable (table : Byte) (operation : TableOperation) (result : Result) (count : Nat) (s : State) : State :=
  report .table [table, operation.code, byte result.code, byte count] s

/-- What the entries of a load came to: the count applied, whether one was clamped, and the refusal that stopped it. -/
structure LoadOutcome where
  count : Nat
  clamped : Bool
  refusal : Option Result
  deriving DecidableEq, Repr

/-- Hand the entries one at a time until one is refused (R211). -/
def loadFrom (apply : List Byte → State → Response) : Nat → Bool → List (List Byte) → State → LoadOutcome × State
  | count, clamped, [], s => ({ count := count, clamped := clamped, refusal := none }, s)
  | count, clamped, entry :: rest, s =>
    match apply entry s with
    | (.done, s) => loadFrom apply (count + 1) clamped rest s
    | (.doneClamped, s) => loadFrom apply (count + 1) true rest s
    | (refusal, s) => ({ count := count, clamped := clamped, refusal := some refusal }, s)

/-- A load's answer by the first case that fits (R211). -/
def LoadOutcome.answer (o : LoadOutcome) : Answer :=
  match o.refusal with
  | none => { result := if o.clamped then .doneClamped else .done, data := [byte o.count] }
  | some reason =>
    if o.count = 0 then { result := reason, data := [0] }
    else { result := .partialDone, data := [byte o.count, byte reason.code] }

/-- The entries of a load and its TABLE entry (R211). -/
def loadEntries (table : Byte) (apply : List Byte → State → Response) (entries : List (List Byte)) (s : State) :
    Executed :=
  let loaded := loadFrom apply 0 false entries s
  { answer := loaded.1.answer
    state := reportTable table .load loaded.1.answer.result loaded.1.count loaded.2 }

/-- A load command: its payload cut into whole entries (check 4), the store and lock checks, the entries (R205, R211,
R212). -/
def runLoad (code table : Byte) (lockable : Bool) (lengthOf : List Byte → Option Nat)
    (apply : List Byte → State → Response) (h : CommandHeader) (bytes : List Byte) (s : State) : State :=
  match entriesOf lengthOf bytes with
  | none =>
    execute code h { fits := false, needsStore := true, lockable := lockable }
      (fun s => { answer := .plain .badLength, state := s }) s
  | some entries =>
    execute code h { fits := true, needsStore := true, lockable := lockable } (loadEntries table apply entries) s

/-- An entry that is read, or REFUSED_RANGE. -/
def applyRead {α : Type} (read : List Byte → Option α) (apply : α → State → Response) (entry : List Byte) (s : State) :
    Response :=
  match read entry with
  | none => (.refusedRange, s)
  | some load => apply load s

/-- The ports after a change of the profile's divisor: the receiver takes it at once, the OUT port when it is FREE (R2). -/
def takeDivisor (s : State) : State :=
  s.onLoop fun l =>
    { l with
      inDivisor := s.command.profile.lineDivisor
      outDivisor := if l.sending.isSome then l.outDivisor else s.command.profile.lineDivisor }

/-- Replace the working profile (R214). -/
def setProfile (p : Profile) (s : State) : State := takeDivisor (s.onCommand fun c => { c with profile := p })

/-- Apply an LDPF entry (R214). -/
def applyProfile (entry : List Byte) (s : State) : Response :=
  match entry with
  | [code, hi, lo] =>
    match s.command.profile.load code.toNat (number2 hi lo) with
    | none => (.refusedRange, s)
    | some l => (if l.clamped then .doneClamped else .done, setProfile l.profile s)
  | _ => (.refusedRange, s)

/-- An applied entry of the call, pattern or area table; the player makes a selection after it (R183). -/
def applied {α : Type} (apply : α → State → State) (load : α) (s : State) : Response := (.done, selection (apply load s))

/-- Empty one table (R213); none for an unknown code, and REFUSED_STATE for the zone table that may not be cleared. -/
def clearTable (table : Nat) (s : State) : Response :=
  match table with
  | 0 => (.done, s.onLights fun l => { l with policy := [] })
  | 1 => (.done, s.onCues fun c => { c with table := [] })
  | 2 => if zonesClearable s then (.done, clearZones s) else (.refusedState, s)
  | 3 => (.done, s.onCalls fun c => { c with defs := Vector.replicate 32 none })
  | 4 => (.done, s.onBells fun b => { b with patterns := Vector.replicate 8 none })
  | 5 => (.done, s.onCalls fun c => { c with areas := Vector.replicate 12 none })
  | 6 => (.done, setProfile .default s)
  | _ => (.refusedRange, s)

/-- CLTB's own rule: the table is emptied and a TABLE entry is appended (R213). -/
def clearCommand (table : Byte) (s : State) : Executed :=
  let cleared := clearTable table.toNat s
  if cleared.1 = .done then
    { answer := .plain .done, state := reportTable table .clear .done 0 cleared.2 }
  else { answer := .plain cleared.1, state := s }

/-- The tables whose CLTB is under the performance lock: policy, zone and profile (R212). -/
def tableLockable (table : Byte) : Bool := decide (table = 0 ∨ table = 2 ∨ table = 6)

/-! ## The command rows -/

/-- RDST (R207); a PART reply is an attention report (R215). -/
def runRdst (h : CommandHeader) (section_ : Byte) (s : State) : State :=
  execute 0x01 h .plain
    (fun s => readAnswer (statusSection section_.toNat s) (if section_ = 0 then reportAttention s else s)) s

/-- ACKA (R216): its reply carries the set after the clearing and is an attention report. -/
def runAcka (h : CommandHeader) (mask : BitVec 16) (s : State) : State :=
  execute 0x02 h .plain
    (fun s =>
      let s := clearAcknowledged mask s
      { answer := { result := .done, data := bytes2 s.command.attention.toNat }, state := reportAttention s }) s

/-- RDZN (R208). -/
def runRdzn (h : CommandHeader) (selector first : Byte) (s : State) : State :=
  execute 0x03 h .plain (fun s => readAnswer (zoneStatus selector first s) s) s

/-- RDQU (R208). -/
def runRdqu (h : CommandHeader) (s : State) : State :=
  execute 0x04 h .plain (fun s => readAnswer (some (queueStatus s)) s) s

/-- RDRP (R209). -/
def runRdrp (h : CommandHeader) (index : Byte) (s : State) : State :=
  execute 0x05 h .plain (fun s => readAnswer (reportStatus index.toNat s) s) s

/-- RDTB (R210). -/
def runRdtb (h : CommandHeader) (table index : Byte) (s : State) : State :=
  execute 0x06 h .plain (fun s => readAnswer (tableStatus table index s) s) s

/-- LDPO (R76). -/
def runLdpo : CommandHeader → List Byte → State → State :=
  runLoad 0x10 0 true (fixedLength 9) (applyRead readPolicy applyPolicy)

/-- LDCU (R61). -/
def runLdcu : CommandHeader → List Byte → State → State :=
  runLoad 0x11 1 false cueLength (applyRead readCue applyCue)

/-- LDZN (R99, R101). -/
def runLdzn : CommandHeader → List Byte → State → State :=
  runLoad 0x12 2 true zoneLength (applyRead readZone applyZone)

/-- LDCL (R172). -/
def runLdcl : CommandHeader → List Byte → State → State :=
  runLoad 0x13 3 false (fixedLength 15) (applyRead readCall (applied applyCall))

/-- LDPT (R192). -/
def runLdpt : CommandHeader → List Byte → State → State :=
  runLoad 0x14 4 false (fixedLength 8) (applyRead readPattern (applied applyPattern))

/-- LDRT (R169). -/
def runLdrt : CommandHeader → List Byte → State → State :=
  runLoad 0x15 5 false (fixedLength 8) (applyRead readArea (applied applyArea))

/-- LDPF (R214). -/
def runLdpf : CommandHeader → List Byte → State → State := runLoad 0x16 6 true (fixedLength 3) applyProfile

/-- CLTB (R213). -/
def runCltb (h : CommandHeader) (table : Byte) (s : State) : State :=
  execute 0x17 h { fits := true, needsStore := true, lockable := tableLockable table } (clearCommand table) s

/-- BGPF (R38). -/
def runBgpf (h : CommandHeader) (number countdown : Nat) (s : State) : State :=
  simple 0x20 h (beginPerformance number countdown) s

/-- OPHS (R39). -/
def runOphs (h : CommandHeader) (s : State) : State := simple 0x21 h (openHouse .command) s

/-- HOLD (R40). -/
def runHold (h : CommandHeader) (s : State) : State := simple 0x22 h (holdHouse .command) s

/-- RLHD (R41). -/
def runRlhd (h : CommandHeader) (s : State) : State := simple 0x23 h (releaseHold .command) s

/-- STCD (R53). -/
def runStcd (h : CommandHeader) (value : Nat) (s : State) : State := simple 0x24 h (setCountdown value) s

/-- PHSE (R49). -/
def runPhse (h : CommandHeader) (target act : Byte) (interval : Nat) (s : State) : State :=
  simple 0x25 h (phaseRequest (Phase.ofCode target.toNat) act.toNat interval .command) s

/-- SHST (R54). -/
def runShst (h : CommandHeader) (s : State) : State := simple 0x26 h (setShowStop .command) s

/-- SHRS (R54). -/
def runShrs (h : CommandHeader) (s : State) : State := simple 0x27 h clearShowStop s

/-- EVRS (R48). -/
def runEvrs (h : CommandHeader) (s : State) : State := simple 0x28 h returnFromEvacuation s

/-- ENPF (R46). -/
def runEnpf (h : CommandHeader) (s : State) : State := simple 0x29 h endPerformance s

/-- CLWR (R133). -/
def runClwr (h : CommandHeader) (s : State) : State := simple 0x30 h (lowerRequest .normal) s

/-- CRSE (R137). -/
def runCrse (h : CommandHeader) (s : State) : State := simple 0x31 h raiseCurtain s

/-- CSTP (R139). -/
def runCstp (h : CommandHeader) (s : State) : State := simple 0x32 h stopCurtain s

/-- DEMO (R158). -/
def runDemo (h : CommandHeader) (s : State) : State := simple 0x33 h startDemo s

/-- CCLR (R147). -/
def runCclr (h : CommandHeader) (s : State) : State := simple 0x34 h clearCurtainFault s

/-- HFAD (R82). -/
def runHfad (h : CommandHeader) (group : Byte) (level time : Nat) (s : State) : State :=
  simple 0x38 h (houseFade group.toNat level time) s

/-- HREL (R84). -/
def runHrel (h : CommandHeader) (group : Byte) (s : State) : State := simple 0x39 h (releaseGroup group.toNat) s

/-- HTAK (R85). -/
def runHtak (h : CommandHeader) (group : Byte) (s : State) : State := simple 0x3A h (takeGroup group.toNat) s

/-- ZISO (R112). -/
def runZiso (h : CommandHeader) (zone : Byte) (s : State) : State := simple 0x40 h (isolateZone zone.toNat) s

/-- ZRST (R113). -/
def runZrst (h : CommandHeader) (zone : Byte) (s : State) : State := simple 0x41 h (restoreIsolated zone.toNat) s

/-- ARST's answer carries the count of zones reset, and the reason for PARTIAL (R114, R221, log entry 25). -/
def ResetAnswer.executed (r : ResetAnswer) : Executed :=
  { answer :=
      { result := r.result
        data := byte r.count :: (if r.result = .partialDone then [byte Result.refusedState.code] else []) }
    state := r.state }

/-- ARST (R114). -/
def runArst (h : CommandHeader) (zone : Byte) (s : State) : State :=
  execute 0x42 h .plain (fun s => (resetAlarm zone s).executed) s

/-- WOPN (R115). -/
def runWopn (h : CommandHeader) (window : Byte) (s : State) : State :=
  simple 0x43 h (windowOpens .command window.toNat) s

/-- WCLS (R117). -/
def runWcls (h : CommandHeader) (window : Byte) (s : State) : State :=
  simple 0x44 h (windowCloses .command window.toNat) s

/-- CALN (R174). -/
def runCaln (h : CommandHeader) (id : Byte) (s : State) : State := simple 0x48 h (callNow id.toNat) s

/-- CALX (R188). -/
def runCalx (h : CommandHeader) (id : Byte) (s : State) : State := simple 0x49 h (cancelCall id.toNat) s

/-- RPLN (R170). -/
def runRpln (h : CommandHeader) (group plan : Byte) (s : State) : State :=
  simple 0x4A h (routePlan group.toNat plan.toNat) s

end Sys2Proof.Machine
end

