-- ==== Sys2Proof/Machine/StartUp.lean ====
section
/-! DEFINITION. The Table Store and start-up: STTB and its completion (R218), power-on (R219), RSTR (R220), the loss of power
and the show clock's advance (R23). -/

namespace Sys2Proof.Machine

/-! ## The table store (11.7) -/

/-- The store starts: a copy of the working tables is taken, and the stored image is invalid until the completion
(R218). -/
def startStore (h : CommandHeader) (s : State) : State :=
  { s.onCommand fun c =>
      { c with
        inProgress := none
        store := some { source := h.source, sequence := h.sequence, start := s.clock, copy := imageOf s } } with
    stored := none }

/-- STTB (R218): taken, it offers no REPLY. -/
def runSttb (h : CommandHeader) (s : State) : State :=
  if ¬ reachesUnit h.source s then s
  else
    let s := begin 0x18 h s
    match failedCheck h.source { fits := true, needsStore := true, lockable := false } s with
    | some refusal => finish 0x18 h { answer := .plain refusal, state := s }
    | none => startStore h s

/-- A store completes: the image is valid, the store state IDLE, a TABLE entry is appended and the REPLY offered (R218, log
entry 31). -/
def storeCompletes (s : State) : State :=
  match s.command.store with
  | none => s
  | some w =>
    let s := { s.onCommand fun c => { c with store := none } with
      stored := some { image := w.copy, checksum := w.copy.checksum } }
    offerReply w.source 0x18 w.sequence (.plain .done) (reportTable 0xFF .store .done 0 s)

/-! ## Power-on (R219) -/

/-- The image loaded at power-on: a valid stored one, otherwise the empty tables and the default profile. -/
def loadedImage (stored : Option StoredImage) : Image :=
  match stored with
  | none => .empty
  | some st => if st.valid then st.image else .empty

/-- The stored image is valid. -/
def storeValid (stored : Option StoredImage) : Bool := stored.any StoredImage.valid

/-- A policy entry with the runtime fields of an inserted one (R77). -/
def PolicyEntry.initial (d : PolicyDef) : PolicyEntry where
  defn := d
  lastLevel := 0
  lastConsole := none
  silence := none
  lastOutput := none

/-- A zone of the image at power-on: last report time 0, staleness timer started there (R98, R219). -/
def Zone.poweredOn (p : Profile) (d : ZoneDef) : Zone where
  defn := d
  state := .normal
  last := .clear
  lastReport := 0
  stale := false
  verifyTimer := none
  staleTimer := some { start := 0, length := p.zoneReportLimit * 1000 }

/-- A window that is CLOSED with its timer stopped (R97). -/
def Window.closed (d : Option WindowDef) : Window where
  defn := d
  isOpen := false
  timer := none

/-- A call definition whose fired mark is clear (R171). -/
def CallEntry.unfired (d : CallDef) : CallEntry where
  defn := d
  fired := false

/-- The attention set at power-on (R203, R219). -/
def startAttention (valid : Bool) : BitVec 16 := if valid then 0x0001 else 0x0003

/-- The part at power-on: every block at its power-on values, over the loaded image (R219). -/
def poweredOn (straps : BitVec 7) (stored : Option StoredImage) (pending : List Instr) : State :=
  let image := loadedImage stored
  let p := image.profile
  let flags := startAttention (storeValid stored)
  { loop := .initial straps p.lineDivisor
    lines := Vector.replicate 8 .initial
    phase := .initial
    cues := { table := image.cues, execution := none }
    lights :=
      { policy := image.policy.map PolicyEntry.initial
        groups := Vector.replicate 8 .initial
        refreshTimer := { start := 0, length := 100 }
        k4 := false }
    zones :=
      { zones := mapTable (Option.map (Zone.poweredOn p)) image.zones
        panel := .initial
        windows := mapTable Window.closed image.windows
        alarm := .initial }
    curtain := .initial
    calls :=
      { areas := image.areas
        selectors := Vector.replicate 3 .a
        defs := mapTable (Option.map CallEntry.unfired) image.calls
        queue := []
        player := .idle }
    bells := { patterns := image.patterns, generators := Vector.replicate 4 .initial }
    command :=
      { inProgress := none
        attention := flags
        newMarks := flags
        noticeTimer := { start := 0, length := p.noticeInterval }
        store := none
        profile := p }
    clock := 0
    stored := stored
    powered := true
    pending := pending }

/-- Power is lost: only the Table Store's image survives, and no relay is energised (R200, R218, log entry 11). -/
def powerLost (s : State) : State := { poweredOn s.loop.node s.stored s.pending with powered := false }

/-! ## RSTR (R220) -/

/-- The Loop Port Unit at RSTR: the divisors, the node number and a frame being sent are kept (R22). -/
def LoopPort.restarted (l : LoopPort) : LoopPort :=
  { LoopPort.initial l.node l.inDivisor with outDivisor := l.outDivisor, sending := l.sending }

/-- The performance record at RSTR: the prescaler is left running (R36, R50). -/
def PhaseUnit.restarted (p : PhaseUnit) : PhaseUnit :=
  { PhaseUnit.initial with prescaler := p.prescaler, wrapDue := p.wrapDue }

/-- The House Light Unit at RSTR: definitions and the refresh timer are kept (R74, R77, R81). -/
def HouseLights.restarted (l : HouseLights) : HouseLights where
  policy := l.policy.map fun e => .initial e.defn
  groups := Vector.replicate 8 .initial
  refreshTimer := l.refreshTimer
  k4 := false

/-- The Zone Monitor at RSTR: definitions are kept, every runtime field starts afresh at this reading (R97, R98). -/
def restartedZones (s : State) : ZoneMonitor where
  zones := mapTable (Option.map fun z => Zone.initial s z.defn) s.zones.zones
  panel := .initial
  windows := mapTable (fun w => Window.closed w.defn) s.zones.windows
  alarm := .initial

/-- The Call Unit at RSTR: definitions are kept, fired marks cleared, selectors A, queue and player empty (R167, R181). -/
def CallUnit.restarted (c : CallUnit) : CallUnit where
  areas := c.areas
  selectors := Vector.replicate 3 .a
  defs := mapTable (Option.map fun e => CallEntry.unfired e.defn) c.defs
  queue := []
  player := .idle

/-- The Command Unit at RSTR: only RESTARTED stands, and the notice timer restarts (R203, R220). -/
def restartedCommand (s : State) : CommandUnit where
  inProgress := none
  attention := 0x0001
  newMarks := 0x0001
  noticeTimer := s.timerOf s.command.profile.noticeInterval
  store := none
  profile := s.command.profile

/-- Every block takes the restart (R220). -/
def restart (s : State) : State :=
  { s with
    loop := s.loop.restarted
    lines := Vector.replicate 8 .initial
    phase := s.phase.restarted
    cues := { s.cues with execution := none }
    lights := s.lights.restarted
    zones := restartedZones s
    curtain := .initial
    calls := s.calls.restarted
    bells := { s.bells with generators := Vector.replicate 4 .initial }
    command := restartedCommand s }

/-- RSTR's own conditions (R220). -/
def restartable (s : State) : Bool :=
  decide (s.phase.phase = .closed ∧ s.curtain.state ≠ .lowering ∧ s.curtain.state ≠ .raising ∧
    s.curtain.state ≠ .released ∧ s.zones.alarm.confirmed = [])

/-- RSTR (R220). -/
def runRstr (h : CommandHeader) (s : State) : State :=
  execute 0x19 h { fits := true, needsStore := true, lockable := false }
    (fun s =>
      if restartable s then { answer := .plain .done, state := restart s }
      else { answer := .plain .refusedState, state := s }) s

/-! ## The show clock (R23, R50) -/

/-- One millisecond passes: the show clock and the prescaler advance. -/
def advanceClock (s : State) : State := { s.onPhase advancePrescaler with clock := s.clock + 1 }

end Sys2Proof.Machine
end

