-- ==== Sys2Proof/Machine/LoopIn.lean ====
section
/-! DEFINITION. The receiving side of the Loop Port Unit: the assembler (R6, R7), a frame's completion and disposal (R8 to
R11), the forward queue (R13), the ring monitor (R20, R21), and a COMMAND frame's payload as a command (R204, R205). -/

namespace Sys2Proof.Machine

/-! ## COMMAND payloads (R204, R221) -/

/-- The argument bytes of a command code: the command they spell, or none where their length does not fit; the outer none
is a code that names no command (R204 checks 3 and 4). A load's own cutting judges its length (R205). -/
def commandOf (code : Byte) (h : CommandHeader) (args : List Byte) : Option (Option (State → State)) :=
  let none0 (f : State → State) : Option (Option (State → State)) :=
    some (match args with
      | [] => some f
      | _ => none)
  let one (f : Byte → State → State) : Option (Option (State → State)) :=
    some (match args with
      | [a] => some (f a)
      | _ => none)
  let two (f : Byte → Byte → State → State) : Option (Option (State → State)) :=
    some (match args with
      | [a, b] => some (f a b)
      | _ => none)
  match code.toNat with
  | 0x01 => one (runRdst h)
  | 0x02 => two fun a b => runAcka h (BitVec.ofNat 16 (number2 a b))
  | 0x03 => two (runRdzn h)
  | 0x04 => none0 (runRdqu h)
  | 0x05 => one (runRdrp h)
  | 0x06 => two (runRdtb h)
  | 0x10 => some (some (runLdpo h args))
  | 0x11 => some (some (runLdcu h args))
  | 0x12 => some (some (runLdzn h args))
  | 0x13 => some (some (runLdcl h args))
  | 0x14 => some (some (runLdpt h args))
  | 0x15 => some (some (runLdrt h args))
  | 0x16 => some (some (runLdpf h args))
  | 0x17 => one (runCltb h)
  | 0x18 => none0 (runSttb h)
  | 0x19 => none0 (runRstr h)
  | 0x20 => some (match args with
      | [a, b, c, d] => some (runBgpf h (number2 a b) (number2 c d))
      | _ => none)
  | 0x21 => none0 (runOphs h)
  | 0x22 => none0 (runHold h)
  | 0x23 => none0 (runRlhd h)
  | 0x24 => two fun a b => runStcd h (number2 a b)
  | 0x25 => some (match args with
      | [a, b, c, d] => some (runPhse h a b (number2 c d))
      | _ => none)
  | 0x26 => none0 (runShst h)
  | 0x27 => none0 (runShrs h)
  | 0x28 => none0 (runEvrs h)
  | 0x29 => none0 (runEnpf h)
  | 0x30 => none0 (runClwr h)
  | 0x31 => none0 (runCrse h)
  | 0x32 => none0 (runCstp h)
  | 0x33 => none0 (runDemo h)
  | 0x34 => none0 (runCclr h)
  | 0x38 => some (match args with
      | [a, b, c, d, e] => some (runHfad h a (number2 b c) (number2 d e))
      | _ => none)
  | 0x39 => one (runHrel h)
  | 0x3A => one (runHtak h)
  | 0x40 => one (runZiso h)
  | 0x41 => one (runZrst h)
  | 0x42 => one (runArst h)
  | 0x43 => one (runWopn h)
  | 0x44 => one (runWcls h)
  | 0x48 => one (runCaln h)
  | 0x49 => one (runCalx h)
  | 0x4A => two (runRpln h)
  | _ => none

/-- The code and sequence number of a payload as far as it has them, 00h otherwise (R221, REPLY). -/
def payloadCode (payload : List Byte) : Byte := payload.headD 0

/-- The sequence number of a payload, 00h if it has none. -/
def payloadSequence (payload : List Byte) : Byte := (payload.drop 1).headD 0

/-- A COMMAND frame that is answered without being executed (R204 checks 1 to 4). -/
def refuseFrame (source : Byte) (payload : List Byte) (result : Result) (s : State) : State :=
  let h : CommandHeader := { source := source, sequence := payloadSequence payload }
  finish (payloadCode payload) h { answer := .plain result, state := begin (payloadCode payload) h s }

/-- A COMMAND payload at the Command Unit: checks 1 to 4, then the command it spells with its further checks (R204). -/
def takeCommand (source : Byte) (payload : List Byte) (s : State) : State :=
  if ¬ fromController source s then refuseFrame source payload .refusedSource s
  else
    match payload with
    | code :: sequence :: args =>
      match commandOf code { source := source, sequence := sequence } args with
      | none => refuseFrame source payload .unknownCommand s
      | some none => refuseFrame source payload .badLength s
      | some (some run) => run s
    | _ => refuseFrame source payload .badLength s

/-- A COMMAND frame's payload from a source, if such a frame reaches the unit (R10, R12). -/
def runPayload (source : Byte) (payload : List Byte) (s : State) : State :=
  if reachesUnit source s then takeCommand source payload s else s

/-! ## The ring monitor (R20, R21) -/

/-- The ring monitor changes its state: K7 follows, and the Curtain Supervisor is told (R21). -/
def setRing (ring : RingState) (timer : Option Timer) (s : State) : State :=
  curtainToldRing ring
    (s.onLoop fun l => { l with ring := ring, ringTimer := timer, k7 := decide (ring = .ok) })

/-- A returning own frame (R20). -/
def ownFrameReturns (s : State) : State :=
  let timer := some (s.timerOf s.command.profile.ringTimeout)
  match s.loop.ring with
  | .broken => setRing .ok timer s
  | .ok => s.onLoop fun l => { l with ringTimer := timer }

/-- The ring timer expires (R20). -/
def ringExpiry (s : State) : State :=
  if s.loop.ring = .ok ∧ due s.loop.ringTimer s.clock then setRing .broken none (setAttention .ringOpen s) else s

/-! ## Bad frames (R7, R9) -/

/-- A bad frame increments the count up to 8, and at 8 sets LINE_ERRORS (R9). -/
def badFrame (s : State) : State :=
  let s := s.onLoop fun l => { l with badFrames := min 8 (l.badFrames + 1) }
  if s.loop.badFrames = 8 then setAttention .lineErrors s else s

/-- The assembler returns to HUNT with nothing in assembly. -/
def hunt (s : State) : State := s.onLoop fun l => { l with assembler := .hunt, assembly := [], gapTimer := none }

/-- The frame in assembly is abandoned (R7). -/
def abandon (s : State) : State := badFrame (hunt s)

/-! ## Disposal (R10, R11, R13) -/

/-- A frame is offered to the forward queue (R13); the arbiter runs if the port is FREE (R17). -/
def offerForward (frame : Frame) (s : State) : State :=
  if s.loop.forward.length < Config.forwardCapacity then
    arbitrate (s.onLoop fun l => { l with forward := l.forward ++ [frame] })
  else setAttention .forwardOverrun s

/-- The contents of a forwarded frame go to their owner (R4, R11). -/
def handToOwner (frame : Frame) (s : State) : State :=
  if frame.kind = kindLevel then trackLevels frame.payload s
  else if frame.kind = kindCue then takeCueFrame frame.payload s
  else if frame.kind = kindZone then takeZoneFrame frame.payload s
  else if frame.kind = kindPos ∧ frame.source.toNat = s.command.profile.driveNode then takePos frame.payload s
  else s

/-- A frame's header is valid (R3). -/
def Frame.headerValid (f : Frame) : Bool :=
  decide (1 ≤ f.dest.toNat ∧ f.dest.toNat ≤ 127 ∧ 1 ≤ f.source.toNat ∧ f.source.toNat ≤ 126)

/-- The disposal of a good frame, by the first case that fits (R10, R12). -/
def dispose (frame : Frame) (s : State) : State :=
  if ¬ frame.headerValid then s
  else if s.numbered ∧ frame.source = s.nodeByte then ownFrameReturns s
  else if s.numbered ∧ frame.kind = kindCommand ∧ frame.dest = s.nodeByte then
    takeCommand frame.source frame.payload s
  else offerForward frame (handToOwner frame s)

/-! ## The assembler (R6, R8) -/

/-- The gap timer restarted: 10 character times at the divisor in use (R6). -/
def gapTimerOf (s : State) : LineTimer := { start := s.clock, cycles := 10 * characterCycles s.loop.inDivisor }

/-- The length N of the frame in assembly, once its fourth character has arrived. -/
def assemblyLength (assembly : List Byte) : Nat := ((assembly.drop 3).headD 0).toNat

/-- The frame that a complete assembly holds. -/
def assembledFrame (assembly : List Byte) : Frame where
  dest := assembly.headD 0
  source := (assembly.drop 1).headD 0
  kind := (assembly.drop 2).headD 0
  payload := (assembly.drop 4).take (assemblyLength assembly)

/-- The two CRC characters of a complete assembly, high byte first, as one value (R5). -/
def assembledCrc (assembly : List Byte) : Nat := numberOf (assembly.drop (assemblyLength assembly + 4))

/-- A frame completes at its CRC low byte: HUNT, the check, and the disposal of a good frame (R8). -/
def completeFrame (assembly : List Byte) (s : State) : State :=
  let s := hunt s
  if assembledCrc assembly = (crc16 (assembly.take (assemblyLength assembly + 4))).toNat then
    dispose (assembledFrame assembly) (s.onLoop fun l => { l with badFrames := 0 })
  else badFrame s

/-- The assembler goes on with this state and assembly, its gap timer restarted (R6). -/
def assemble (state : AssemblerState) (assembly : List Byte) (s : State) : State :=
  s.onLoop fun l => { l with assembler := state, assembly := assembly, gapTimer := some (gapTimerOf s) }

/-- A character with its mark bit at 0 in a frame in assembly (R6, R7, R8). -/
def nextCharacter (data : Byte) (s : State) : State :=
  let assembly := s.loop.assembly ++ [data]
  match s.loop.assembler with
  | .hunt => s
  | .header =>
    if assembly.length < 4 then assemble .header assembly s
    else if Config.payloadMax < data.toNat then abandon s
    else if data = 0 then assemble .check assembly s
    else assemble .payload assembly s
  | .payload =>
    if assembly.length < assemblyLength assembly + 4 then assemble .payload assembly s
    else assemble .check assembly s
  | .check =>
    if assembly.length < assemblyLength assembly + 6 then assemble .check assembly s
    else completeFrame assembly s

/-- A character at loop IN (R6, R7). -/
def receiveCharacter (c : Character) (s : State) : State :=
  if ¬ c.stopBit then (if s.loop.assembler = .hunt then s else abandon s)
  else if c.mark then
    assemble .header [c.data] (if s.loop.assembler = .hunt then s else abandon s)
  else nextCharacter c.data s

/-- The gap timer expires (R7). -/
def gapExpiry (s : State) : State :=
  if s.loop.assembler ≠ .hunt ∧ lineDue s.loop.gapTimer s.clock then abandon s else s

end Sys2Proof.Machine
end

