-- ==== Sys2Proof/Machine/CurtainCommands.lean ====
section
/-! DEFINITION. The rows of the curtain and demonstration commands.
One definition per row of the table; a part without power takes no event but POWER_ON (log entry 11). -/

namespace Sys2Proof.Machine

/-- CLWR (R133). -/
def execClwr (header : CommandHeader) (s : State) : Host.Outcome State Fault Refusal :=
  whilePowered s (runClwr header)

/-- CRSE (R137). -/
def execCrse (header : CommandHeader) (s : State) : Host.Outcome State Fault Refusal :=
  whilePowered s (runCrse header)

/-- CSTP (R139). -/
def execCstp (header : CommandHeader) (s : State) : Host.Outcome State Fault Refusal :=
  whilePowered s (runCstp header)

/-- CCLR (R147). -/
def execCclr (header : CommandHeader) (s : State) : Host.Outcome State Fault Refusal :=
  whilePowered s (runCclr header)

/-- DEMO (R158). -/
def execDemo (header : CommandHeader) (s : State) : Host.Outcome State Fault Refusal :=
  whilePowered s (runDemo header)

end Sys2Proof.Machine
end

