-- ==== Sys2Proof/Machine/HouseCommands.lean ====
section
/-! DEFINITION. The rows of the house light, zone, window and call commands.
One definition per row of the table; a part without power takes no event but POWER_ON (log entry 11). -/

namespace Sys2Proof.Machine

/-- HFAD (R82). -/
def execHfad (header : CommandHeader) (group : Byte) (level time : BitVec 16) (s : State) : Host.Outcome State Fault Refusal :=
  whilePowered s (runHfad header group level.toNat time.toNat)

/-- HREL (R84). -/
def execHrel (header : CommandHeader) (group : Byte) (s : State) : Host.Outcome State Fault Refusal :=
  whilePowered s (runHrel header group)

/-- HTAK (R85). -/
def execHtak (header : CommandHeader) (group : Byte) (s : State) : Host.Outcome State Fault Refusal :=
  whilePowered s (runHtak header group)

/-- ZISO (R112). -/
def execZiso (header : CommandHeader) (zone : Byte) (s : State) : Host.Outcome State Fault Refusal :=
  whilePowered s (runZiso header zone)

/-- ZRST (R113). -/
def execZrst (header : CommandHeader) (zone : Byte) (s : State) : Host.Outcome State Fault Refusal :=
  whilePowered s (runZrst header zone)

/-- ARST (R114). -/
def execArst (header : CommandHeader) (zone : Byte) (s : State) : Host.Outcome State Fault Refusal :=
  whilePowered s (runArst header zone)

/-- WOPN (R115). -/
def execWopn (header : CommandHeader) (window : Byte) (s : State) : Host.Outcome State Fault Refusal :=
  whilePowered s (runWopn header window)

/-- WCLS (R117). -/
def execWcls (header : CommandHeader) (window : Byte) (s : State) : Host.Outcome State Fault Refusal :=
  whilePowered s (runWcls header window)

/-- CALN (R174). -/
def execCaln (header : CommandHeader) (id : Byte) (s : State) : Host.Outcome State Fault Refusal :=
  whilePowered s (runCaln header id)

/-- CALX (R188). -/
def execCalx (header : CommandHeader) (id : Byte) (s : State) : Host.Outcome State Fault Refusal :=
  whilePowered s (runCalx header id)

/-- RPLN (R170). -/
def execRpln (header : CommandHeader) (group plan : Byte) (s : State) : Host.Outcome State Fault Refusal :=
  whilePowered s (runRpln header group plan)

end Sys2Proof.Machine
end

