-- ==== Sys2Proof/Machine/LoopEvents.lean ====
section
/-! DEFINITION. The events of the loop ports and of power: characters at IN, the gap, send and ring timers, POWER_ON and POWER_LOSS.
One definition per row of the table; a part without power takes no event but POWER_ON (log entry 11). -/

namespace Sys2Proof.Machine

/-- POWER_ON (R219): the straps are read and every block takes its power-on values over the loaded image. -/
def execPowerOn (straps : BitVec 7) (s : State) : Host.Outcome State Fault Refusal :=
  .next (poweredOn straps s.stored s.pending)

/-- FRAME_ABANDONMENT (R7): the character is received; a frame in assembly that it abandons is a bad frame. -/
def execFrameAbandonment (character : Character) (s : State) : Host.Outcome State Fault Refusal :=
  whilePowered s (receiveCharacter character)

/-- GAP_TIMER_EXPIRY (R7). -/
def execGapTimerExpiry (s : State) : Host.Outcome State Fault Refusal :=
  whilePowered s gapExpiry

/-- FRAME_COMPLETION (R8): the character is received; as the CRC low byte it completes the frame. -/
def execFrameCompletion (character : Character) (s : State) : Host.Outcome State Fault Refusal :=
  whilePowered s (receiveCharacter character)

/-- SEND_COMPLETION (R17). -/
def execSendCompletion (s : State) : Host.Outcome State Fault Refusal :=
  whilePowered s Sys2Proof.Machine.sendCompletion

/-- RING_TIMER_EXPIRY (R20). -/
def execRingTimerExpiry (s : State) : Host.Outcome State Fault Refusal :=
  whilePowered s ringExpiry

/-- CHARACTER_RECEIPT (R6). -/
def execCharacterReceipt (character : Character) (s : State) : Host.Outcome State Fault Refusal :=
  whilePowered s (receiveCharacter character)

/-- POWER_LOSS (R218, R200): everything but the Table Store's image is lost. -/
def execPowerLoss (s : State) : Host.Outcome State Fault Refusal :=
  whilePowered s powerLost

end Sys2Proof.Machine
end

