-- ==== Sys2Proof/Machine/PerformanceCommands.lean ====
section
/-! DEFINITION. The rows of the performance commands.
One definition per row of the table; a part without power takes no event but POWER_ON (log entry 11). -/

namespace Sys2Proof.Machine

/-- BGPF (R38). -/
def execBgpf (header : CommandHeader) (number countdown : BitVec 16) (s : State) : Host.Outcome State Fault Refusal :=
  whilePowered s (runBgpf header number.toNat countdown.toNat)

/-- OPHS (R39). -/
def execOphs (header : CommandHeader) (s : State) : Host.Outcome State Fault Refusal :=
  whilePowered s (runOphs header)

/-- HOLD (R40). -/
def execHold (header : CommandHeader) (s : State) : Host.Outcome State Fault Refusal :=
  whilePowered s (runHold header)

/-- RLHD (R41). -/
def execRlhd (header : CommandHeader) (s : State) : Host.Outcome State Fault Refusal :=
  whilePowered s (runRlhd header)

/-- STCD (R53). -/
def execStcd (header : CommandHeader) (value : BitVec 16) (s : State) : Host.Outcome State Fault Refusal :=
  whilePowered s (runStcd header value.toNat)

/-- PHSE (R49). -/
def execPhse (header : CommandHeader) (target act : Byte) (interval : BitVec 16) (s : State) : Host.Outcome State Fault Refusal :=
  whilePowered s (runPhse header target act interval.toNat)

/-- SHST (R54). -/
def execShst (header : CommandHeader) (s : State) : Host.Outcome State Fault Refusal :=
  whilePowered s (runShst header)

/-- SHRS (R54). -/
def execShrs (header : CommandHeader) (s : State) : Host.Outcome State Fault Refusal :=
  whilePowered s (runShrs header)

/-- EVRS (R48). -/
def execEvrs (header : CommandHeader) (s : State) : Host.Outcome State Fault Refusal :=
  whilePowered s (runEvrs header)

/-- ENPF (R46). -/
def execEnpf (header : CommandHeader) (s : State) : Host.Outcome State Fault Refusal :=
  whilePowered s (runEnpf header)

end Sys2Proof.Machine
end

