-- ==== Sys2Proof/Machine/StatusCommands.lean ====
section
/-! DEFINITION. The rows of the status reads, and a COMMAND frame's payload as received.
One definition per row of the table; a part without power takes no event but POWER_ON (log entry 11). -/

namespace Sys2Proof.Machine

/-- UNKNOWN_COMMAND (R204): a payload is checked; one that fails a check is answered, and one that spells a command is that command. -/
def execUnknownCommand (source : Byte) (payload : List Byte) (s : State) : Host.Outcome State Fault Refusal :=
  whilePowered s (runPayload source payload)

/-- RDST (R207). -/
def execRdst (header : CommandHeader) (section_ : Byte) (s : State) : Host.Outcome State Fault Refusal :=
  whilePowered s (runRdst header section_)

/-- ACKA (R216). -/
def execAcka (header : CommandHeader) (mask : BitVec 16) (s : State) : Host.Outcome State Fault Refusal :=
  whilePowered s (runAcka header mask)

/-- RDZN (R208). -/
def execRdzn (header : CommandHeader) (selector first : Byte) (s : State) : Host.Outcome State Fault Refusal :=
  whilePowered s (runRdzn header selector first)

/-- RDQU (R208). -/
def execRdqu (header : CommandHeader) (s : State) : Host.Outcome State Fault Refusal :=
  whilePowered s (runRdqu header)

/-- RDRP (R209). -/
def execRdrp (header : CommandHeader) (index : Byte) (s : State) : Host.Outcome State Fault Refusal :=
  whilePowered s (runRdrp header index)

/-- RDTB (R210). -/
def execRdtb (header : CommandHeader) (table index : Byte) (s : State) : Host.Outcome State Fault Refusal :=
  whilePowered s (runRdtb header table index)

end Sys2Proof.Machine
end

