-- ==== Sys2Proof/Machine/TableCommands.lean ====
section
/-! DEFINITION. The rows of the loads, of CLTB, and of the store and the restart.
One definition per row of the table; a part without power takes no event but POWER_ON (log entry 11). -/

namespace Sys2Proof.Machine

/-- LDPO (R76). -/
def execLdpo (header : CommandHeader) (entries : List Byte) (s : State) : Host.Outcome State Fault Refusal :=
  whilePowered s (runLdpo header entries)

/-- LDCU (R61). -/
def execLdcu (header : CommandHeader) (entries : List Byte) (s : State) : Host.Outcome State Fault Refusal :=
  whilePowered s (runLdcu header entries)

/-- LDZN (R99, R101). -/
def execLdzn (header : CommandHeader) (entries : List Byte) (s : State) : Host.Outcome State Fault Refusal :=
  whilePowered s (runLdzn header entries)

/-- LDCL (R172). -/
def execLdcl (header : CommandHeader) (entries : List Byte) (s : State) : Host.Outcome State Fault Refusal :=
  whilePowered s (runLdcl header entries)

/-- LDPT (R192). -/
def execLdpt (header : CommandHeader) (entries : List Byte) (s : State) : Host.Outcome State Fault Refusal :=
  whilePowered s (runLdpt header entries)

/-- LDRT (R169). -/
def execLdrt (header : CommandHeader) (entries : List Byte) (s : State) : Host.Outcome State Fault Refusal :=
  whilePowered s (runLdrt header entries)

/-- LDPF (R214). -/
def execLdpf (header : CommandHeader) (entries : List Byte) (s : State) : Host.Outcome State Fault Refusal :=
  whilePowered s (runLdpf header entries)

/-- CLTB (R213). -/
def execCltb (header : CommandHeader) (table : Byte) (s : State) : Host.Outcome State Fault Refusal :=
  whilePowered s (runCltb header table)

/-- STTB (R218). -/
def execSttb (header : CommandHeader) (s : State) : Host.Outcome State Fault Refusal :=
  whilePowered s (runSttb header)

/-- RSTR (R220). -/
def execRstr (header : CommandHeader) (s : State) : Host.Outcome State Fault Refusal :=
  whilePowered s (runRstr header)

end Sys2Proof.Machine
end

