-- ==== Sys2Proof/Machine/TimeEvents.lean ====
section
/-! DEFINITION. The events of the show clock, the contact lines and the prescaler.
One definition per row of the table; a part without power takes no event but POWER_ON (log entry 11). -/

namespace Sys2Proof.Machine

/-- CONTACT_ACCEPTANCE (R29): the sample that completes the candidate's persistence, and its acceptance. -/
def execContactAcceptance (line : Nat) (s : State) : Host.Outcome State Fault Refusal :=
  whilePowered s (acceptLine line)

/-- PRESCALER_WRAP (R51). -/
def execPrescalerWrap (s : State) : Host.Outcome State Fault Refusal :=
  whilePowered s prescalerWraps

/-- CONTACT_SAMPLE (R28): the sample is taken. -/
def execContactSample (line : Nat) (sample : LineState) (s : State) : Host.Outcome State Fault Refusal :=
  whilePowered s (takeSample line sample)

/-- SHOW_CLOCK_ADVANCE (R23, R50). -/
def execShowClockAdvance (s : State) : Host.Outcome State Fault Refusal :=
  whilePowered s advanceClock

end Sys2Proof.Machine
end

