-- ==== Sys2Proof/Machine/TimerEvents.lean ====
section
/-! DEFINITION. The expiries of the blocks' timers and the completion of a store.
One definition per row of the table; a part without power takes no event but POWER_ON (log entry 11). -/

namespace Sys2Proof.Machine

/-- REFRESH_CHECK (R92). -/
def execRefreshCheck (s : State) : Host.Outcome State Fault Refusal :=
  whilePowered s Sys2Proof.Machine.refreshCheck

/-- SILENCE_TIMER_EXPIRY (R80). -/
def execSilenceTimerExpiry (segment channel : Nat) (s : State) : Host.Outcome State Fault Refusal :=
  whilePowered s (silenceExpiry segment channel)

/-- FADE_STEP (R83). -/
def execFadeStep (group : Nat) (s : State) : Host.Outcome State Fault Refusal :=
  whilePowered s (Sys2Proof.Machine.fadeStep group)

/-- VERIFICATION_EXPIRY (R107). -/
def execVerificationExpiry (zone : Nat) (s : State) : Host.Outcome State Fault Refusal :=
  whilePowered s (verificationExpires zone)

/-- STALENESS_EXPIRY (R109). -/
def execStalenessExpiry (zone : Nat) (s : State) : Host.Outcome State Fault Refusal :=
  whilePowered s (stalenessExpires zone)

/-- WINDOW_EXPIRY (R116). -/
def execWindowExpiry (window : Nat) (s : State) : Host.Outcome State Fault Refusal :=
  whilePowered s (windowExpires window)

/-- DEAD_TIME_EXPIRY (R135). -/
def execDeadTimeExpiry (s : State) : Host.Outcome State Fault Refusal :=
  whilePowered s Sys2Proof.Machine.deadTimeExpiry

/-- DRIVE_REPEAT_EXPIRY (R128). -/
def execDriveRepeatExpiry (s : State) : Host.Outcome State Fault Refusal :=
  whilePowered s Sys2Proof.Machine.driveRepeatExpiry

/-- RAISE_TIMER_EXPIRY (R138). -/
def execRaiseTimerExpiry (s : State) : Host.Outcome State Fault Refusal :=
  whilePowered s Sys2Proof.Machine.raiseTimerExpiry

/-- POSITION_STALE_EXPIRY (R131). -/
def execPositionStaleExpiry (s : State) : Host.Outcome State Fault Refusal :=
  whilePowered s Sys2Proof.Machine.positionStaleExpiry

/-- EMERGENCY_STALE_EXPIRY (R131). -/
def execEmergencyStaleExpiry (s : State) : Host.Outcome State Fault Refusal :=
  whilePowered s Sys2Proof.Machine.emergencyStaleExpiry

/-- FLOW_TIMER_EXPIRY (R148). -/
def execFlowTimerExpiry (s : State) : Host.Outcome State Fault Refusal :=
  whilePowered s Sys2Proof.Machine.flowTimerExpiry

/-- DWELL_EXPIRY (R162). -/
def execDwellExpiry (s : State) : Host.Outcome State Fault Refusal :=
  whilePowered s Sys2Proof.Machine.dwellExpiry

/-- CALL_LAPSE (R178). -/
def execCallLapse (id : Nat) (s : State) : Host.Outcome State Fault Refusal :=
  whilePowered s (lapseCall id)

/-- PLAYER_TIMER_EXPIRY (R185). -/
def execPlayerTimerExpiry (s : State) : Host.Outcome State Fault Refusal :=
  whilePowered s playerExpiry

/-- SEGMENT_TIMER_EXPIRY (R196). -/
def execSegmentTimerExpiry (generator : Nat) (s : State) : Host.Outcome State Fault Refusal :=
  whilePowered s (segmentExpiry generator)

/-- NOTICE_TIMER_EXPIRY (R217). -/
def execNoticeTimerExpiry (s : State) : Host.Outcome State Fault Refusal :=
  whilePowered s noticeExpiry

/-- STORE_COMPLETION (R218). -/
def execStoreCompletion (s : State) : Host.Outcome State Fault Refusal :=
  whilePowered s storeCompletes

end Sys2Proof.Machine
end

