-- ==== Sys2Proof/Machine/Dispatch.lean ====
section
/-! DEFINITION. The dispatch: one arm per command of the table, each one direct call of its meaning. -/

namespace Sys2Proof.Machine

def exec (i : Instr) (s : State) : Host.Outcome State Fault Refusal :=
  match i with
  | .powerOn straps => Sys2Proof.Machine.execPowerOn straps s
  | .frameAbandonment character => Sys2Proof.Machine.execFrameAbandonment character s
  | .gapTimerExpiry => Sys2Proof.Machine.execGapTimerExpiry s
  | .frameCompletion character => Sys2Proof.Machine.execFrameCompletion character s
  | .sendCompletion => Sys2Proof.Machine.execSendCompletion s
  | .ringTimerExpiry => Sys2Proof.Machine.execRingTimerExpiry s
  | .contactAcceptance line => Sys2Proof.Machine.execContactAcceptance line s
  | .prescalerWrap => Sys2Proof.Machine.execPrescalerWrap s
  | .refreshCheck => Sys2Proof.Machine.execRefreshCheck s
  | .silenceTimerExpiry segment channel => Sys2Proof.Machine.execSilenceTimerExpiry segment channel s
  | .fadeStep group => Sys2Proof.Machine.execFadeStep group s
  | .verificationExpiry zone => Sys2Proof.Machine.execVerificationExpiry zone s
  | .stalenessExpiry zone => Sys2Proof.Machine.execStalenessExpiry zone s
  | .windowExpiry window => Sys2Proof.Machine.execWindowExpiry window s
  | .deadTimeExpiry => Sys2Proof.Machine.execDeadTimeExpiry s
  | .driveRepeatExpiry => Sys2Proof.Machine.execDriveRepeatExpiry s
  | .raiseTimerExpiry => Sys2Proof.Machine.execRaiseTimerExpiry s
  | .positionStaleExpiry => Sys2Proof.Machine.execPositionStaleExpiry s
  | .emergencyStaleExpiry => Sys2Proof.Machine.execEmergencyStaleExpiry s
  | .flowTimerExpiry => Sys2Proof.Machine.execFlowTimerExpiry s
  | .dwellExpiry => Sys2Proof.Machine.execDwellExpiry s
  | .callLapse id => Sys2Proof.Machine.execCallLapse id s
  | .playerTimerExpiry => Sys2Proof.Machine.execPlayerTimerExpiry s
  | .segmentTimerExpiry generator => Sys2Proof.Machine.execSegmentTimerExpiry generator s
  | .noticeTimerExpiry => Sys2Proof.Machine.execNoticeTimerExpiry s
  | .storeCompletion => Sys2Proof.Machine.execStoreCompletion s
  | .unknownCommand source payload => Sys2Proof.Machine.execUnknownCommand source payload s
  | .rdst header section_ => Sys2Proof.Machine.execRdst header section_ s
  | .acka header mask => Sys2Proof.Machine.execAcka header mask s
  | .rdzn header selector first => Sys2Proof.Machine.execRdzn header selector first s
  | .rdqu header => Sys2Proof.Machine.execRdqu header s
  | .rdrp header index => Sys2Proof.Machine.execRdrp header index s
  | .rdtb header table index => Sys2Proof.Machine.execRdtb header table index s
  | .ldpo header entries => Sys2Proof.Machine.execLdpo header entries s
  | .ldcu header entries => Sys2Proof.Machine.execLdcu header entries s
  | .ldzn header entries => Sys2Proof.Machine.execLdzn header entries s
  | .ldcl header entries => Sys2Proof.Machine.execLdcl header entries s
  | .ldpt header entries => Sys2Proof.Machine.execLdpt header entries s
  | .ldrt header entries => Sys2Proof.Machine.execLdrt header entries s
  | .ldpf header entries => Sys2Proof.Machine.execLdpf header entries s
  | .cltb header table => Sys2Proof.Machine.execCltb header table s
  | .sttb header => Sys2Proof.Machine.execSttb header s
  | .rstr header => Sys2Proof.Machine.execRstr header s
  | .bgpf header number countdown => Sys2Proof.Machine.execBgpf header number countdown s
  | .ophs header => Sys2Proof.Machine.execOphs header s
  | .hold header => Sys2Proof.Machine.execHold header s
  | .rlhd header => Sys2Proof.Machine.execRlhd header s
  | .stcd header value => Sys2Proof.Machine.execStcd header value s
  | .phse header target act interval => Sys2Proof.Machine.execPhse header target act interval s
  | .shst header => Sys2Proof.Machine.execShst header s
  | .shrs header => Sys2Proof.Machine.execShrs header s
  | .evrs header => Sys2Proof.Machine.execEvrs header s
  | .enpf header => Sys2Proof.Machine.execEnpf header s
  | .clwr header => Sys2Proof.Machine.execClwr header s
  | .crse header => Sys2Proof.Machine.execCrse header s
  | .cstp header => Sys2Proof.Machine.execCstp header s
  | .cclr header => Sys2Proof.Machine.execCclr header s
  | .demo header => Sys2Proof.Machine.execDemo header s
  | .hfad header group level time => Sys2Proof.Machine.execHfad header group level time s
  | .hrel header group => Sys2Proof.Machine.execHrel header group s
  | .htak header group => Sys2Proof.Machine.execHtak header group s
  | .ziso header zone => Sys2Proof.Machine.execZiso header zone s
  | .zrst header zone => Sys2Proof.Machine.execZrst header zone s
  | .arst header zone => Sys2Proof.Machine.execArst header zone s
  | .wopn header window => Sys2Proof.Machine.execWopn header window s
  | .wcls header window => Sys2Proof.Machine.execWcls header window s
  | .caln header id => Sys2Proof.Machine.execCaln header id s
  | .calx header id => Sys2Proof.Machine.execCalx header id s
  | .rpln header group plan => Sys2Proof.Machine.execRpln header group plan s
  | .characterReceipt character => Sys2Proof.Machine.execCharacterReceipt character s
  | .contactSample line sample => Sys2Proof.Machine.execContactSample line sample s
  | .showClockAdvance => Sys2Proof.Machine.execShowClockAdvance s
  | .powerLoss => Sys2Proof.Machine.execPowerLoss s

end Sys2Proof.Machine
end

