-- ==== Sys2Proof/Safety.lean ====
section
/-! DEFINITION. What the claims are stated in: the invariants that every step keeps, an accepted command, and a comparison
of two states block by block. -/

namespace Sys2Proof.Machine

/-! ## Frames -/

/-- The parts of the state that a frame tells apart. -/
inductive Part where
  /-- The queues and the OUT port. -/
  | sender
  /-- The rest of the Loop Port Unit: assembler, bad-frame count, divisor at IN, node, ring and K7. -/
  | receiver
  | lines
  /-- The performance record without the report. -/
  | record
  /-- The performance report, its lost count and its full marker. -/
  | report
  | cues
  /-- The last output times of the governed channels. -/
  | outputs
  /-- The rest of the House Light Unit. -/
  | lights
  | zones
  | curtain
  | calls
  | bells
  /-- The attention set with its new marks. -/
  | attention
  /-- The rest of the Command Unit. -/
  | command
  | clock
  | stored
  | powered
  | pending
  deriving DecidableEq, Repr

/-- The Loop Port Unit with its queues and OUT port blanked. -/
def LoopPort.receiving (l : LoopPort) : LoopPort :=
  { l with forward := [], origin := [], sending := none, forwardRun := 0, outDivisor := 0 }

/-- The performance record with the report blanked. -/
def PhaseUnit.record (p : PhaseUnit) : PhaseUnit := { p with report := [], lost := 0, fullMarker := false }

/-- The House Light Unit with the last output times blanked. -/
def HouseLights.settled (l : HouseLights) : HouseLights :=
  { l with policy := l.policy.map fun e => { e with lastOutput := none } }

/-- The Command Unit with the attention set blanked. -/
def CommandUnit.managing (c : CommandUnit) : CommandUnit := { c with attention := 0, newMarks := 0 }

/-- The two states agree on one part. -/
def samePart (s t : State) : Part → Bool
  | .sender =>
    decide (s.loop.forward = t.loop.forward ∧ s.loop.origin = t.loop.origin ∧ s.loop.sending = t.loop.sending ∧
      s.loop.forwardRun = t.loop.forwardRun ∧ s.loop.outDivisor = t.loop.outDivisor)
  | .receiver => decide (s.loop.receiving = t.loop.receiving)
  | .lines => decide (s.lines = t.lines)
  | .record => decide (s.phase.record = t.phase.record)
  | .report =>
    decide (s.phase.report = t.phase.report ∧ s.phase.lost = t.phase.lost ∧
      s.phase.fullMarker = t.phase.fullMarker)
  | .cues => decide (s.cues = t.cues)
  | .outputs =>
    decide (s.lights.policy.map PolicyEntry.lastOutput = t.lights.policy.map PolicyEntry.lastOutput)
  | .lights => decide (s.lights.settled = t.lights.settled)
  | .zones => decide (s.zones = t.zones)
  | .curtain => decide (s.curtain = t.curtain)
  | .calls => decide (s.calls = t.calls)
  | .bells => decide (s.bells = t.bells)
  | .attention =>
    decide (s.command.attention = t.command.attention ∧ s.command.newMarks = t.command.newMarks)
  | .command => decide (s.command.managing = t.command.managing)
  | .clock => decide (s.clock = t.clock)
  | .stored => decide (s.stored = t.stored)
  | .powered => decide (s.powered = t.powered)
  | .pending => decide (s.pending = t.pending)

/-- Every part. -/
def allParts : List Part :=
  [.sender, .receiver, .lines, .record, .report, .cues, .outputs, .lights, .zones, .curtain, .calls, .bells, .attention,
    .command, .clock, .stored, .powered, .pending]

/-- The two states agree on every part but these. -/
def sameBut (changed : List Part) (s t : State) : Bool :=
  allParts.all fun p => changed.contains p || samePart s t p

/-- The command answers a next state of which this holds. -/
def answers (c : Instr) (s : State) (holds : State → Prop) : Prop := ∃ t, exec c s = .next t ∧ holds t

/-- What offering a frame can change: the queues and the OUT port, the output times of a LEVEL frame that starts out, and
the attention set (R14 to R19). -/
def offerParts : List Part := [.sender, .outputs, .attention]

/-- What offering frames and appending entries can change. -/
def noticeParts : List Part := [.sender, .outputs, .attention, .report]

/-- What the Call Unit's events can change (chapter 9). -/
def callParts : List Part := [.sender, .outputs, .attention, .report, .calls, .bells]

/-- What the events of the Curtain Supervisor can change but for a demonstration (chapters 7 and 8). -/
def ironParts : List Part := [.sender, .outputs, .attention, .report, .curtain]

/-- What the Curtain Supervisor's events can change, the demonstration's place in the performance record included
(chapters 7 and 8). -/
def curtainParts : List Part := [.sender, .outputs, .attention, .report, .record, .curtain]

/-- What a change of phase outside an evacuation can change (R37, R189). -/
def phaseParts : List Part := [.sender, .outputs, .attention, .report, .record, .calls, .bells]

/-- What a zone step or a change of phase can change (R37, R102, R121). -/
def alarmParts : List Part :=
  [.sender, .outputs, .attention, .report, .record, .lights, .zones, .curtain, .calls, .bells]

/-- The attention flag is set (R215). -/
def isRaised (flag : Flag) (s : State) : Bool := s.command.attention.getLsbD flag.bit

/-- An entry of the report with the present reading. -/
def entryNow (s : State) (kind : ReportKind) (data : List Byte) : ReportEntry :=
  { time := s.clock, kind := kind, data := data }

/-- The entry has been appended once more than before. -/
def gains (entry : ReportEntry) (s t : State) : Bool :=
  decide (s.phase.report.count entry < t.phase.report.count entry)

/-- The report has room for this many entries (R57). -/
def roomFor (n : Nat) (s : State) : Bool := decide (s.phase.report.length + n ≤ 128)

/-- The state is the one that an urgent or periodic NOTICE, built from a state of which this holds, leaves (R217). -/
def noticed (urgent : Bool) (t : State) (holds : State → Prop) : Prop := ∃ v, t = notice urgent v ∧ holds v

/-- A frame of the part's own, as it stands in the origin queue (R14). -/
def queued (s : State) (kind dest : Byte) (payload : List Byte) (urgent : Bool) : OriginFrame :=
  { frame := { dest := dest, source := s.nodeByte, kind := kind, payload := payload }, urgent := urgent }

/-! ## Accepted commands -/

/-- A command from the controller node reaches a part with power (R204 check 1, R10, R12). -/
def accepted (h : CommandHeader) (s : State) : Bool :=
  s.powered && reachesUnit h.source s && fromController h.source s

/-- The command's REPLY has been offered and no command is in progress: the state is `t` with the REPLY joined to the origin
queue, the arbiter run if the port is FREE (R203, R205). -/
def replied (h : CommandHeader) (code : Byte) (answer : Answer) (t : State) : State :=
  setInProgress none (offerReply h.source code h.sequence answer t)

/-- The command answers a next state in which its REPLY with this answer has been offered from a state of which this
holds. -/
def replies (c : Instr) (h : CommandHeader) (code : Byte) (answer : Answer) (s : State) (holds : State → Prop) : Prop :=
  ∃ u, exec c s = .next (replied h code answer u) ∧ holds u

/-- The command is answered with this result, and but for the REPLY nothing changes. -/
def onlyReplies (c : Instr) (h : CommandHeader) (code : Byte) (result : Result) (s : State) : Prop :=
  exec c s = .next (replied h code (.plain result) (begin code h s))

/-- A command row's header, code and argument bytes, in the layouts of R221: the bytes of its COMMAND payload beside the
sequence number. An event of the part is no command row. -/
def commandBytes : Instr → Option (CommandHeader × Byte × List Byte)
  | .rdst h section_ => some (h, 0x01, [section_])
  | .acka h mask => some (h, 0x02, bytes2 mask.toNat)
  | .rdzn h selector first => some (h, 0x03, [selector, first])
  | .rdqu h => some (h, 0x04, [])
  | .rdrp h index => some (h, 0x05, [index])
  | .rdtb h table index => some (h, 0x06, [table, index])
  | .ldpo h entries => some (h, 0x10, entries)
  | .ldcu h entries => some (h, 0x11, entries)
  | .ldzn h entries => some (h, 0x12, entries)
  | .ldcl h entries => some (h, 0x13, entries)
  | .ldpt h entries => some (h, 0x14, entries)
  | .ldrt h entries => some (h, 0x15, entries)
  | .ldpf h entries => some (h, 0x16, entries)
  | .cltb h table => some (h, 0x17, [table])
  | .sttb h => some (h, 0x18, [])
  | .rstr h => some (h, 0x19, [])
  | .bgpf h number countdown => some (h, 0x20, bytes2 number.toNat ++ bytes2 countdown.toNat)
  | .ophs h => some (h, 0x21, [])
  | .hold h => some (h, 0x22, [])
  | .rlhd h => some (h, 0x23, [])
  | .stcd h value => some (h, 0x24, bytes2 value.toNat)
  | .phse h target act interval => some (h, 0x25, [target, act] ++ bytes2 interval.toNat)
  | .shst h => some (h, 0x26, [])
  | .shrs h => some (h, 0x27, [])
  | .evrs h => some (h, 0x28, [])
  | .enpf h => some (h, 0x29, [])
  | .clwr h => some (h, 0x30, [])
  | .crse h => some (h, 0x31, [])
  | .cstp h => some (h, 0x32, [])
  | .demo h => some (h, 0x33, [])
  | .cclr h => some (h, 0x34, [])
  | .hfad h group level time => some (h, 0x38, [group] ++ bytes2 level.toNat ++ bytes2 time.toNat)
  | .hrel h group => some (h, 0x39, [group])
  | .htak h group => some (h, 0x3A, [group])
  | .ziso h zone => some (h, 0x40, [zone])
  | .zrst h zone => some (h, 0x41, [zone])
  | .arst h zone => some (h, 0x42, [zone])
  | .wopn h window => some (h, 0x43, [window])
  | .wcls h window => some (h, 0x44, [window])
  | .caln h id => some (h, 0x48, [id])
  | .calx h id => some (h, 0x49, [id])
  | .rpln h group plan => some (h, 0x4A, [group, plan])
  | .powerOn _ | .frameAbandonment _ | .gapTimerExpiry | .frameCompletion _ | .sendCompletion | .ringTimerExpiry
  | .contactAcceptance _ | .prescalerWrap | .refreshCheck | .silenceTimerExpiry _ _ | .fadeStep _
  | .verificationExpiry _ | .stalenessExpiry _ | .windowExpiry _ | .deadTimeExpiry | .driveRepeatExpiry
  | .raiseTimerExpiry | .positionStaleExpiry | .emergencyStaleExpiry | .flowTimerExpiry | .dwellExpiry
  | .callLapse _ | .playerTimerExpiry | .segmentTimerExpiry _ | .noticeTimerExpiry | .storeCompletion
  | .unknownCommand _ _ | .characterReceipt _ | .contactSample _ _ | .showClockAdvance | .powerLoss => none

/-- The codes that name a command (R221). -/
def commandCodes : List Nat :=
  [0x01, 0x02, 0x03, 0x04, 0x05, 0x06, 0x10, 0x11, 0x12, 0x13, 0x14, 0x15, 0x16, 0x17, 0x18, 0x19, 0x20, 0x21, 0x22, 0x23,
    0x24, 0x25, 0x26, 0x27, 0x28, 0x29, 0x30, 0x31, 0x32, 0x33, 0x34, 0x38, 0x39, 0x3A, 0x40, 0x41, 0x42, 0x43, 0x44, 0x48,
    0x49, 0x4A]

/-- A COMMAND payload whose code is BGPF's or RSTR's (R221). -/
def emptyingPayload (payload : List Byte) : Bool := decide (payload.head? = some 0x20 ∨ payload.head? = some 0x19)

/-- The frame that a character would complete is a COMMAND frame that carries BGPF or RSTR. -/
def carriesEmptying (c : Character) (s : State) : Bool :=
  let frame := assembledFrame (s.loop.assembly ++ [c.data])
  decide (frame.kind = kindCommand) && emptyingPayload frame.payload

/-- The command can empty the report: BGPF, RSTR, power, and a payload or a character that carries BGPF or RSTR (R38, R57,
R219). -/
def mayEmptyReport (c : Instr) (s : State) : Bool :=
  match c with
  | .powerOn _ | .powerLoss | .bgpf _ _ _ | .rstr _ => true
  | .unknownCommand _ payload => emptyingPayload payload
  | .frameAbandonment character | .frameCompletion character | .characterReceipt character => carriesEmptying character s
  | .gapTimerExpiry | .sendCompletion | .ringTimerExpiry | .contactAcceptance _ | .prescalerWrap | .refreshCheck
  | .silenceTimerExpiry _ _ | .fadeStep _ | .verificationExpiry _ | .stalenessExpiry _ | .windowExpiry _ | .deadTimeExpiry
  | .driveRepeatExpiry | .raiseTimerExpiry | .positionStaleExpiry | .emergencyStaleExpiry | .flowTimerExpiry
  | .dwellExpiry | .callLapse _ | .playerTimerExpiry | .segmentTimerExpiry _ | .noticeTimerExpiry | .storeCompletion
  | .rdst _ _ | .acka _ _ | .rdzn _ _ _ | .rdqu _ | .rdrp _ _ | .rdtb _ _ _ | .ldpo _ _ | .ldcu _ _ | .ldzn _ _
  | .ldcl _ _ | .ldpt _ _ | .ldrt _ _ | .ldpf _ _ | .cltb _ _ | .sttb _ | .ophs _ | .hold _ | .rlhd _ | .stcd _ _
  | .phse _ _ _ _ | .shst _ | .shrs _ | .evrs _ | .enpf _ | .clwr _ | .crse _ | .cstp _ | .cclr _ | .demo _
  | .hfad _ _ _ _ | .hrel _ _ | .htak _ _ | .ziso _ _ | .zrst _ _ | .arst _ _ | .wopn _ _ | .wcls _ _ | .caln _ _
  | .calx _ _ | .rpln _ _ _ | .contactSample _ _ | .showClockAdvance => false

/-- The part with a frame's send start taken at this reading and the port's divisor taken from the profile: what a send
completion leaves when it selects a frame that is no LEVEL frame (R2, R17, R18, R19). -/
def sendStarted (frame : Frame) (forward : List Frame) (origin : List OriginFrame) (forwardRun : Nat) (s : State) : State :=
  s.onLoop fun l =>
    { l with
      forward := forward
      origin := origin
      forwardRun := forwardRun
      outDivisor := s.command.profile.lineDivisor
      sending := some
        { frame := frame
          crc := crc16 frame.bytes
          span :=
            { start := s.clock
              cycles := (frame.payload.length + 6) * (88 * (s.command.profile.lineDivisor + 1)) } } }

/-- The assembler in HUNT with nothing in assembly and this bad-frame count (R6, R7, R9). -/
def huntWith (badFrames : Nat) (s : State) : State :=
  s.onLoop fun l => { l with assembler := .hunt, assembly := [], gapTimer := none, badFrames := badFrames }

/-- The last character of a frame that passes through the part: its CRC is right, another node sent it, and it is no COMMAND
for the part (R3, R5, R8, R10, R12). -/
def passingFrame (f : Frame) (c : Character) (s : State) : Bool :=
  s.powered && f.headerValid &&
    decide (s.loop.assembler = .check ∧ f.payload.length ≤ 240 ∧
      s.loop.assembly = f.bytes ++ [byte ((crc16 f.bytes).toNat / 256)] ∧
      c = { data := byte (crc16 f.bytes).toNat, mark := false, stopBit := true } ∧
      (s.numbered = true → f.source ≠ s.nodeByte ∧ ¬ (f.kind = kindCommand ∧ f.dest = s.nodeByte)))

/-- The completion of the frame hands its contents on, which leaves a state of which this holds, and the frame is then offered
to the forward queue (R8, R10, R11). -/
def passes (f : Frame) (c : Character) (s : State) (holds : State → Prop) : Prop :=
  ∃ t, exec (.frameCompletion c) s = .next (offerForward f t) ∧ holds t

/-- A queued frame would be sent after the frame being sent, and nothing else waits in the origin queue: what is offered next
stands first in it. -/
def quietQueue (s : State) : Bool := s.loop.sending.isSome && s.loop.origin.isEmpty

/-- The player sounds a call, or is in the gap of one, and its timer was not started with length 0: an event of the Call Unit
ends without a selection (R183). -/
def playerBusy (s : State) : Bool :=
  match s.calls.player with
  | .idle => false
  | .sounding _ _ timer => decide (timer.length ≠ 0)
  | .gap _ _ timer => decide (timer.length ≠ 0)

/-- The data of a reply: these leading bytes, and as many whole items, in order, as a payload of 240 bytes has room for beside
the three bytes of every REPLY (11.3, R205). -/
def fitted (head : List Byte) (items : List (List Byte)) (data : List Byte) : Prop :=
  ∃ n ≤ items.length, data = head ++ (items.take n).flatten ∧ data.length ≤ 237 ∧
    (n < items.length → 237 < data.length + ((items[n]?).getD []).length)

/-! ## Runs -/

/-- The states that a list of commands leads through, to the last; none where one stops. -/
def run : List Instr → State → Option State
  | [], s => some s
  | c :: rest, s =>
    match exec c s with
    | .next t => run rest t
    | .fault _ => none
    | .refused _ => none

/-- The characters of a frame as R1 and 1.2 send them: the first with its mark bit, then the other header and payload
bytes and the CRC, high byte first. -/
def Frame.characters (f : Frame) : List Character :=
  { data := f.dest, mark := true, stopBit := true } ::
    ((f.bytes.drop 1 ++ bytes2 (crc16 f.bytes).toNat).map fun b => { data := b, mark := false, stopBit := true })

/-- A generator runs from its start on a pattern: the milliseconds until it is IDLE, and those its relay is energised, as its
segment timers give them (R195, R196). -/
def ringTimes (s : State) (latched : Latched) : Nat → Generator → Nat × Nat
  | 0, _ => (0, 0)
  | fuel + 1, g =>
    match g.timer with
    | none => (0, 0)
    | some timer =>
      let rest := ringTimes s latched fuel (nextSegment g latched s)
      (timer.length + rest.1, (if g.relay then timer.length else 0) + rest.2)

/-! ## Invariants -/

/-- The queues, the report and the counts are within their capacities (R9, R13, R14, R18, R57, R175). -/
def withinCapacities (s : State) : Bool :=
  decide (s.loop.badFrames ≤ 8 ∧ s.loop.forward.length ≤ 8 ∧ s.loop.origin.length ≤ 16 ∧ s.loop.forwardRun ≤ 4 ∧
    s.phase.report.length ≤ 128 ∧ s.phase.lost ≤ 255 ∧ s.calls.queue.length ≤ 16)

/-- Every relay is energised exactly while its condition holds (R200). -/
def relaysFollow (s : State) : Bool :=
  (s.bells.generators.toList.all fun g => decide (g.relay = decide (g.state = .ring))) &&
    decide (s.lights.k4 = (!s.zones.alarm.confirmed.isEmpty || decide (s.phase.phase = .evacuating)) ∧
      s.curtain.k5 = decide (s.curtain.state = .released) ∧
      s.curtain.k6 = s.zones.alarm.stage ∧
      s.loop.k7 = decide (s.loop.ring = .ok))

/-- The alarm condition record is the one the zone states give, and the Curtain Supervisor holds its stage-side value (R120,
R123). -/
def recordDerived (s : State) : Bool :=
  decide (s.zones.alarm = derivedAlarm s ∧ s.curtain.stageAlarm = s.zones.alarm.stage)

/-- No window is OPEN while the confirmed set is not empty, and a zone is MASKED only while an OPEN window holds it
(R120). -/
def windowsClosedInAlarm (s : State) : Bool :=
  (s.zones.alarm.confirmed.isEmpty || s.zones.windows.toList.all fun w => !w.isOpen) &&
    (List.range 48).all fun z => !zoneIs s z .masked || covered s z

/-- A zone's verification timer runs exactly while it is VERIFYING; a window's timer exactly while it is OPEN (R107,
R116). -/
def zoneTimersRun (s : State) : Bool :=
  (s.zones.zones.toList.all fun zone =>
      zone.all fun z => decide (z.verifyTimer.isSome = decide (z.state = .verifying))) &&
    s.zones.windows.toList.all fun w => decide (w.timer.isSome = w.isOpen)

/-- The mode, the fault cause and the pending direction are the ones the curtain's state allows (R125, R136). -/
def curtainLegal (c : Curtain) : Bool :=
  match c.state with
  | .unknown | .atFloor | .stored | .stopped => decide (c.mode = .normal ∧ c.cause = none ∧ c.pending = none)
  | .fault => decide (c.mode = .normal ∧ c.cause ≠ none ∧ c.pending = none)
  | .lowering => decide (c.cause = none ∧ c.pending = none)
  | .raising => decide (c.mode ≠ .emergency ∧ c.cause = none ∧ c.pending = none)
  | .released => decide (c.mode = .emergency ∧ c.pending = none)
  | .deadTime =>
    decide (c.cause = none) &&
      match c.pending with
      | none => false
      | some .lower => true
      | some .raise => decide (c.mode ≠ .emergency)
      | some .none => decide (c.mode = .normal)

/-- A demonstration is in progress only while the confirmed set is empty: the alarm that fills the set fails it (R164). -/
def demoOutsideAlarm (s : State) : Bool := !s.phase.demoStatus.inProgress || s.zones.alarm.confirmed.isEmpty

/-- A raise driven by the part runs only without a stage alarm and outside EVACUATING (R138). -/
def raisesSafely (s : State) : Bool :=
  !decide (s.curtain.state = .raising ∧ s.curtain.flags.localControl = false) ||
    (!s.curtain.stageAlarm && !decide (s.phase.phase = .evacuating))

/-- The estimator's fields and the descent times are within their ranges (R125, R149, R36). -/
def descentInRange (s : State) : Bool :=
  decide (-32768 ≤ s.curtain.estimator.speed ∧ s.curtain.estimator.speed ≤ 32767 ∧
    s.curtain.estimator.predicted ≤ 65535 ∧ s.curtain.estimator.late ≤ 8 ∧ s.curtain.lastDescent ≤ 65535 ∧
    s.phase.demoTime ≤ 65535)

/-- The held-from and saved phases are present exactly where R36 and R47 say, and hold the phases they may. -/
def phasesKept (p : PhaseUnit) : Bool :=
  (match p.saved with
    | none => decide (p.phase ≠ .evacuating)
    | some saved => decide (p.phase = .evacuating ∧ saved ≠ .closed ∧ saved ≠ .evacuating)) &&
  (match p.heldFrom with
    | none => decide (p.phase ≠ .held ∧ p.saved ≠ some .held)
    | some from_ => decide ((from_ = .preshow ∨ from_ = .houseOpen) ∧ (p.phase = .held ∨ p.saved = some .held)))

/-- The act, the countdowns and the prescaler are within their ranges, and show stop is clear in CLOSED (R36, R50,
R54). -/
def countsInRange (p : PhaseUnit) : Bool :=
  decide (p.act ≤ 5 ∧ p.curtainUp ≤ 7200 ∧ p.intervalLeft ≤ 3600 ∧ p.prescaler ≤ 999) &&
    (!decide (p.phase = .closed) || !p.showStop)

/-- A group owned by CONSOLE has no fade, and a group's level in a fade lies between the fade's start and its target
(5.4). -/
def Group.legal (g : Group) : Bool :=
  match g.fade with
  | none => true
  | some fade =>
    decide (g.owner = .part ∧ min fade.start fade.target ≤ g.level ∧ g.level ≤ max fade.start fade.target)

/-- Every house group is legal (5.4). -/
def groupsLegal (s : State) : Bool := s.lights.groups.toList.all Group.legal

/-- A generator holds a latched pattern exactly while it is not IDLE (R194). -/
def generatorsLatched (s : State) : Bool :=
  s.bells.generators.toList.all fun g => decide (g.latched.isSome = decide (g.state ≠ .idle))

/-- While a store is in progress the stored image is invalid: it is not there (R218). -/
def storeInvalidWhileStoring (s : State) : Bool := s.command.store.isNone || s.stored.isNone

/-- A new mark stands only beside a flag that is set (R215). -/
def marksOnFlags (s : State) : Bool := decide (s.command.newMarks &&& ~~~s.command.attention = 0)

end Sys2Proof.Machine
end

