-- ==== Sys2Proof/Certificates/Slice0/Obligations.lean ====
section
/-! DEFINITION. The statements for the provers, in the vocabulary of Sys2Proof/Safety.lean. A statement about a command of the
table gives its own effect where the command completes, the parts of the state that stay, and the entries and frames it
leaves. The manual's sections each rests on stand in OBLIGATIONS.json. -/

section Statements

open Sys2Proof Sys2Proof.Machine

/-! ## The machine -/

/-- A step executes the command at the front of the queue with the queue's rest; on an empty queue the block idles, which is
the model's choice (log entry 9). -/
def Obligations.StepTakesFrontCommand : Prop :=
  (∀ (c : Instr) (s : State), step (s.withPending (c :: s.pending)) = exec c s) ∧
    ∀ s : State, s.pending = [] → step s = .next s

/-- Every command completes on every state, and none touches the queue of waiting commands (the model's form); without power
the part takes no event but POWER_ON (the model's form of R200, log entry 11). -/
def Obligations.EveryCommandCompletesAndKeepsQueue : Prop :=
  (∀ (c : Instr) (s : State), answers c s fun t => t.pending = s.pending) ∧
  ∀ (c : Instr) (s : State), s.powered = false → (∀ straps, c ≠ .powerOn straps) → exec c s = .next s

/-- The state after reset is power-on with the straps at 2 and no valid image (log entry 10), and every invariant holds of
it. -/
def Obligations.ResetIsLegalPowerOn : Prop :=
  exec (.powerOn 2) State.reset = .next State.reset ∧
    withinCapacities State.reset ∧ relaysFollow State.reset ∧ recordDerived State.reset ∧
    windowsClosedInAlarm State.reset ∧ zoneTimersRun State.reset ∧ curtainLegal State.reset.curtain ∧
    raisesSafely State.reset ∧ descentInRange State.reset ∧ phasesKept State.reset.phase ∧
    countsInRange State.reset.phase ∧ demoOutsideAlarm State.reset ∧ groupsLegal State.reset ∧ generatorsLatched State.reset ∧
    storeInvalidWhileStoring State.reset ∧ marksOnFlags State.reset

/-! ## Power and the table store -/

/-- POWER_ON gives every block its power-on values over the loaded image. POWER_LOSS leaves only the stored image and the
straps; that the part without power holds the power-on values of its blocks is the model's choice (log entry 11). -/
def Obligations.PowerCycleKeepsOnlyTheStore : Prop :=
  let fresh (t : State) : Prop :=
    t.clock = 0 ∧ imageOf t = loadedImage t.stored ∧
    t.lines = Vector.replicate 8 Line.initial ∧ t.phase = PhaseUnit.initial ∧ t.cues.execution = none ∧
    t.lights.policy = (loadedImage t.stored).policy.map PolicyEntry.initial ∧
    t.lights.groups = Vector.replicate 8 Group.initial ∧ t.lights.k4 = false ∧
    t.lights.refreshTimer = { start := 0, length := 100 } ∧
    t.zones.panel = Panel.initial ∧ t.zones.alarm = AlarmRecord.initial ∧
    (∀ w, w < 16 → ∃ d, t.zones.windows[w]? = some { defn := d, isOpen := false, timer := none }) ∧
    (∀ (z : Nat) (zone : Zone), zoneAt t z = some zone → zone =
      { defn := zone.defn, state := .normal, last := .clear, lastReport := 0, stale := false, verifyTimer := none
        staleTimer := some { start := 0, length := t.command.profile.zoneReportLimit * 1000 } }) ∧
    t.curtain = Curtain.initial ∧ t.calls.queue = [] ∧ t.calls.player = .idle ∧
    (∀ id e, callEntry t id = some e → e.fired = false) ∧
    t.calls.selectors = Vector.replicate 3 Plan.a ∧ t.bells.generators = Vector.replicate 4 Generator.initial ∧
    t.command.attention = (if storeValid t.stored then 0x0001 else 0x0003) ∧
    t.command.newMarks = t.command.attention ∧ t.command.store = none ∧ t.command.inProgress = none ∧
    t.command.noticeTimer = { start := 0, length := t.command.profile.noticeInterval }
  (∀ (straps : BitVec 7) (s : State), answers (.powerOn straps) s fun t =>
    t.powered = true ∧ t.stored = s.stored ∧ t.pending = s.pending ∧ fresh t ∧
    t.loop = LoopPort.initial straps (max 5 t.command.profile.divisor)) ∧
  ∀ s : State, s.powered → answers .powerLoss s fun t =>
    t.powered = false ∧ t.stored = s.stored ∧ t.pending = s.pending ∧ fresh t ∧
    t.loop = LoopPort.initial s.loop.node (max 5 t.command.profile.divisor) ∧ relayByte t = 0

/-- STTB makes the stored image invalid, its completion makes it a valid copy of the working tables (its checksum in the layout
that log entry 12 chooses), and the next power-on loads what the store holds: that copy if every entry is in range, nothing if
power was lost before the completion. -/
def Obligations.StoreSurvivesPowerLoss : Prop :=
  ∀ (h : CommandHeader) (s : State) (straps : BitVec 7), accepted h s → s.command.store = none →
    ∃ a, exec (.sttb h) s = .next a ∧ a.stored = none ∧ a.command.store.isSome ∧
      sameBut [.command, .stored] s a ∧ a.command.profile = s.command.profile ∧
      (∃ b, exec .storeCompletion a = .next b ∧ b.command.store = none ∧
        b.stored = some { image := imageOf s, checksum := (imageOf s).checksum } ∧
        sameBut [.sender, .outputs, .attention, .report, .command, .stored] a b ∧
        (roomFor 1 s → b.phase.report = s.phase.report ++ [entryNow s .table [0xFF, 2, 0, 0]]) ∧
        ((imageOf s).inRange →
          ∃ c d, exec .powerLoss b = .next c ∧ exec (.powerOn straps) c = .next d ∧ imageOf d = imageOf s ∧
            d.command.attention = 0x0001)) ∧
      ∃ c d, exec .powerLoss a = .next c ∧ exec (.powerOn straps) c = .next d ∧ imageOf d = Image.empty ∧
        d.command.attention = 0x0003

/-- RSTR, where its conditions hold, restarts every block over the working tables and leaves the show clock, the refresh timer,
the prescaler, the stored image and a frame being sent. That a wrap which is due is kept with the prescaler is the model's
choice (log entry 6). -/
def Obligations.RestartKeepsTables : Prop :=
  ∀ (h : CommandHeader) (s : State), accepted h s → s.command.store = none → s.phase.phase = .closed →
    s.curtain.state ≠ .lowering → s.curtain.state ≠ .raising → s.curtain.state ≠ .released →
    s.zones.alarm.confirmed = [] →
    replies (.rstr h) h 0x19 (.plain .done) s fun u =>
      imageOf u = imageOf s ∧ u.clock = s.clock ∧ u.stored = s.stored ∧ u.powered = true ∧ u.pending = s.pending ∧
      u.loop = { LoopPort.initial s.loop.node s.loop.inDivisor with
        outDivisor := s.loop.outDivisor, sending := s.loop.sending } ∧
      u.lines = Vector.replicate 8 Line.initial ∧
      u.phase = { PhaseUnit.initial with prescaler := s.phase.prescaler, wrapDue := s.phase.wrapDue } ∧
      u.cues = { table := s.cues.table, execution := none } ∧
      u.lights = { policy := s.lights.policy.map fun e => PolicyEntry.initial e.defn
                   groups := Vector.replicate 8 Group.initial, refreshTimer := s.lights.refreshTimer, k4 := false } ∧
      u.zones.panel = Panel.initial ∧ u.zones.alarm = AlarmRecord.initial ∧
      (∀ z zone, zoneAt s z = some zone → zoneAt u z = some
        { defn := zone.defn, state := .normal, last := .clear, lastReport := s.clock, stale := false, verifyTimer := none
          staleTimer := some { start := s.clock, length := s.command.profile.zoneReportLimit * 1000 } }) ∧
      (∀ z, zoneAt s z = none → zoneAt u z = none) ∧
      (∀ (w : Nat) (window : Window), s.zones.windows[w]? = some window →
        u.zones.windows[w]? = some { defn := window.defn, isOpen := false, timer := none }) ∧
      u.curtain = Curtain.initial ∧ u.calls.areas = s.calls.areas ∧ u.calls.selectors = Vector.replicate 3 Plan.a ∧
      (∀ id e, callEntry s id = some e → callEntry u id = some { e with fired := false }) ∧
      u.calls.queue = [] ∧ u.calls.player = .idle ∧
      u.bells = { patterns := s.bells.patterns, generators := Vector.replicate 4 Generator.initial } ∧
      u.command =
        { inProgress := none, attention := 0x0001, newMarks := 0x0001
          noticeTimer := { start := s.clock, length := s.command.profile.noticeInterval }, store := none
          profile := s.command.profile } ∧
      relayByte u = 0

/-! ## The loop -/

/-- The characters of any frame of at most 240 payload bytes, received from HUNT, hand exactly that frame to its disposal,
with the assembler back in HUNT and the bad-frame count 0. -/
def Obligations.CharactersDeliverFrame : Prop :=
  ∀ (f : Frame) (s : State), s.powered → s.loop.assembler = .hunt → f.payload.length ≤ 240 →
    run
      (f.characters.dropLast.map Instr.characterReceipt ++
        (f.characters.drop (f.payload.length + 5)).map Instr.frameCompletion) s =
      some (dispose f (huntWith 0 s))

/-- A character in HUNT starts a frame only with its mark and stop bit; a framing error, a new first character or the gap
timer abandons the frame in assembly and counts a bad frame. That the first character itself starts the gap timer is inferred
(log entry 37). -/
def Obligations.AssemblerStartsAndAbandons : Prop :=
  (∀ (c : Character) (s : State), s.powered → s.loop.assembler = .hunt → c.stopBit = true → c.mark = true →
    exec (.characterReceipt c) s = .next (s.onLoop fun l =>
      { l with assembler := .header, assembly := [c.data],
               gapTimer := some { start := s.clock, cycles := 10 * (88 * (l.inDivisor + 1)) } })) ∧
  (∀ (c : Character) (s : State), s.powered → s.loop.assembler = .hunt → (c.stopBit = false ∨ c.mark = false) →
    exec (.characterReceipt c) s = .next s) ∧
  (∀ (c : Character) (s : State), s.powered → s.loop.assembler ≠ .hunt → c.stopBit = false →
    answers (.frameAbandonment c) s fun t =>
      sameBut [.receiver, .attention] s t ∧
      t.loop = (huntWith (min 8 (s.loop.badFrames + 1)) s).loop ∧
      isRaised .lineErrors t = (isRaised .lineErrors s || decide (7 ≤ s.loop.badFrames))) ∧
  (∀ (c : Character) (s : State), s.powered → s.loop.assembler ≠ .hunt → c.stopBit = true → c.mark = true →
    answers (.frameAbandonment c) s fun t =>
      sameBut [.receiver, .attention] s t ∧
      t.loop =
        { s.loop with
          assembler := .header, assembly := [c.data], badFrames := min 8 (s.loop.badFrames + 1)
          gapTimer := some { start := s.clock, cycles := 10 * (88 * (s.loop.inDivisor + 1)) } } ∧
      isRaised .lineErrors t = (isRaised .lineErrors s || decide (7 ≤ s.loop.badFrames))) ∧
  ∀ s : State, s.powered → s.loop.assembler ≠ .hunt → lineDue s.loop.gapTimer s.clock →
    answers .gapTimerExpiry s fun t =>
      sameBut [.receiver, .attention] s t ∧
      t.loop = (huntWith (min 8 (s.loop.badFrames + 1)) s).loop ∧
      isRaised .lineErrors t = (isRaised .lineErrors s || decide (7 ≤ s.loop.badFrames))

/-- The character that completes a frame: a CRC that does not match counts a bad frame; a good frame is removed, acted on,
or forwarded by the first case of its disposal that fits. A COMMAND frame for the part is executed within that step (log entry
1). A CUE frame whose payload is no GO, or whose key the table does not hold, changes nothing; one that matches has its
actions performed in their order, each with the effect and under the conditions of the same request as a command, and an action
refused leaves its CUE_REFUSED entry. -/
def Obligations.CompletedFrameIsDisposed : Prop :=
  (∀ (f : Frame) (hi : Byte) (c : Character) (s : State), s.powered → s.loop.assembler = .check →
    c.stopBit = true → c.mark = false → f.payload.length ≤ 240 → s.loop.assembly = f.bytes ++ [hi] →
    (number2 hi c.data ≠ (crc16 f.bytes).toNat →
      answers (.frameCompletion c) s fun t =>
        sameBut [.receiver, .attention] s t ∧ t.loop = (huntWith (min 8 (s.loop.badFrames + 1)) s).loop ∧
        isRaised .lineErrors t = (isRaised .lineErrors s || decide (7 ≤ s.loop.badFrames))) ∧
    (number2 hi c.data = (crc16 f.bytes).toNat →
      (f.headerValid = false → exec (.frameCompletion c) s = .next (huntWith 0 s)) ∧
      (f.headerValid → s.numbered → f.source = s.nodeByte → s.loop.ring = .ok →
        exec (.frameCompletion c) s = .next ((huntWith 0 s).onLoop fun l =>
          { l with ringTimer := some { start := s.clock, length := s.command.profile.ringTimeout } })) ∧
      (f.headerValid → s.numbered → f.source = s.nodeByte → s.loop.ring = .broken →
        exec (.frameCompletion c) s = .next (((huntWith 0 s).onLoop fun l =>
          { l with ring := .ok, k7 := true
                   ringTimer := some { start := s.clock, length := s.command.profile.ringTimeout } }).onCurtain
            fun c => { c with ring := .ok })) ∧
      (f.headerValid → s.numbered → f.source ≠ s.nodeByte → f.kind = kindCommand → f.dest = s.nodeByte →
        exec (.frameCompletion c) s = exec (.unknownCommand f.source f.payload) (huntWith 0 s)))) ∧
  (∀ (f : Frame) (c : Character) (s : State), passingFrame f c s →
    f.kind ≠ kindLevel → f.kind ≠ kindCue → f.kind ≠ kindZone → f.kind ≠ kindPos →
    exec (.frameCompletion c) s = .next (offerForward f (huntWith 0 s))) ∧
  (∀ (f : Frame) (t : State),
    (t.loop.forward.length < 8 → t.loop.sending.isSome →
      offerForward f t = t.onLoop fun l => { l with forward := l.forward ++ [f] }) ∧
    (8 ≤ t.loop.forward.length →
      sameBut [.attention] t (offerForward f t) ∧ isRaised .forwardOverrun (offerForward f t)) ∧
    (t.loop.forward = [] → t.loop.origin = [] → t.loop.sending = none →
      t.loop.outDivisor = max 5 t.command.profile.divisor →
      (f.kind ≠ kindLevel → offerForward f t = sendStarted f [] [] (min 4 (t.loop.forwardRun + 1)) t) ∧
      (f.kind = kindLevel →
        sameBut [.sender, .outputs] t (offerForward f t) ∧ (offerForward f t).loop.forward = [] ∧
        (offerForward f t).loop.sending.map Sending.frame = some { f with payload := rewriteLevels t f.payload }))) ∧
  ∀ (f : Frame) (c : Character) (s : State), passingFrame f c s → f.kind = kindCue →
    (f.payload.length < 4 → passes f c s fun t => t = huntWith 0 s) ∧
    ∀ (list cueHi cueLo verb : Byte) (rest : List Byte), f.payload = list :: cueHi :: cueLo :: verb :: rest →
      ((3 < list.toNat ∨ 9999 < number2 cueHi cueLo ∨ verb ≠ 1 ∨ findCue s list.toNat (number2 cueHi cueLo) = none) →
        passes f c s fun t => t = huntWith 0 s) ∧
      ∀ e, list.toNat ≤ 3 → number2 cueHi cueLo ≤ 9999 → verb = 1 →
        findCue s list.toNat (number2 cueHi cueLo) = some e →
        let refusal (position : Nat) (kind reason : Byte) : ReportEntry :=
          entryNow s .cueRefused [list, cueHi, cueLo, byte position, kind, reason]
        let refuses (kind reason : Byte) : Prop :=
          passes f c s fun t =>
            sameBut [.report, .attention, .cues] (huntWith 0 s) t ∧ t.cues = { s.cues with execution := none } ∧
            (roomFor 1 s → t.phase.report = s.phase.report ++ [refusal 1 kind reason])
        let changes (parts : List Part) (holds : State → Prop) : Prop :=
          passes f c s fun t =>
            sameBut (.cues :: parts) (huntWith 0 s) t ∧ t.cues = { s.cues with execution := none } ∧ holds t
        changes alarmParts (fun _ => True) ∧
        (s.phase.phase = .closed → e.actions.length ≤ 4 → roomFor 4 s →
          (∀ action ∈ e.actions, match action with
            | .phase _ _ | .call _ | .mark _ => True
            | .hfade _ _ _ | .wopen _ | .wclose _ | .demo => False) →
          changes [.report] fun t => t.phase.report = s.phase.report ++ (e.actions.zipIdx 1).map fun (action, position) =>
            match action with
            | .mark value => entryNow s .mark [value, list, cueHi, cueLo]
            | .call _ => refusal position 4 3
            | _ => refusal position 0 3) ∧
        (∀ value, e.actions = [.mark value] → roomFor 1 s →
          changes [.report] fun t => t.phase.report = s.phase.report ++ [entryNow s .mark [value, list, cueHi, cueLo]]) ∧
        (∀ target act, e.actions = [.phase target act] → s.phase.phase ≠ .closed → act ≤ 5 →
          ((target = .closed ∨ target = .preshow ∨ target = .held ∨ target = .evacuating) → refuses 0 4) ∧
          (target = .houseOpen → (act ≠ 0 ∨ s.phase.phase ≠ .preshow) → refuses 0 3) ∧
          (target = .egress → s.phase.phase ≠ .running → refuses 0 3) ∧
          (target = .interval → s.phase.phase = .running → (act = 0 ∨ act = s.phase.act) →
            s.command.profile.intervalLength ≤ 3600 → relaysFollow s → roomFor 1 s →
            changes phaseParts fun t =>
              t.phase.record =
                { s.phase.record with phase := .interval, intervalLeft := s.command.profile.intervalLength } ∧
              gains (entryNow s .phase [5, 4, byte s.phase.act, 1, flagByte s.phase.showStop]) s t) ∧
          (target = .houseOpen → act = 0 → s.phase.phase = .preshow → relaysFollow s → roomFor 1 s →
            changes phaseParts fun t => t.phase.record = { s.phase.record with phase := .houseOpen } ∧
              gains (entryNow s .phase [2, 1, byte s.phase.act, 1, flagByte s.phase.showStop]) s t) ∧
          (target = .running → act ≤ 1 → (s.phase.phase = .houseOpen ∨ s.phase.phase = .held) → relaysFollow s →
            roomFor 3 s →
            changes (.curtain :: phaseParts) fun t =>
              t.phase.record =
                { s.phase.record with
                  phase := .running, act := 1, heldFrom := none, holdPending := false
                  demoStatus := if s.phase.demoStatus = .passed then .passed else .missed } ∧
              t.curtain.state = s.curtain.state ∧ t.curtain.mode = s.curtain.mode ∧
              gains (entryNow s .phase [4, byte s.phase.phase.code, 1, 1, flagByte s.phase.showStop]) s t ∧
              (s.phase.demoStatus ≠ .passed → isRaised .demoResult t ∧
                gains (entryNow s .demo ([6, 0xFF] ++ bytes2 s.phase.demoTime ++ [0])) s t)) ∧
          (target = .running → (act = 0 ∨ act = s.phase.act + 1) → s.phase.phase = .interval → s.phase.act < 5 →
            relaysFollow s → roomFor 1 s →
            changes phaseParts fun t =>
              t.phase.record = { s.phase.record with phase := .running, act := s.phase.act + 1 } ∧
              gains (entryNow s .phase [4, 5, byte (s.phase.act + 1), 1, flagByte s.phase.showStop]) s t) ∧
          (target = .running →
            (s.phase.phase = .preshow ∨ s.phase.phase = .running ∨ s.phase.phase = .egress ∨ s.phase.phase = .evacuating ∨
              ((s.phase.phase = .houseOpen ∨ s.phase.phase = .held) ∧ 1 < act) ∨
              (s.phase.phase = .interval ∧ (s.phase.act = 5 ∨ (act ≠ 0 ∧ act ≠ s.phase.act + 1)))) →
            refuses 0 3) ∧
          (target = .egress → (act = 0 ∨ act = s.phase.act) → s.phase.phase = .running → relaysFollow s → roomFor 1 s →
            changes phaseParts fun t => t.phase.record = { s.phase.record with phase := .egress } ∧
              gains (entryNow s .phase [6, 4, byte s.phase.act, 1, flagByte s.phase.showStop]) s t)) ∧
        (∀ g level time group, e.actions = [.hfade g level time] → s.lights.groups[g]? = some group → time ≤ 36000 →
          (group.owner = .console → refuses 1 3) ∧
          (group.owner = .part → changes [.lights] fun t => t.lights =
            { s.lights with
              groups := s.lights.groups.setIfInBounds g
                (if time = 0 then { group with level := level, fade := none, stepTimer := none }
                else
                  { group with
                    fade := some { start := group.level, target := level, steps := 4 * time, index := 0 }
                    stepTimer := some { start := s.clock, length := 25 } }) })) ∧
        (∀ w window, e.actions = [.wopen w] → s.zones.windows[w]? = some window → w ≤ 15 →
          ((s.zones.alarm.confirmed ≠ [] ∨ s.phase.phase = .evacuating ∨ window.defn = none) → refuses 2 3) ∧
          ∀ d, s.zones.alarm.confirmed = [] → s.phase.phase ≠ .evacuating → window.defn = some d → recordDerived s →
            window.isOpen = false → roomFor 1 s →
            changes [.zones, .report] fun t => t.zones =
              { s.zones with
                windows := s.zones.windows.setIfInBounds w
                  { window with isOpen := true, timer := some { start := s.clock, length := d.duration * 1000 } } } ∧
              t.phase.report = s.phase.report ++ [entryNow s .zone [byte (64 + w), 9, 8, 7]]) ∧
        (∀ w, e.actions = [.wclose w] → w ≤ 15 →
          (windowOpen s w = false → changes [] fun _ => True) ∧
          (windowOpen s w = true → roomFor 1 s → changes alarmParts fun t =>
            windowOpen t w = false ∧ gains (entryNow s .zone [byte (64 + w), 8, 9, 7]) s t)) ∧
        (∀ id, e.actions = [.call id] → id ≤ 31 → callPriority s id ≤ 2 → s.phase.phase ≠ .closed → playerBusy s →
          (callDefined s id → callHeld s id = false → s.calls.queue.length < 16 →
            changes [.calls] fun t =>
              t.calls = { s.calls with queue := insertCall (newInstance s id .cue) s.calls.queue }) ∧
          (callDefined s id = false → roomFor 2 s →
            changes [.report] fun t => t.phase.report.getLast? = some (refusal 1 4 3) ∧
              t.phase.report.length = s.phase.report.length + 2)) ∧
        (∀ id, e.actions = [.call id] → ∀ defined, callEntry s id = some defined → id ≤ 31 → callPriority s id ≤ 2 →
          s.phase.phase ≠ .closed → s.calls.queue = [] → s.calls.player = .idle → eligible s (newInstance s id .cue) →
          defined.defn.slot.isSome → 1 ≤ defined.defn.messageTime →
          ∀ station areas, routeStations s (effectiveAreas s id) = [(station, areas)] →
            changes callParts fun t =>
              t.calls.queue = [] ∧
              (∃ call copy timer, t.calls.player = .sounding call copy timer ∧ call.id = id ∧ call.source = .cue ∧
                call.repeats = some (.count defined.defn.repeats) ∧ copy.stations = [(station, areas)] ∧
                timer.start = s.clock ∧ defined.defn.messageTime * 1000 ≤ timer.length) ∧
              (s.numbered → quietQueue s → t.loop.origin =
                [queued s kindCall (byte station)
                  ([1, byte id, optionByte defined.defn.slot] ++ maskBytes 2 areas) false])) ∧
        (∀ g level time w id value, e.actions = [.hfade g level time, .wopen w, .call id, .mark value] →
          ∀ group, s.lights.groups[g]? = some group → ∀ window, s.zones.windows[w]? = some window →
          ∀ d, window.defn = some d → group.owner = .part → 0 < time → time ≤ 36000 → s.zones.alarm.confirmed = [] →
          s.phase.phase ≠ .evacuating → s.phase.phase ≠ .closed → recordDerived s → window.isOpen = false → id ≤ 31 →
          callPriority s id ≤ 2 → callDefined s id → callHeld s id = false → s.calls.queue.length < 16 → playerBusy s →
          roomFor 2 s →
          changes [.lights, .zones, .calls, .report] fun t =>
            t.lights =
              { s.lights with
                groups := s.lights.groups.setIfInBounds g
                  { group with
                    fade := some { start := group.level, target := level, steps := 4 * time, index := 0 }
                    stepTimer := some { start := s.clock, length := 25 } } } ∧
            t.zones =
              { s.zones with
                windows := s.zones.windows.setIfInBounds w
                  { window with isOpen := true, timer := some { start := s.clock, length := d.duration * 1000 } } } ∧
            t.calls = { s.calls with queue := insertCall (newInstance s id .cue) s.calls.queue } ∧
            t.phase.report = s.phase.report ++
              [entryNow s .zone [byte (64 + w), 9, 8, 7], entryNow s .mark [value, list, cueHi, cueLo]]) ∧
        ((e.actions = [.phase .houseOpen 0, .demo] ∨ e.actions = [.demo, .phase .houseOpen 0]) →
          s.phase.phase = .preshow → s.phase.showStop = false → s.zones.alarm.confirmed = [] →
          s.curtain.state = .stored → s.curtain.flags.localControl = false → lineReading s 3 ≠ .active →
          (s.phase.demoStatus = .notDone ∨ s.phase.demoStatus.reason.isSome) → relaysFollow s → roomFor 3 s →
          changes (.curtain :: phaseParts) fun t =>
            gains (entryNow s .phase [2, 1, byte s.phase.act, 1, 0]) s t ∧
            -- The demonstration starts only once the house is open.
            (e.actions = [.phase .houseOpen 0, .demo] →
              t.curtain.state = .lowering ∧ t.curtain.mode = .demo ∧
              t.phase.record = { s.phase.record with phase := .houseOpen, demoStatus := .lowering }) ∧
            (e.actions = [.demo, .phase .houseOpen 0] →
              t.curtain = s.curtain ∧ t.phase.record = { s.phase.record with phase := .houseOpen } ∧
              gains (refusal 1 5 3) s t)) ∧
        (e.actions = [.demo] → s.phase.phase ≠ .houseOpen → refuses 5 3) ∧
        (e.actions = [.demo, .demo] → s.phase.phase = .houseOpen → s.phase.showStop = false →
          s.zones.alarm.confirmed = [] → s.curtain.state = .stored → s.curtain.flags.localControl = false →
          lineReading s 3 ≠ .active → (s.phase.demoStatus = .notDone ∨ s.phase.demoStatus.reason.isSome) →
          roomFor 2 s →
          changes curtainParts fun t =>
            t.curtain.state = .lowering ∧ t.curtain.mode = .demo ∧
            t.phase.record = { s.phase.record with demoStatus := .lowering } ∧ gains (refusal 2 5 3) s t)

/-- A send completion frees the port, takes the profile's divisor, and starts the frame that the arbiter selects: an urgent
origin frame first, then the forward queue while fewer than four forward frames have run, then the origin queue, then the
forward queue. A LEVEL frame is sent with its levels rewritten. -/
def Obligations.SendCompletionSelects : Prop :=
  ∀ s : State, s.powered → lineDue (s.loop.sending.map Sending.span) s.clock →
    (s.loop.forward = [] → s.loop.origin = [] →
      exec .sendCompletion s = .next (s.onLoop fun l =>
        { l with sending := none, outDivisor := max 5 s.command.profile.divisor })) ∧
    (∀ before urgent after, s.loop.origin = before ++ urgent :: after → (∀ q ∈ before, q.urgent = false) →
      urgent.urgent = true → urgent.frame.kind ≠ kindLevel →
      exec .sendCompletion s = .next (sendStarted urgent.frame s.loop.forward (before ++ after) 0 s)) ∧
    (∀ f rest, (∀ q ∈ s.loop.origin, q.urgent = false) → s.loop.forward = f :: rest → s.loop.forwardRun < 4 →
      f.kind ≠ kindLevel →
      exec .sendCompletion s = .next (sendStarted f rest s.loop.origin (s.loop.forwardRun + 1) s)) ∧
    (∀ q rest, (∀ q ∈ s.loop.origin, q.urgent = false) → s.loop.origin = q :: rest →
      (s.loop.forward = [] ∨ 4 ≤ s.loop.forwardRun) → q.frame.kind ≠ kindLevel →
      exec .sendCompletion s = .next (sendStarted q.frame s.loop.forward rest 0 s)) ∧
    (∀ f rest, s.loop.origin = [] → s.loop.forward = f :: rest → 4 ≤ s.loop.forwardRun → f.kind ≠ kindLevel →
      exec .sendCompletion s = .next (sendStarted f rest [] 4 s)) ∧
    ∀ q, s.loop.forward = [] → s.loop.origin = [q] → q.frame.kind = kindLevel →
      answers .sendCompletion s fun t =>
        sameBut [.sender, .outputs] s t ∧ t.loop.origin = [] ∧
        t.loop.sending.map Sending.frame = some { q.frame with payload := rewriteLevels s q.frame.payload }

/-- The console's level of a governed channel is tracked at the hand-off of a LEVEL frame, with its time and its silence timer.
At the send start of a LEVEL frame, of either form and with every number of levels, the level of each governed channel it
carries becomes the part's: the alarm level (0 for an EFFECT channel) under the override, otherwise the level its role gives
it. The channel's last output time becomes the reading of the send start, and the CRC covers the rewritten bytes. An ungoverned
channel, a channel above 511 and every byte of a rejected payload are left as they are, and a rejected payload is neither
tracked nor gives an output time. -/
def Obligations.GovernedLevelsAreRewritten : Prop :=
  (∀ (f : Frame) (c : Character) (s : State), passingFrame f c s → f.kind = kindLevel →
    let tracks (segment : Nat) (level : Nat → Option Byte) : Prop :=
      passes f c s fun t => t = (huntWith 0 s).onLights fun l =>
        { l with
          policy := l.policy.map fun e =>
            match level e.defn.channel with
            | none => e
            | some level =>
              if e.defn.segment = segment ∧ e.defn.channel ≤ 511 then
                { e with
                  lastLevel := level, lastConsole := some s.clock
                  silence := some { start := s.clock, length := s.command.profile.refreshLimit } }
              else e }
    (∀ (head hi lo : Byte) (levels : List Byte), f.payload = head :: hi :: lo :: levels → head.toNat / 16 = 0 →
      head.toNat % 16 ≤ 3 → 1 ≤ levels.length → levels.length ≤ 236 →
      tracks (head.toNat % 16) fun channel =>
        if number2 hi lo ≤ channel then levels[channel - number2 hi lo]? else none) ∧
    (∀ (head : Byte) (pairs : List (Byte × Byte × Byte)),
      f.payload = head :: (pairs.flatMap fun (hi, lo, level) => [hi, lo, level]) → head.toNat / 16 = 1 →
      head.toNat % 16 ≤ 3 → pairs.length ≤ 79 →
      tracks (head.toNat % 16) fun channel =>
        (pairs.reverse.find? fun (hi, lo, _) => decide (number2 hi lo = channel)).map fun (_, _, level) => level) ∧
    ((f.payload = [] ∨ ∃ head rest, f.payload = head :: rest ∧
        (3 < head.toNat % 16 ∨ 1 < head.toNat / 16 ∨
          (head.toNat / 16 = 0 ∧ (rest.length < 3 ∨ 238 < rest.length)) ∨
          (head.toNat / 16 = 1 ∧ (rest.length % 3 ≠ 0 ∨ 237 < rest.length)))) →
      passes f c s (fun t => t = huntWith 0 s) ∧ rewriteLevels s f.payload = f.payload)) ∧
  (∀ s : State,
    let level (segment channel : Nat) (received : Byte) : Byte :=
      if 511 < channel then received
      else match findPolicy s segment channel with
        | none => received
        | some e => outputLevel s e
    (∀ (head hi lo : Byte) (levels : List Byte), head.toNat / 16 = 0 → head.toNat % 16 ≤ 3 → 1 ≤ levels.length →
      levels.length ≤ 236 →
      rewriteLevels s (head :: hi :: lo :: levels) = head :: hi :: lo :: levels.zipIdx.map fun (received, i) =>
        level (head.toNat % 16) (number2 hi lo + i) received) ∧
    ∀ (head : Byte) (pairs : List (Byte × Byte × Byte)), head.toNat / 16 = 1 → head.toNat % 16 ≤ 3 → pairs.length ≤ 79 →
      rewriteLevels s (head :: pairs.flatMap fun (hi, lo, received) => [hi, lo, received]) =
        head :: pairs.flatMap fun (hi, lo, received) => [hi, lo, level (head.toNat % 16) (number2 hi lo) received]) ∧
  (∀ (s : State) (f : Frame), s.powered → lineDue (s.loop.sending.map Sending.span) s.clock → f.kind = kindLevel →
    ((s.loop.forward = [f] ∧ s.loop.origin = []) ∨ (s.loop.forward = [] ∧ s.loop.origin.map OriginFrame.frame = [f])) →
    let rewritten : Frame := { f with payload := rewriteLevels s f.payload }
    let starts (carried : Nat → Nat → Bool) : Prop :=
      answers .sendCompletion s fun t =>
        sameBut [.sender, .outputs] s t ∧ t.loop.forward = [] ∧ t.loop.origin = [] ∧
        t.loop.sending.map Sending.frame = some rewritten ∧ t.loop.sending.map Sending.crc = some (crc16 rewritten.bytes) ∧
        t.lights.policy = s.lights.policy.map fun e =>
          if e.defn.channel ≤ 511 ∧ carried e.defn.segment e.defn.channel then { e with lastOutput := some s.clock } else e
    (∀ (head hi lo : Byte) (levels : List Byte), f.payload = head :: hi :: lo :: levels → head.toNat / 16 = 0 →
      head.toNat % 16 ≤ 3 → 1 ≤ levels.length → levels.length ≤ 236 →
      starts fun segment channel =>
        decide (segment = head.toNat % 16 ∧ number2 hi lo ≤ channel ∧ channel < number2 hi lo + levels.length)) ∧
    (∀ (head : Byte) (pairs : List (Byte × Byte × Byte)),
      f.payload = head :: (pairs.flatMap fun (hi, lo, level) => [hi, lo, level]) → head.toNat / 16 = 1 →
      head.toNat % 16 ≤ 3 → pairs.length ≤ 79 →
      starts fun segment channel =>
        decide (segment = head.toNat % 16) && pairs.any fun (hi, lo, _) => decide (number2 hi lo = channel)) ∧
    ((f.payload = [] ∨ ∃ head rest, f.payload = head :: rest ∧
        (3 < head.toNat % 16 ∨ 1 < head.toNat / 16 ∨
          (head.toNat / 16 = 0 ∧ (rest.length < 3 ∨ 238 < rest.length)) ∨
          (head.toNat / 16 = 1 ∧ (rest.length % 3 ≠ 0 ∨ 237 < rest.length)))) →
      rewritten = f ∧ starts fun _ _ => false)) ∧
  ∀ (s : State) (e : PolicyEntry),
    (overrideActive s → outputLevel s e = if e.defn.role = .effect then 0 else e.defn.alarm) ∧
    (overrideActive s = false →
      (e.defn.role = .aisle → (outputLevel s e).toNat = max (if e.silent then 0 else e.lastLevel.toNat) e.defn.floor.toNat) ∧
      (e.defn.role = .stageWork → outputLevel s e = if e.silent then 0 else e.lastLevel) ∧
      (e.defn.role = .effect →
        outputLevel s e = if windowOpen s e.defn.window.toNat ∧ e.silent = false then e.lastLevel else 0) ∧
      ∀ group, e.defn.role = .house → s.lights.groups[e.defn.group.toNat]? = some group → group.level ≤ 65535 →
        (outputLevel s e).toNat =
          if group.owner = .console then (if e.silent then 0 else e.lastLevel.toNat)
          else if e.defn.merge = 1 then max ((group.level * 255 + 32767) / 65535) (if e.silent then 0 else e.lastLevel.toNat)
          else if e.defn.merge = 2 then min ((group.level * 255 + 32767) / 65535) (if e.silent then 0 else e.lastLevel.toNat)
          else (group.level * 255 + 32767) / 65535)

/-- The ring timer opens the ring: K7 is released, RING_OPEN set and the Curtain Supervisor told; in a stage alarm the iron is
released from every state in which it can fall. -/
def Obligations.RingTimerOpensRing : Prop :=
  ∀ s : State, s.powered → s.loop.ring = .ok → due s.loop.ringTimer s.clock →
    (s.curtain.stageAlarm = false → answers .ringTimerExpiry s fun t =>
      sameBut [.receiver, .curtain, .attention] s t ∧
      t.loop = { s.loop with ring := .broken, ringTimer := none, k7 := false } ∧
      t.curtain = { s.curtain with ring := .broken } ∧ isRaised .ringOpen t) ∧
    (s.curtain.stageAlarm = true → s.curtain.ring = .ok → s.curtain.state ≠ .atFloor → s.curtain.state ≠ .released →
      lineReading s 1 ≠ .active → answers .ringTimerExpiry s fun t =>
        sameBut (curtainParts ++ [.receiver]) s t ∧ t.loop.ring = .broken ∧ t.loop.k7 = false ∧
        t.curtain.state = .released ∧ t.curtain.mode = .emergency ∧ t.curtain.k5 = true)

/-! ## Show clock and contact lines -/

/-- The show clock and the prescaler advance by one millisecond; a wrap counts the countdown of the phase down by one second
and announces it, and in HELD it sets the hold-pending second. -/
def Obligations.ClockCountsDown : Prop :=
  (∀ s : State, s.powered →
    exec .showClockAdvance s = .next
      { s with
        clock := s.clock + 1
        phase := if s.phase.prescaler < 999 then { s.phase with prescaler := s.phase.prescaler + 1 }
          else { s.phase with prescaler := 0, wrapDue := true } }) ∧
  (∀ s : State, s.powered → s.phase.wrapDue →
    ((s.phase.phase = .preshow ∨ s.phase.phase = .houseOpen) → 0 < s.phase.curtainUp →
      answers .prescalerWrap s fun t =>
        sameBut phaseParts s t ∧
        t.phase.record = { s.phase.record with curtainUp := s.phase.curtainUp - 1, wrapDue := false } ∧
        ∀ id e, callEntry s id = some e → e.defn.anchor = some .curtainUp → e.defn.offset = s.phase.curtainUp - 1 →
          (callEntry t id).any CallEntry.fired) ∧
    (s.phase.phase = .interval → 0 < s.phase.intervalLeft →
      answers .prescalerWrap s fun t =>
        sameBut phaseParts s t ∧
        t.phase.record = { s.phase.record with intervalLeft := s.phase.intervalLeft - 1, wrapDue := false } ∧
        ∀ id e, callEntry s id = some e → e.defn.anchor = some .intervalEnd →
          e.defn.offset = s.phase.intervalLeft - 1 → (callEntry t id).any CallEntry.fired) ∧
    (s.phase.phase = .held →
      exec .prescalerWrap s = .next (s.onPhase fun p => { p with holdPending := true, wrapDue := false }))) ∧
  ∀ s : State, s.powered → s.phase.wrapDue →
    (((s.phase.phase = .preshow ∨ s.phase.phase = .houseOpen) ∧ s.phase.curtainUp = 0) ∨
      (s.phase.phase = .interval ∧ s.phase.intervalLeft = 0) ∨ s.phase.phase = .closed ∨ s.phase.phase = .running ∨
      s.phase.phase = .egress ∨ s.phase.phase = .evacuating) →
    exec .prescalerWrap s = .next (s.onPhase fun p => { p with wrapDue := false })

/-- The persistence filter: a state other than the accepted one is accepted at exactly its Fth consecutive sample, not before; a
sample of the accepted state, or of a third state, starts the count again. The row CONTACT_ACCEPTANCE delivers the sample that
completes the candidate's persistence, and nothing before it (log entry 7). -/
def Obligations.SamplesFilterByPersistence : Prop :=
  ∀ (s : State) (line : Nat) (l : Line) (x : LineState), s.powered → s.lines[line]? = some l →
    (l.candidate = some x → x ≠ l.accepted → persistenceOf s line ≤ l.count + 1 →
      exec (.contactAcceptance line) s = exec (.contactSample line x) s) ∧
    ((l.candidate = none ∨ l.count + 1 < persistenceOf s line) → exec (.contactAcceptance line) s = .next s) ∧
    (∀ n, x ≠ l.accepted → l.candidate = none → 1 ≤ n → n < persistenceOf s line → persistenceOf s line ≤ 15 →
      run (List.replicate n (.contactSample line x)) s =
        some (s.onLines fun lines => lines.setIfInBounds line { l with candidate := some x, count := n })) ∧
    (x ≠ l.accepted → l.candidate = none → 1 ≤ persistenceOf s line → persistenceOf s line ≤ 15 →
      ∃ t accepted, run (List.replicate (persistenceOf s line) (.contactSample line x)) s = some t ∧
        t.lines = s.lines.setIfInBounds line accepted ∧ accepted.accepted = x ∧ accepted.candidate = none ∧
        accepted.count = 0 ∧ t.clock = s.clock) ∧
    (exec (.contactSample line l.accepted) s =
      .next (s.onLines fun lines => lines.setIfInBounds line { l with candidate := none, count := 0 })) ∧
    (x ≠ l.accepted → l.candidate ≠ some x → 1 < persistenceOf s line →
      exec (.contactSample line x) s =
        .next (s.onLines fun lines => lines.setIfInBounds line { l with candidate := some x, count := 1 }))

/-- The sample that completes its persistence is accepted: the accepted state, the capture of a selected edge at the sample's
reading and the reading of R33 are stored, its CONTACT entry is appended and CONTACT_FAULT is set in a fault state; the reading
is then handed to the line's owner. C0 moves PANEL by its table. The limit lines C1 and C2 move the curtain by state: arrivals
at rest, disagreements, a limit left and a faulted limit, with what each makes of a demonstration, PASSED at the top among
them. C3 stops a descent that is no emergency descent. C5 sets show stop, C6 holds and releases the house, with their entries,
and C7 starts and stops the flow timer. C4 changes nothing more. That FAULT on a standing FAULT of that cause is no change,
that a fault in IN stays FAULT under the stage alarm, the reason of a demonstration that a fault ends, the state bytes of the
EDGE entry, and the countdown in the HOLD END entry are the model's reading (log entries 32, 22, 24, 15 and 13). -/
def Obligations.AcceptanceStoresReading : Prop :=
  ∀ (s : State) (line : Nat) (l : Line) (x : LineState), s.powered → s.lines[line]? = some l → x ≠ l.accepted →
    persistenceOf s line ≤ (if l.candidate = some x then l.count + 1 else 1) →
    let reading : Reading :=
      match x with
      | .normal => .normal
      | .active => .active
      | .opened | .shorted =>
        if line ≤ 2 then .fault else if line = 3 then .active else if line = 5 ∨ line = 6 then l.reading else .normal
    let edge : Option Edge :=
      match l.accepted, x with
      | .normal, .active => if edgesOf s line = .deactivate then none else some .activate
      | .active, .normal => if edgesOf s line = .activate then none else some .deactivate
      | _, _ => none
    let accepted : Line :=
      { accepted := x, candidate := none, count := 0, reading := reading
        capture := match edge with
          | some e => some { time := s.clock, edge := e }
          | none => l.capture }
    let contact : List ReportEntry :=
      if edge.isSome ∨ faultState x ∨ faultState l.accepted then
        [entryNow s .contact [byte line, byte (lineCode x), byte (lineCode l.accepted)]] else []
    let own : Curtain := s.curtain
    let phaseEntry (new : Phase) (showStop : Bool) : ReportEntry :=
      entryNow s .phase [byte new.code, byte s.phase.phase.code, byte s.phase.act, 2, flagByte showStop]
    let edgeEntry (new : Byte) : ReportEntry :=
      entryNow s .curtain ([2, new, own.code, if own.mode = .emergency then 2 else 0] ++ bytes2 own.position)
    let fails (reason : DemoReason) (t : State) : Prop :=
      s.phase.demoStatus.inProgress →
        t.phase.demoStatus = .failed reason ∧ isRaised .demoResult t ∧ t.curtain.sequence.dwellTimer = none ∧
        (roomFor 4 s → gains
          (entryNow s .demo ([5, byte reason.code] ++ bytes2 s.phase.demoTime ++ [own.sequence.markByte])) s t)
    -- Nothing but the line, its entry and CONTACT_FAULT.
    let still (t : State) : Prop :=
      sameBut [.lines, .report, .attention] s t ∧
      isRaised .contactFault t = (isRaised .contactFault s || faultState x) ∧
      (roomFor 1 s → t.phase.report = s.phase.report ++ contact)
    -- The curtain comes to rest in a state, with its CURTAIN entry and the DRIVE frame of STOP.
    let rests (state : CurtainState) (cause : Option FaultCause) (t : State) : Prop :=
      sameBut ([.lines] ++ curtainParts) s t ∧ t.curtain.state = state ∧ t.curtain.cause = cause ∧
      t.curtain.mode = .normal ∧ t.curtain.pending = none ∧ t.curtain.deadTimer = none ∧ t.curtain.raiseTimer = none ∧
      t.curtain.repeatTimer = none ∧ t.curtain.descentStart = none ∧ t.curtain.position = own.position ∧
      (roomFor 2 s → gains
        (entryNow s .curtain ([0, byte (curtainCode state cause), own.code, 0] ++ bytes2 own.position)) s t) ∧
      (s.numbered → quietQueue s → own.flags.localControl = false → s.command.profile.driveNode ≠ 0 →
        s.command.profile.driveNode ≤ 126 →
        t.loop.origin.head? = some (queued s kindDrive (byte s.command.profile.driveNode) [0, 0] true))
    let faults (cause : FaultCause) (t : State) : Prop :=
      ((own.stageAlarm = false ∨ own.state = .atFloor) →
        rests .fault (some cause) t ∧ isRaised .curtainFault t ∧ fails .fault t) ∧
      (own.stageAlarm = true → own.state ≠ .atFloor → (if line = 1 then reading else lineReading s 1) ≠ .active →
        sameBut ([.lines] ++ curtainParts) s t ∧ t.curtain.state = .released ∧ t.curtain.cause = some cause ∧
        t.curtain.k5 = true ∧ isRaised .curtainFault t ∧ fails .fault t)
    let limitFault (cause : FaultCause) (t : State) : Prop :=
      ((own.state = .released ∨ own.state = .unknown ∨ (own.state = .fault ∧ own.cause = some cause)) → still t) ∧
      (own.state ≠ .released → own.state ≠ .unknown → ¬ (own.state = .fault ∧ own.cause = some cause) → faults cause t)
    ∀ c : Instr, (c = .contactSample line x ∨ (c = .contactAcceptance line ∧ l.candidate = some x)) → answers c s fun t =>
      t.lines = s.lines.setIfInBounds line accepted ∧
      sameBut ([.lines] ++ alarmParts) s t ∧ (faultState x → isRaised .contactFault t) ∧
      (line = 1 ∨ line = 2 ∨ line = 3 → roomFor 8 s → (s.phase.report ++ contact).isPrefixOf t.phase.report) ∧
      (line = 0 →
        let panel := s.zones.panel
        let condition : Condition := if reading = .normal then .clear else if reading = .active then .alarm else .fault
        let next : ZoneState :=
          if panel.state = .confirmed then .confirmed
          else if reading = .normal then .normal else if reading = .active then .confirmed else .faultReported
        let entry : ReportEntry := entryNow s .zone [48, byte next.code, byte panel.state.code, 4]
        t.zones.panel = { state := next, last := condition } ∧
        (next ≠ panel.state → roomFor 2 s → gains entry s t) ∧
        (next = .faultReported → panel.state ≠ .faultReported → panel.state ≠ .faultStale → isRaised .zoneFault t) ∧
        (panel.state = .confirmed → reading = .fault → panel.last ≠ .fault →
          isRaised .zoneFault t ∧ (roomFor 2 s → gains entry s t)) ∧
        (next = .confirmed → panel.state ≠ .confirmed → recordDerived s →
          t.zones.alarm.confirmed.contains 48 ∧ t.zones.alarm.stage = true ∧ t.zones.alarm.house = true ∧
          t.zones.alarm.front = true ∧ t.curtain.k6 = true ∧ t.lights.k4 = true ∧ isRaised .alarmChange t ∧
          (∀ w, windowOpen t w = false) ∧
          (s.zones.alarm.confirmed = [] → s.phase.phase ≠ .closed → t.phase.phase = .evacuating)) ∧
        (next = panel.state → (panel.state = .confirmed → reading = .fault → panel.last = .fault) → recordDerived s →
          windowsClosedInAlarm s →
          sameBut [.lines, .report, .attention, .zones] s t ∧
          t.zones = { s.zones with panel := { state := next, last := condition } } ∧
          (roomFor 1 s → t.phase.report = s.phase.report ++ contact))) ∧
      (line = 1 →
        (reading = .active → l.reading ≠ .active →
          ((own.state = .stopped ∨ own.state = .deadTime) → rests .atFloor none t ∧ t.phase.record = s.phase.record) ∧
          -- A descent that is not measured; the measured one stands in FloorArrivalMeasuresDescent.
          ((own.state = .lowering ∨ own.state = .released) → own.descentStart = none → s.phase.demoStatus ≠ .lowering →
            rests .atFloor none t ∧ t.phase.record = s.phase.record ∧ t.curtain.lastDescent = own.lastDescent ∧
            t.curtain.floorCheck = true) ∧
          (own.state = .raising → own.stageAlarm = false → faults .positionDisagree t) ∧
          (own.state = .stored → own.stageAlarm = false →
            faults (if lineReading s 2 = .active then .limitConflict else .positionDisagree) t) ∧
          ((own.state = .atFloor ∨ own.state = .fault ∨ own.state = .unknown) → still t)) ∧
        (reading = .normal → l.reading = .active →
          (own.state = .atFloor → own.stageAlarm = false → rests .stopped none t ∧ fails .fault t) ∧
          (own.state ≠ .atFloor → still t)) ∧
        (reading = .fault → l.reading ≠ .fault → limitFault .inLine t) ∧
        ((reading = l.reading ∨ (reading = .normal ∧ l.reading = .fault)) → still t)) ∧
      (line = 2 →
        (reading = .active → l.reading ≠ .active →
          (own.state = .raising → own.stageAlarm = false →
            rests .stored none t ∧
            (s.phase.demoStatus = .raising →
              t.phase.record = { s.phase.record with demoStatus := .passed } ∧ isRaised .demoResult t ∧
              t.curtain.sequence.dwellTimer = none ∧
              (roomFor 4 s → gains
                (entryNow s .demo ([4, 0xFF] ++ bytes2 s.phase.demoTime ++ [own.sequence.markByte])) s t)) ∧
            (s.phase.demoStatus ≠ .raising → t.phase.record = s.phase.record)) ∧
          ((own.state = .stopped ∨ own.state = .deadTime) → own.stageAlarm = false →
            rests .stored none t ∧ t.phase.record = s.phase.record) ∧
          (own.state = .lowering → faults .positionDisagree t) ∧
          (own.state = .atFloor → faults (if lineReading s 1 = .active then .limitConflict else .positionDisagree) t) ∧
          ((own.state = .stored ∨ own.state = .released ∨ own.state = .fault ∨ own.state = .unknown) → still t)) ∧
        (reading = .normal → l.reading = .active →
          (own.state = .stored → own.stageAlarm = false → rests .stopped none t ∧ t.phase.record = s.phase.record) ∧
          (own.state ≠ .stored → still t)) ∧
        (reading = .fault → l.reading ≠ .fault → limitFault .outLine t) ∧
        ((reading = l.reading ∨ (reading = .normal ∧ l.reading = .fault)) → still t)) ∧
      (line = 3 →
        (reading = .active → l.reading ≠ .active → own.state = .lowering →
          (own.mode ≠ .emergency → own.stageAlarm = false →
            rests .stopped none t ∧ fails .obstructed t ∧ (roomFor 3 s → gains (edgeEntry 5) s t)) ∧
          (own.mode = .emergency →
            sameBut [.lines, .report, .attention] s t ∧
            (roomFor 2 s → t.phase.report = s.phase.report ++ contact ++ [edgeEntry own.code]))) ∧
        ((reading ≠ .active ∨ l.reading = .active ∨ own.state ≠ .lowering) → still t)) ∧
      (line = 4 → still t) ∧
      (line = 5 →
        (reading = .active → l.reading = .normal → s.phase.phase ≠ .closed → s.phase.showStop = false →
          sameBut ([.lines] ++ phaseParts) s t ∧ t.phase.record = { s.phase.record with showStop := true } ∧
          (roomFor 2 s → (s.phase.report ++ contact ++ [phaseEntry s.phase.phase true]).isPrefixOf t.phase.report) ∧
          noticed true t fun v => v.phase.showStop = true) ∧
        ((reading ≠ .active ∨ l.reading ≠ .normal ∨ s.phase.phase = .closed ∨ s.phase.showStop = true) → still t)) ∧
      (line = 6 →
        (reading = .active → l.reading = .normal →
          ((s.phase.phase = .preshow ∨ s.phase.phase = .houseOpen) →
            t.phase.record = { s.phase.record with phase := .held, heldFrom := some s.phase.phase } ∧
            (roomFor 3 s →
              (s.phase.report ++ contact ++ [phaseEntry .held s.phase.showStop,
                entryNow s .hold ([0] ++ bytes2 s.phase.curtainUp ++ [flagByte s.phase.holdPending])]).isPrefixOf
                t.phase.report) ∧
            noticed true t fun v => v.phase.phase = .held) ∧
          (s.phase.phase ≠ .preshow → s.phase.phase ≠ .houseOpen → still t)) ∧
        (reading = .normal → l.reading = .active →
          (∀ target, s.phase.phase = .held → s.phase.heldFrom = some target →
            (target = .preshow ∨ target = .houseOpen) →
            let left := if s.phase.holdPending then s.phase.curtainUp - 1 else s.phase.curtainUp
            t.phase.record =
              { s.phase.record with phase := target, heldFrom := none, holdPending := false, curtainUp := left } ∧
            (roomFor 2 s → (s.phase.report ++ contact ++ [phaseEntry target s.phase.showStop]).isPrefixOf t.phase.report) ∧
            -- Where the decrement of the pending second requests no scheduled call.
            ((∀ id e, callEntry s id = some e → ¬ (e.defn.anchor = some .curtainUp ∧ e.defn.offset = left)) →
              roomFor 3 s →
              (s.phase.report ++ contact ++ [phaseEntry target s.phase.showStop,
                entryNow s .hold ([1] ++ bytes2 left ++ [flagByte s.phase.holdPending])]).isPrefixOf t.phase.report) ∧
            (s.phase.holdPending = true → 0 < s.phase.curtainUp → ∀ id e, callEntry s id = some e →
              e.defn.anchor = some .curtainUp → e.defn.offset = left → (callEntry t id).any CallEntry.fired) ∧
            noticed true t fun v => v.phase.phase = target) ∧
          (s.phase.phase ≠ .held → still t)) ∧
        ((reading = l.reading ∨ l.reading = .fault) → still t)) ∧
      (line = 7 →
        sameBut [.lines, .curtain, .report, .attention] s t ∧
        (roomFor 1 s → t.phase.report = s.phase.report ++ contact) ∧
        t.curtain =
          { own with
            flowTimer :=
              if reading = .active ∧ l.reading ≠ .active then none
              else if reading ≠ .active ∧ l.reading = .active ∧ own.k6 = true then
                some { start := s.clock, length := s.command.profile.flowWait * 1000 }
              else own.flowTimer })

/-- In a descent driven by the part each POS feeds the estimator, stage by stage, a late run acts by the curtain's mode, and
the demonstration makes its checks. C1's acceptance as ACTIVE ends the descent: the iron is IN, its descent time is measured
from the descent start to the acceptance, and the release relay is off. A demonstration in its descent records that time and
is judged by it: FAILED by UNVERIFIED where no POS was seen, by its first mark, or by SLOW; otherwise in its dwell, whose
timer runs, and which a dwell of 0 ends at once. The state bytes of the ARRIVAL entry are the model's reading (log entry
15). -/
def Obligations.FloorArrivalMeasuresDescent : Prop :=
  (∀ (f : Frame) (c : Character) (s : State) (hi lo flags : Byte) (rest : List Byte) (start : Time),
    passingFrame f c s → f.kind = kindPos → f.source.toNat = s.command.profile.driveNode →
    f.payload = hi :: lo :: flags :: rest → flags.toNat % 16 / 4 = 0 → s.curtain.flags.localControl = false →
    s.curtain.rederive = false → s.curtain.floorCheck = false → s.curtain.state = .lowering →
    s.curtain.descentStart = some start → s.curtain.estimator.running = true →
    let p := s.command.profile
    let e := s.curtain.estimator
    let position := number2 hi lo
    let elapsed := min (s.clock - start).toNat 2147483647
    let speed : Int :=
      match e.refPosition, e.refTime with
      | some before, some time =>
        let dt := min (s.clock - time).toNat 2147483647
        if dt = 0 ∨ p.positionStale < dt then e.speed
        else
          let raw := max (-32768) (min 32767 (Int.tdiv (((before : Int) - position) * 16000) dt))
          max (-32768) (min 32767 (e.speed + Int.fdiv ((raw - e.speed) * p.filterWeight + 128) 256))
      | _, _ => e.speed
    let predicted : Nat :=
      if position = 0 then 0
      else if speed ≤ p.minSpeed then 65535
      else min 65535 (position * 16000 / speed.toNat)
    let isLate : Prop := p.startGrace ≤ elapsed ∧ p.descentLimit < elapsed + predicted
    let late : Nat :=
      if elapsed < p.startGrace then e.late
      else if p.descentLimit < elapsed + predicted then min 8 (e.late + 1)
      else 0
    let acts : Prop := isLate ∧ p.latePersistence ≤ late ∧ e.lateAction = false
    let watched : Prop := s.phase.demoStatus = .lowering ∧ s.curtain.mode = .demo
    let dark : Prop := ∃ g < 8, p.demoGroups.getLsbD g = true ∧ demonstrationFigure s g < p.houseMinimum
    passes f c s fun t =>
      sameBut curtainParts (huntWith 0 s) t ∧ t.curtain.position = position ∧ t.curtain.reportTime = some s.clock ∧
      t.curtain.stale = false ∧
      t.curtain.estimator.refPosition = some position ∧ t.curtain.estimator.refTime = some s.clock ∧
      t.curtain.estimator.speed = speed ∧ t.curtain.estimator.predicted = predicted ∧
      t.curtain.estimator.noProgress = (decide (position ≠ 0) && decide (speed ≤ p.minSpeed)) ∧
      t.curtain.estimator.late = late ∧
      (¬ acts → sameBut [.curtain] (huntWith 0 s) t ∧ t.curtain.state = .lowering ∧ t.curtain.mode = s.curtain.mode ∧
        t.curtain.emergencyTimer = none ∧ t.curtain.descentStart = some start ∧
        t.curtain.staleTimer = some { start := s.clock, length := p.positionStale } ∧
        t.curtain.estimator.lateAction =
          (e.lateAction && !(decide (p.startGrace ≤ elapsed) && decide (elapsed + predicted ≤ p.descentLimit))) ∧
        t.curtain.sequence =
          if watched then
            { s.curtain.sequence with
              posSeen := true
              houseDark := t.curtain.sequence.houseDark, first := t.curtain.sequence.first }
          else s.curtain.sequence) ∧
      (watched → t.curtain.sequence.posSeen = true) ∧
      (watched → dark → t.curtain.sequence.houseDark = true ∧ t.curtain.sequence.first.isSome) ∧
      (watched → ¬ dark → t.curtain.sequence.houseDark = s.curtain.sequence.houseDark) ∧
      (acts → s.curtain.mode ≠ .emergency →
        t.curtain.state = .lowering ∧ t.curtain.estimator.lateAction = true ∧
        (roomFor 1 s → t.phase.report = s.phase.report ++
          [entryNow s .curtain ([4, 3, 3, byte s.curtain.mode.code] ++ bytes2 position)]) ∧
        (watched → t.curtain.sequence.slow = true ∧ t.curtain.sequence.first.isSome ∧
          isRaised .curtainFault t = isRaised .curtainFault s) ∧
        (¬ watched → isRaised .curtainFault t ∧ t.curtain.sequence = s.curtain.sequence)) ∧
      (acts → s.curtain.mode = .emergency → lineReading s 1 ≠ .active →
        t.curtain.state = .released ∧ t.curtain.k5 = true ∧ isRaised .curtainFault t ∧
        t.curtain.estimator.lateAction = true ∧
        (roomFor 3 s → gains (entryNow s .curtain ([4, 7, 7, 2] ++ bytes2 position)) s t))) ∧
  ∀ (s : State) (l : Line) (start : Time), s.powered → s.lines[1]? = some l → l.accepted ≠ .active →
    persistenceOf s 1 ≤ (if l.candidate = some .active then l.count + 1 else 1) → l.reading ≠ .active →
    (s.curtain.state = .lowering ∨ s.curtain.state = .released) → s.curtain.descentStart = some start →
    ∀ c : Instr, (c = .contactSample 1 .active ∨ (c = .contactAcceptance 1 ∧ l.candidate = some .active)) →
    let descent := min 65535 (min (s.clock - start).toNat 2147483647)
    let arrival : ReportEntry := entryNow s .curtain
      ([1, 1, byte (if s.curtain.state = .released then 7 else 3), 0] ++ bytes2 descent)
    (s.phase.demoStatus ≠ .lowering → roomFor 3 s → answers c s fun t =>
      sameBut ([.lines] ++ ironParts) s t ∧ t.curtain.state = .atFloor ∧ t.curtain.mode = .normal ∧
      t.curtain.cause = none ∧ t.curtain.lastDescent = descent ∧
      t.curtain.descentStart = none ∧ t.curtain.k5 = false ∧ t.curtain.floorCheck = true ∧
      t.curtain.estimator.running = false ∧ gains arrival s t) ∧
    (s.phase.demoStatus = .lowering → answers c s fun t =>
      let sequence := s.curtain.sequence
      let dwell := s.command.profile.demoDwell
      let raises : Prop :=
        s.curtain.flags.localControl = false ∧ s.phase.phase ≠ .evacuating ∧ s.curtain.stageAlarm = false
      let status (status : DemoStatus) (state : CurtainState) : Prop :=
        t.phase.record = { s.phase.record with demoStatus := status, demoTime := descent } ∧ t.curtain.state = state
      let fails (reason : DemoReason) : Prop :=
        status (.failed reason) .atFloor ∧ isRaised .demoResult t ∧ t.curtain.sequence.dwellTimer = none ∧
        (roomFor 4 s → gains
          (entryNow s .demo ([5, byte reason.code] ++ bytes2 descent ++ [sequence.markByte])) s t)
      sameBut ([.lines] ++ curtainParts) s t ∧ t.curtain.lastDescent = descent ∧ t.curtain.descentStart = none ∧
      t.curtain.k5 = false ∧ t.curtain.floorCheck = true ∧ t.curtain.estimator.running = false ∧
      (roomFor 3 s → gains arrival s t) ∧
      (sequence.posSeen = false → fails .unverified) ∧
      (sequence.posSeen = true →
        (∀ mark, sequence.first = some mark → fails mark) ∧
        (sequence.first = none → s.command.profile.descentLimit < descent → fails .slow) ∧
        (sequence.first = none → descent ≤ s.command.profile.descentLimit →
          (1 ≤ dwell → status .dwell .atFloor ∧
            t.curtain.sequence = { sequence with dwellTimer := some { start := s.clock, length := dwell * 1000 } }) ∧
          (dwell = 0 → raises → status .raising .raising ∧ t.curtain.mode = .demo ∧
            t.curtain.sequence.dwellTimer = none) ∧
          (dwell = 0 → ¬ raises → fails .fault))))

/-! ## House lights -/

/-- A refresh check restarts its timer 100 ms on, and offers for each segment with due channels one LEVEL frame of up to 79
of them, in ascending order, at their output levels. -/
def Obligations.RefreshCheckOffersDueChannels : Prop :=
  ∀ s : State, s.powered → s.lights.refreshTimer.expired s.clock →
    let dueOf (segment : Nat) : List PolicyEntry :=
      s.lights.policy.filter fun e => decide (e.defn.segment = segment) && refreshDue s e
    let restarted := s.onLights fun l => { l with refreshTimer := { l.refreshTimer with start := l.refreshTimer.start + 100 } }
    ((∀ segment < 4, dueOf segment = []) → exec .refreshCheck s = .next restarted) ∧
    (s.numbered → quietQueue s →
      exec .refreshCheck s = .next (restarted.onLoop fun l =>
        { l with origin := (List.range 4).filterMap fun segment =>
            match dueOf segment with
            | [] => none
            | entries => some (queued s kindLevel allNodes
                (byte (16 + segment) :: (entries.take 79).flatMap fun e => bytes2 e.defn.channel ++ [outputLevel s e])
                (overrideActive s)) }))

/-- A silence expiry makes its channel silent; when it was the last speaking channel of a group that the console owns, the
part takes the group at its highest last console level and sets CONSOLE_SILENT. -/
def Obligations.SilenceExpiryTakesGroupBack : Prop :=
  ∀ (s : State) (segment channel : Nat) (e : PolicyEntry), s.powered → findPolicy s segment channel = some e →
    due e.silence s.clock →
    let silenced := s.onLights fun l =>
      { l with policy := l.policy.map fun e => if e.defn.hasKey segment channel then { e with silence := none } else e }
    (e.defn.role ≠ .house → exec (.silenceTimerExpiry segment channel) s = .next silenced) ∧
    ∀ group, e.defn.role = .house → s.lights.groups[e.defn.group.toNat]? = some group →
      ((group.owner = .part ∨ (groupEntries silenced e.defn.group.toNat).any (fun e => !e.silent)) →
        exec (.silenceTimerExpiry segment channel) s = .next silenced) ∧
      (group.owner = .console → (groupEntries silenced e.defn.group.toNat).all PolicyEntry.silent →
        answers (.silenceTimerExpiry segment channel) s fun t =>
          sameBut [.lights, .attention] s t ∧ t.lights.policy = silenced.lights.policy ∧ isRaised .consoleSilent t ∧
          t.lights.groups = s.lights.groups.setIfInBounds e.defn.group.toNat
            { level := 257 * highest ((groupEntries s e.defn.group.toNat).map fun e => e.lastLevel.toNat)
              owner := .part, fade := none, stepTimer := none })

/-- HFAD sets a group's level at once or starts a fade of four steps in each 0.1 s; each fade step moves the level to
L0 + trunc((T − L0) × i / n), and the last one to the target. A group that CONSOLE owns refuses HFAD. -/
def Obligations.FadesMoveGroupLevel : Prop :=
  (∀ (h : CommandHeader) (s : State) (g : Byte) (group : Group) (level time : BitVec 16), accepted h s →
    s.lights.groups[g.toNat]? = some group →
    (group.owner = .console → time.toNat ≤ 36000 → onlyReplies (.hfad h g level time) h 0x38 .refusedState s) ∧
    (36000 < time.toNat → onlyReplies (.hfad h g level time) h 0x38 .refusedRange s) ∧
    (group.owner = .part → time.toNat ≤ 36000 →
      replies (.hfad h g level time) h 0x38 (.plain .done) s fun u =>
        u = (begin 0x38 h s).onLights fun l =>
          { l with
            groups := l.groups.setIfInBounds g.toNat
              (if time = 0 then { group with level := level.toNat, fade := none, stepTimer := none }
              else
                { group with
                  fade := some { start := group.level, target := level.toNat, steps := 4 * time.toNat, index := 0 }
                  stepTimer := some { start := s.clock, length := 25 } }) })) ∧
  ∀ (s : State) (g : Nat) (group : Group) (fade : Fade), s.powered → s.lights.groups[g]? = some group →
    group.fade = some fade → due group.stepTimer s.clock →
    exec (.fadeStep g) s = .next (s.onLights fun l =>
      { l with
        groups := l.groups.setIfInBounds g
          (if fade.index + 1 < fade.steps then
            { group with
              level := ((fade.start : Int) +
                Int.tdiv (((fade.target : Int) - fade.start) * (fade.index + 1)) fade.steps).toNat
              fade := some { fade with index := fade.index + 1 }
              stepTimer := some { start := s.clock, length := 25 } }
          else { group with level := fade.target, fade := none, stepTimer := none }) })

/-- HREL hands a group to the console, unless every channel of it is silent, and HTAK takes it at 257 times its highest last
console level. -/
def Obligations.GroupsChangeOwner : Prop :=
  ∀ (h : CommandHeader) (s : State) (g : Byte), accepted h s →
    (7 < g.toNat → onlyReplies (.hrel h g) h 0x39 .refusedRange s ∧ onlyReplies (.htak h g) h 0x3A .refusedRange s) ∧
    ∀ group, s.lights.groups[g.toNat]? = some group →
      (group.owner = .console → onlyReplies (.hrel h g) h 0x39 .done s) ∧
      (group.owner = .part → onlyReplies (.htak h g) h 0x3A .done s) ∧
      (group.owner = .part → groupEntries s g.toNat ≠ [] → (groupEntries s g.toNat).all PolicyEntry.silent →
        onlyReplies (.hrel h g) h 0x39 .refusedState s) ∧
      (group.owner = .part → (groupEntries s g.toNat = [] ∨ (groupEntries s g.toNat).any fun e => !e.silent) →
        replies (.hrel h g) h 0x39 (.plain .done) s fun u =>
          u = (begin 0x39 h s).onLights fun l =>
            { l with
              groups := l.groups.setIfInBounds g.toNat
                { group with owner := .console, fade := none, stepTimer := none } }) ∧
      (group.owner = .console →
        replies (.htak h g) h 0x3A (.plain .done) s fun u =>
          u = (begin 0x3A h s).onLights fun l =>
            { l with
              groups := l.groups.setIfInBounds g.toNat
                { level := 257 * highest ((groupEntries s g.toNat).map fun e => e.lastLevel.toNat)
                  owner := .part, fade := none, stepTimer := none } })

/-! ## Zones and windows -/

/-- The report of a ZONE frame stores its condition and its time and takes the zone by the table of reports, with its
coincidences, each pair as one step; an unknown zone sets UNKNOWN_ZONE alone. The expiry of a zone's verification timer
confirms it: it joins the confirmed set, every window closes, ALARM_CHANGE is set, the override drives K4, and a performance is
evacuated. The expiry of its staleness timer sets its stale mark, and takes a zone in NORMAL or PREALARM to FAULT(STALE) with
ZONE_FAULT. -/
def Obligations.ZoneTimersConfirmAndFault : Prop :=
  (∀ (f : Frame) (c : Character) (s : State), passingFrame f c s → f.kind = kindZone →
    ((f.payload.length = 0 ∨ f.payload.length % 2 = 1 ∨ 48 < f.payload.length) → passes f c s fun t => t = huntWith 0 s) ∧
    (∀ first second, f.payload = first ++ second → first.length % 2 = 0 → second.length % 2 = 0 → first ≠ [] →
      second ≠ [] → f.payload.length ≤ 48 →
      passes f c s fun t => t = takeZoneFrame second (takeZoneFrame first (huntWith 0 s))) ∧
    ∀ z code : Byte, f.payload = [z, code] → recordDerived s → windowsClosedInAlarm s →
      (zoneAt s z.toNat = none → passes f c s fun t =>
        sameBut [.attention] (huntWith 0 s) t ∧ isRaised .unknownZone t) ∧
      ∀ zone, zoneAt s z.toNat = some zone →
        let condition : Condition := if code = 0 then .clear else if code = 1 then .prealarm else if code = 2 then .alarm else .fault
        let alarmed : ZoneState :=
          if covered s z.toNat then .masked else if zone.defn.verification = 0 then .confirmed else .verifying
        let next : ZoneState :=
          match zone.state, condition with
          | .confirmed, _ => .confirmed
          | .isolated, _ => .isolated
          | .masked, .fault => .faultReported
          | .masked, _ => .masked
          | .verifying, .alarm => .verifying
          | _, .clear => .normal
          | _, .prealarm => .prealarm
          | _, .alarm => alarmed
          | _, .fault => .faultReported
        let timed : Option Timer := some { start := s.clock, length := zone.defn.verification * 100 }
        let entry (zone : Nat) (new old : ZoneState) (cause : Byte) : ReportEntry :=
          entryNow s .zone [byte zone, byte new.code, byte old.code, cause]
        ((∀ other, linked s z.toNat other = false) → zoneTimersRun s → passes f c s fun t =>
          sameBut alarmParts (huntWith 0 s) t ∧
          zoneAt t z.toNat = some
            { zone with
              state := next, last := condition, lastReport := s.clock, stale := false
              verifyTimer :=
                if next = .verifying then (if zone.state = .verifying then zone.verifyTimer else timed) else none
              staleTimer := some { start := s.clock, length := s.command.profile.zoneReportLimit * 1000 } } ∧
          (next ≠ zone.state → roomFor 1 s → gains (entry z.toNat next zone.state 0) s t) ∧
          (next = zone.state → (next = .confirmed → condition = .fault → zone.last = .fault) →
            sameBut [.zones] (huntWith 0 s) t) ∧
          (next = .confirmed → zone.state = .confirmed → condition = .fault → zone.last ≠ .fault → roomFor 1 s →
            isRaised .zoneFault t ∧ gains (entry z.toNat .confirmed .confirmed 0) s t) ∧
          (next = .faultReported → zone.state ≠ .faultReported → zone.state ≠ .faultStale → isRaised .zoneFault t) ∧
          (next = .confirmed → zone.state ≠ .confirmed → t.zones.alarm.confirmed.contains z.toNat ∧ isRaised .alarmChange t)) ∧
        (∀ p, zone.state ≠ .verifying → next = .verifying → linked s z.toNat p → zoneIs s p .masked → roomFor 48 s →
          passes f c s fun t =>
            sameBut alarmParts (huntWith 0 s) t ∧ zoneIs t z.toNat .verifying ∧ zoneIs t p .confirmed ∧
            gains (entry z.toNat .verifying zone.state 0) s t ∧ gains (entry p .confirmed .masked 2) s t) ∧
        (∀ p, zone.state ≠ .masked → next = .masked → linked s z.toNat p → zoneIs s p .verifying → roomFor 48 s →
          passes f c s fun t =>
            sameBut alarmParts (huntWith 0 s) t ∧ zoneIs t z.toNat .confirmed ∧
            gains (entry z.toNat .masked zone.state 0) s t ∧ gains (entry z.toNat .confirmed .masked 2) s t)) ∧
  (∀ (s : State) (z : Nat) (zone : Zone), s.powered → zoneAt s z = some zone → zone.state = .verifying →
    due zone.verifyTimer s.clock → recordDerived s → roomFor 1 s →
    answers (.verificationExpiry z) s fun t =>
      sameBut alarmParts s t ∧ zoneIs t z .confirmed ∧ t.zones.alarm.confirmed.contains z ∧
      (∀ w, windowOpen t w = false) ∧ isRaised .alarmChange t ∧ t.lights.k4 = true ∧ overrideActive t ∧
      gains (entryNow s .zone [byte z, 4, 2, 1]) s t ∧
      (s.zones.alarm.confirmed = [] → s.phase.phase ≠ .closed → t.phase.phase = .evacuating) ∧
      (s.phase.phase = .closed → t.phase.phase = .closed)) ∧
  ∀ (s : State) (z : Nat) (zone : Zone), s.powered → zoneAt s z = some zone → due zone.staleTimer s.clock →
    ((zone.state = .normal ∨ zone.state = .prealarm) → roomFor 1 s →
      answers (.stalenessExpiry z) s fun t =>
        sameBut alarmParts s t ∧
        (∃ after, zoneAt t z = some after ∧ after.state = .faultStale ∧ after.stale = true ∧ after.staleTimer = none ∧
          after.defn = zone.defn ∧ after.last = zone.last ∧ after.lastReport = zone.lastReport) ∧
        isRaised .zoneFault t ∧ gains (entryNow s .zone [byte z, 6, byte zone.state.code, 3]) s t) ∧
    (zone.state ≠ .normal → zone.state ≠ .prealarm → recordDerived s → windowsClosedInAlarm s →
      exec (.stalenessExpiry z) s = .next (s.onZones fun m =>
        { m with zones := m.zones.setIfInBounds z (some { zone with stale := true, staleTimer := none }) }))

/-- A window opens by WOPN for its definition's duration and only outside an alarm and EVACUATING; it closes by WCLS or at the
expiry of its timer, and a masked zone that no open window then holds is confirmed if it last reported ALARM. -/
def Obligations.WindowsOpenAndClose : Prop :=
  (∀ (h : CommandHeader) (s : State) (w : Byte) (window : Window) (d : WindowDef), accepted h s →
    s.zones.windows[w.toNat]? = some window → window.defn = some d →
    ((s.zones.alarm.confirmed ≠ [] ∨ s.phase.phase = .evacuating) →
      onlyReplies (.wopn h w) h 0x43 .refusedState s) ∧
    (s.zones.alarm.confirmed = [] → s.phase.phase ≠ .evacuating → recordDerived s →
      replies (.wopn h w) h 0x43 (.plain .done) s fun u =>
        sameBut [.zones, .report, .attention] (begin 0x43 h s) u ∧
        u.zones =
          { s.zones with
            windows := s.zones.windows.setIfInBounds w.toNat
              { window with isOpen := true, timer := some { start := s.clock, length := d.duration * 1000 } } } ∧
        (window.isOpen = false → roomFor 1 s →
          u.phase.report = s.phase.report ++ [entryNow s .zone [byte (64 + w.toNat), 9, 8, 5]]) ∧
        (window.isOpen = true → u.phase.report = s.phase.report))) ∧
  (∀ (h : CommandHeader) (s : State) (w : Byte), accepted h s → w.toNat ≤ 15 →
    (windowOpen s w.toNat = false → onlyReplies (.wcls h w) h 0x44 .done s) ∧
    (windowOpen s w.toNat = true → roomFor 1 s →
      replies (.wcls h w) h 0x44 (.plain .done) s fun u =>
        sameBut alarmParts (begin 0x44 h s) u ∧ windowOpen u w.toNat = false ∧
        gains (entryNow s .zone [byte (64 + w.toNat), 8, 9, 5]) s u ∧
        ∀ z zone, zoneAt s z = some zone → zone.state = .masked → zone.last = .alarm →
          (s.zones.windows[w.toNat]?).any (fun window => window.holds z) →
          (∀ v, v ≠ w.toNat → windowOpen s v → (s.zones.windows[v]?).any (fun window => window.holds z) = false) →
          zoneIs u z .confirmed)) ∧
  ∀ (s : State) (w : Nat) (window : Window), s.powered → s.zones.windows[w]? = some window → window.isOpen = true →
    due window.timer s.clock → roomFor 1 s →
    answers (.windowExpiry w) s fun t =>
      sameBut alarmParts s t ∧ (t.zones.windows[w]? = some { window with isOpen := false, timer := none }) ∧
      gains (entryNow s .zone [byte (64 + w), 8, 9, 8]) s t ∧
      ∀ z zone, zoneAt s z = some zone → zone.state = .masked → zone.last = .alarm → window.holds z →
        (∀ v, v ≠ w → windowOpen s v → (s.zones.windows[v]?).any (fun window => window.holds z) = false) →
        zoneIs t z .confirmed

/-- ZISO isolates a zone that is not CONFIRMED, ZRST restores it, and ARST resets a CONFIRMED zone whose last condition is
CLEAR: to NORMAL, or to FAULT(STALE) if its stale mark is set. That a refused ARST carries a count of 0 is inferred (log
entry 25). -/
def Obligations.ZonesAreIsolatedAndReset : Prop :=
  ∀ (h : CommandHeader) (s : State) (z : Byte) (zone : Zone), accepted h s → zoneAt s z.toNat = some zone →
    (zone.state = .confirmed → onlyReplies (.ziso h z) h 0x40 .refusedState s) ∧
    (zone.state = .isolated → onlyReplies (.ziso h z) h 0x40 .done s) ∧
    (zone.state ≠ .confirmed → zone.state ≠ .isolated → roomFor 1 s →
      replies (.ziso h z) h 0x40 (.plain .done) s fun u =>
        sameBut alarmParts (begin 0x40 h s) u ∧
        zoneAt u z.toNat = some { zone with state := .isolated, verifyTimer := none } ∧
        gains (entryNow s .zone [z, 7, byte zone.state.code, 5]) s u) ∧
    (zone.state ≠ .isolated → onlyReplies (.zrst h z) h 0x41 .refusedState s) ∧
    (zone.state = .isolated → roomFor 1 s →
      replies (.zrst h z) h 0x41 (.plain .done) s fun u =>
        sameBut alarmParts (begin 0x41 h s) u ∧
        zoneAt u z.toNat =
          some { zone with state := if zone.stale then .faultStale else .normal, verifyTimer := none } ∧
        gains (entryNow s .zone [z, if zone.stale then 6 else 0, 7, 5]) s u) ∧
    (zone.state = .confirmed → zone.last = .clear → roomFor 1 s →
      replies (.arst h z) h 0x42 { result := .done, data := [1] } s fun u =>
        sameBut alarmParts (begin 0x42 h s) u ∧
        zoneAt u z.toNat =
          some { zone with state := if zone.stale then .faultStale else .normal, verifyTimer := none } ∧
        gains (entryNow s .zone [z, if zone.stale then 6 else 0, 4, 5]) s u) ∧
    (zone.state = .confirmed → zone.last ≠ .clear →
      exec (.arst h z) s = .next (replied h 0x42 { result := .refusedState, data := [0] } (begin 0x42 h s)))

/-- A stage-side zone that is confirmed with no stage-side alarm before it: K6 and K4 are energised, an iron that is OUT or
STOPPED is lowered in EMERGENCY mode by a healthy drive, and one that cannot be driven down is released. Where C1 already
reads ACTIVE the release arrives at once: a demonstration in its descent takes that arrival, its descent time measured and
judged, and every demonstration in progress then fails with ALARM (that the alarm's result also follows a judged failure is
log entry 24). -/
def Obligations.StageAlarmBringsIronDown : Prop :=
  ∀ (s : State) (z : Nat) (zone : Zone), s.powered → recordDerived s → s.zones.alarm.stage = false →
    zoneAt s z = some zone → zone.defn.side = .stage → zone.state = .verifying → due zone.verifyTimer s.clock →
    -- The step changes no other zone and closes no window.
    let quietZones : Prop :=
      (∀ other, linked s z other = false) ∧ (∀ other, zoneIs s other .masked = false) ∧ ∀ w, windowOpen s w = false
    let judged (descent : Nat) : Option DemoReason :=
      if s.curtain.sequence.posSeen = false then some .unverified
      else if s.curtain.sequence.first.isSome then s.curtain.sequence.first
      else if s.command.profile.descentLimit < descent then some .slow
      else if s.command.profile.demoDwell = 0 then some .fault
      else none
    let result (reason : DemoReason) (descent : Nat) : ReportEntry :=
      entryNow s .demo ([5, byte reason.code] ++ bytes2 descent ++ [s.curtain.sequence.markByte])
    answers (.verificationExpiry z) s fun t =>
      sameBut alarmParts s t ∧ t.zones.alarm.stage = true ∧ t.curtain.stageAlarm = true ∧ t.curtain.k6 = true ∧
      t.lights.k4 = true ∧
      ((s.curtain.state = .stored ∨ s.curtain.state = .stopped) → s.curtain.ring = .ok →
        s.curtain.flags.localControl = false → t.curtain.state = .lowering ∧ t.curtain.mode = .emergency ∧
          t.curtain.descentStart = some s.clock) ∧
      ((s.curtain.ring = .broken ∨ s.curtain.flags.localControl = true ∨ s.curtain.state = .fault ∨
          s.curtain.state = .unknown) →
        s.curtain.state ≠ .atFloor → s.curtain.state ≠ .released → lineReading s 1 ≠ .active →
        t.curtain.state = .released ∧ t.curtain.k5 = true) ∧
      ((s.curtain.ring = .broken ∨ s.curtain.flags.localControl = true ∨ s.curtain.state = .fault ∨
          s.curtain.state = .unknown) →
        s.curtain.state ≠ .atFloor → s.curtain.state ≠ .released → lineReading s 1 = .active →
        t.curtain.state = .atFloor ∧ t.curtain.k5 = false ∧ t.curtain.floorCheck = true ∧
        t.curtain.lastDescent =
          min 65535 (min (s.clock - s.curtain.descentStart.getD s.clock).toNat 2147483647) ∧
        (s.phase.demoStatus = .lowering →
          t.phase.demoTime = t.curtain.lastDescent ∧
          (quietZones → roomFor 20 s → ∀ reason, judged t.curtain.lastDescent = some reason →
            gains (result reason t.phase.demoTime) s t))) ∧
      (s.phase.demoStatus.inProgress = true → s.zones.alarm.confirmed = [] →
        t.phase.demoStatus = .failed .alarm ∧ isRaised .demoResult t ∧ t.curtain.sequence.dwellTimer = none ∧
        (quietZones → roomFor 20 s → gains (result .alarm t.phase.demoTime) s t)) ∧
      (s.curtain.state = .atFloor → t.curtain.state = .atFloor)

/-! ## The safety curtain -/

/-- CLWR lowers an iron that is OUT or STOPPED, and CRSE raises one that is IN or STOPPED, each under its conditions; the
change is reported, driven by an urgent DRIVE frame, and announced. A request against the movement goes through DEAD_TIME and
ends a demonstration, and one in DEAD_TIME changes the pending direction. A lowering seeds the estimator; that its no-progress
mark is computed with the prediction then is the model's choice (log entry 48). -/
def Obligations.CurtainLowersAndRaises : Prop :=
  ∀ (h : CommandHeader) (s : State), accepted h s →
    let emergency : Prop := s.curtain.pending = some .lower ∧ s.curtain.mode = .emergency
    let raisable : Prop := s.phase.phase ≠ .evacuating ∧ s.curtain.stageAlarm = false ∧ lineReading s 4 = .active
    let reverses (c : Instr) (code : Byte) (pending : Pending) (previous : Byte) : Prop :=
      replies c h code (.plain .done) s fun u =>
        sameBut curtainParts (begin code h s) u ∧ u.curtain.state = .deadTime ∧ u.curtain.mode = .normal ∧
        u.curtain.pending = some pending ∧ u.curtain.raiseTimer = none ∧ u.curtain.repeatTimer = none ∧
        (pending = .raise → u.curtain.descentStart = none) ∧
        u.curtain.deadTimer = some { start := s.clock, length := s.command.profile.deadTime } ∧
        (roomFor 1 s → gains (entryNow s .curtain ([0, 6, previous, 0] ++ bytes2 s.curtain.position)) s u) ∧
        (s.phase.demoStatus.inProgress = false → sameBut ironParts (begin code h s) u) ∧
        (s.phase.demoStatus.inProgress = true →
          u.phase.record = { s.phase.record with demoStatus := .failed .stopped } ∧ isRaised .demoResult u ∧
          u.curtain.sequence.dwellTimer = none)
    let turns (c : Instr) (code : Byte) (pending : Pending) : Prop :=
      (s.curtain.mode = .normal → replies c h code (.plain .done) s fun u =>
        u = (begin code h s).onCurtain fun c => { c with pending := some pending }) ∧
      (s.curtain.mode ≠ .normal → replies c h code (.plain .done) s fun u =>
        sameBut ironParts (begin code h s) u ∧ u.curtain.state = .deadTime ∧ u.curtain.mode = .normal ∧
        u.curtain.pending = some pending ∧ u.curtain.deadTimer = s.curtain.deadTimer ∧
        (roomFor 1 s → u.phase.report = s.phase.report ++
          [entryNow s .curtain ([0, 6, 6, 0] ++ bytes2 s.curtain.position)]) ∧
        (quietQueue s → s.command.profile.driveNode ≠ 0 → s.command.profile.driveNode ≤ 126 →
          u.loop.origin.head? = some (queued s kindDrive (byte s.command.profile.driveNode) [0, 0] true)))
    (s.curtain.flags.localControl = true →
      onlyReplies (.clwr h) h 0x30 .refusedLocal s ∧ onlyReplies (.crse h) h 0x31 .refusedLocal s) ∧
    (s.curtain.flags.localControl = false →
      ((s.curtain.state = .atFloor ∨ s.curtain.state = .lowering ∨ s.curtain.state = .released) →
        onlyReplies (.clwr h) h 0x30 .done s) ∧
      ((s.curtain.state = .unknown ∨ s.curtain.state = .fault) → onlyReplies (.clwr h) h 0x30 .refusedState s) ∧
      ((s.curtain.state = .stored ∨ s.curtain.state = .stopped ∨ s.curtain.state = .raising ∨
          (s.curtain.state = .deadTime ∧ ¬ emergency)) → lineReading s 3 = .active →
        onlyReplies (.clwr h) h 0x30 .refusedState s) ∧
      ((s.curtain.state = .stored ∨ s.curtain.state = .stopped) → lineReading s 3 ≠ .active →
        replies (.clwr h) h 0x30 (.plain .done) s fun u =>
          sameBut ironParts (begin 0x30 h s) u ∧ u.curtain.state = .lowering ∧ u.curtain.mode = .normal ∧
          u.curtain.cause = none ∧ u.curtain.pending = none ∧ u.curtain.descentStart = some s.clock ∧
          u.curtain.floorCheck = false ∧ u.curtain.position = s.curtain.position ∧
          u.curtain.estimator = seeded s.command.profile s.curtain ∧
          u.curtain.repeatTimer = some { start := s.clock, length := 100 } ∧
          u.curtain.staleTimer = some { start := s.clock, length := s.command.profile.positionStale } ∧
          (roomFor 1 s → u.phase.report = s.phase.report ++
            [entryNow s .curtain ([0, 3, if s.curtain.state = .stored then 2 else 5, 0] ++ bytes2 s.curtain.position)]) ∧
          (quietQueue s → s.command.profile.driveNode ≠ 0 → s.command.profile.driveNode ≤ 126 →
            u.loop.origin.head? = some (queued s kindDrive (byte s.command.profile.driveNode) [1, 0] true)) ∧
          noticed true u fun v => v.curtain = u.curtain) ∧
      (s.curtain.state = .raising → lineReading s 3 ≠ .active → reverses (.clwr h) 0x30 .lower 4) ∧
      (s.curtain.state = .deadTime → emergency → onlyReplies (.clwr h) h 0x30 .done s) ∧
      (s.curtain.state = .deadTime → ¬ emergency → lineReading s 3 ≠ .active → turns (.clwr h) 0x30 .lower) ∧
      ((s.curtain.state = .fault ∨ s.curtain.state = .unknown ∨ s.curtain.state = .released ∨
          s.curtain.state = .stored ∨ s.curtain.state = .raising ∨
          (s.curtain.state = .lowering ∧ s.curtain.mode = .emergency) ∨ (s.curtain.state = .deadTime ∧ emergency) ∨
          ¬ raisable) →
        onlyReplies (.crse h) h 0x31 .refusedState s) ∧
      (s.curtain.state = .lowering → s.curtain.mode ≠ .emergency → raisable → s.phase.demoStatus ≠ .dwell →
        reverses (.crse h) 0x31 .raise 3) ∧
      (s.curtain.state = .deadTime → ¬ emergency → raisable → s.phase.demoStatus ≠ .dwell →
        turns (.crse h) 0x31 .raise) ∧
      ((s.curtain.state = .atFloor ∨ s.curtain.state = .stopped) → raisable →
        replies (.crse h) h 0x31 (.plain .done) s fun u =>
          sameBut curtainParts (begin 0x31 h s) u ∧ u.curtain.state = .raising ∧ u.curtain.mode = .normal ∧
          u.curtain.repeatTimer = some { start := s.clock, length := 100 } ∧
          u.curtain.raiseTimer = some { start := s.clock, length := s.command.profile.raiseLimit * 1000 } ∧
          u.phase.record = { s.phase.record with
            demoStatus := if s.phase.demoStatus = .dwell then .raising else s.phase.demoStatus } ∧
          (s.phase.demoStatus = .dwell → u.curtain.sequence.dwellTimer = none) ∧
          (roomFor 1 s → u.phase.report = s.phase.report ++
            [entryNow s .curtain ([0, 4, if s.curtain.state = .atFloor then 1 else 5, 0] ++ bytes2 s.curtain.position)]) ∧
          (quietQueue s → s.command.profile.driveNode ≠ 0 → s.command.profile.driveNode ≤ 126 →
            u.loop.origin.head? = some (queued s kindDrive (byte s.command.profile.driveNode) [2, 0] true))))

/-- CSTP stops a movement that is no emergency descent, and with it a demonstration; in DEAD_TIME it leaves no pending
direction. CCLR takes a FAULT to STOPPED with a derivation at the next POS. Local control refuses both. -/
def Obligations.CurtainStopsAndClears : Prop :=
  ∀ (h : CommandHeader) (s : State), accepted h s →
    let emergency : Prop := s.curtain.pending = some .lower ∧ s.curtain.mode = .emergency
    (s.curtain.flags.localControl = true →
      onlyReplies (.cstp h) h 0x32 .refusedLocal s ∧ onlyReplies (.cclr h) h 0x34 .refusedLocal s) ∧
    (s.curtain.flags.localControl = false →
      (((s.curtain.state = .lowering ∧ s.curtain.mode = .emergency) ∨ s.curtain.state = .unknown ∨
          s.curtain.state = .released ∨ s.curtain.state = .fault ∨ (s.curtain.state = .deadTime ∧ emergency)) →
        onlyReplies (.cstp h) h 0x32 .refusedState s) ∧
      ((s.curtain.state = .atFloor ∨ s.curtain.state = .stored ∨ s.curtain.state = .stopped) →
        onlyReplies (.cstp h) h 0x32 .done s) ∧
      (((s.curtain.state = .lowering ∧ s.curtain.mode ≠ .emergency) ∨ s.curtain.state = .raising) →
        s.curtain.stageAlarm = false →
        replies (.cstp h) h 0x32 (.plain .done) s fun u =>
          sameBut curtainParts (begin 0x32 h s) u ∧ u.curtain.state = .stopped ∧ u.curtain.mode = .normal ∧
          u.curtain.repeatTimer = none ∧ u.curtain.raiseTimer = none ∧ u.curtain.descentStart = none ∧
          u.curtain.estimator.running = false ∧
          (roomFor 1 s → gains (entryNow s .curtain
            ([0, 5, if s.curtain.state = .lowering then 3 else 4, 0] ++ bytes2 s.curtain.position)) s u) ∧
          (s.phase.demoStatus.inProgress = false →
            sameBut ironParts (begin 0x32 h s) u ∧
            (quietQueue s → s.command.profile.driveNode ≠ 0 → s.command.profile.driveNode ≤ 126 →
              u.loop.origin.head? = some (queued s kindDrive (byte s.command.profile.driveNode) [0, 0] true))) ∧
          (s.phase.demoStatus.inProgress = true →
            u.phase.record = { s.phase.record with demoStatus := .failed .stopped } ∧ isRaised .demoResult u)) ∧
      (s.curtain.state = .deadTime → s.curtain.mode = .normal →
        replies (.cstp h) h 0x32 (.plain .done) s fun u =>
          u = (begin 0x32 h s).onCurtain fun c => { c with pending := some .none }) ∧
      (s.curtain.state = .deadTime → ¬ emergency → s.curtain.mode ≠ .normal →
        replies (.cstp h) h 0x32 (.plain .done) s fun u =>
          sameBut ironParts (begin 0x32 h s) u ∧ u.curtain.state = .deadTime ∧ u.curtain.mode = .normal ∧
          u.curtain.pending = some .none ∧ u.curtain.deadTimer = s.curtain.deadTimer ∧
          (roomFor 1 s → u.phase.report = s.phase.report ++
            [entryNow s .curtain ([0, 6, 6, 0] ++ bytes2 s.curtain.position)])) ∧
      (s.curtain.state ≠ .fault → onlyReplies (.cclr h) h 0x34 .refusedState s) ∧
      (s.curtain.state = .fault → s.curtain.stageAlarm = false →
        replies (.cclr h) h 0x34 (.plain .done) s fun u =>
          sameBut ironParts (begin 0x34 h s) u ∧ u.curtain.state = .stopped ∧ u.curtain.cause = none ∧
          u.curtain.mode = .normal ∧ u.curtain.rederive = true ∧
          (roomFor 1 s → u.phase.report = s.phase.report ++
            [entryNow s .curtain
              ([0, 5, byte (curtainCode .fault s.curtain.cause), 0] ++ bytes2 s.curtain.position)])))

/-- DEMO starts the demonstration's descent where every one of its conditions holds, and is refused where one fails; at the end
of the dwell the demonstration raises the iron without the key, or fails with FAULT where the raise is refused. -/
def Obligations.DemonstrationStartsAndRaises : Prop :=
  (∀ (h : CommandHeader) (s : State), accepted h s →
    ((s.phase.phase ≠ .houseOpen ∨ s.phase.showStop = true ∨ s.zones.alarm.confirmed ≠ [] ∨ s.curtain.state ≠ .stored ∨
        s.curtain.flags.localControl = true ∨ lineReading s 3 = .active ∨ s.phase.demoStatus.inProgress = true ∨
        s.phase.demoStatus = .passed ∨ s.phase.demoStatus = .missed) →
      onlyReplies (.demo h) h 0x33 .refusedState s) ∧
    (s.phase.phase = .houseOpen → s.phase.showStop = false → s.zones.alarm.confirmed = [] → s.curtain.state = .stored →
      s.curtain.flags.localControl = false → lineReading s 3 ≠ .active →
      (s.phase.demoStatus = .notDone ∨ s.phase.demoStatus.reason.isSome) →
      replies (.demo h) h 0x33 (.plain .done) s fun u =>
        sameBut curtainParts (begin 0x33 h s) u ∧ u.curtain.state = .lowering ∧ u.curtain.mode = .demo ∧
        u.curtain.descentStart = some s.clock ∧ u.curtain.sequence = DemoSequence.initial ∧
        u.phase.record = { s.phase.record with demoStatus := .lowering } ∧
        (quietQueue s → s.command.profile.driveNode ≠ 0 → s.command.profile.driveNode ≤ 126 →
          u.loop.origin.head? = some (queued s kindDrive (byte s.command.profile.driveNode) [1, 1] true)))) ∧
  ∀ s : State, s.powered → s.phase.demoStatus = .dwell → due s.curtain.sequence.dwellTimer s.clock →
    s.curtain.state = .atFloor →
    (s.curtain.flags.localControl = false → s.phase.phase ≠ .evacuating → s.curtain.stageAlarm = false →
      answers .dwellExpiry s fun t =>
        sameBut curtainParts s t ∧ t.curtain.state = .raising ∧ t.curtain.mode = .demo ∧
        t.curtain.sequence.dwellTimer = none ∧ t.phase.record = { s.phase.record with demoStatus := .raising }) ∧
    ((s.curtain.flags.localControl = true ∨ s.phase.phase = .evacuating ∨ s.curtain.stageAlarm = true) →
      answers .dwellExpiry s fun t =>
        sameBut [.report, .record, .attention, .curtain] s t ∧ t.curtain.state = .atFloor ∧
        t.curtain.sequence.dwellTimer = none ∧ t.phase.record = { s.phase.record with demoStatus := .failed .fault } ∧
        isRaised .demoResult t ∧
        (roomFor 1 s → t.phase.report = s.phase.report ++
          [entryNow s .demo ([5, 6] ++ bytes2 s.phase.demoTime ++ [s.curtain.sequence.markByte])]))

/-- The dead time ends in the pending movement, or in STOPPED where that movement may not start; the raise timer ends a raise
in FAULT(TRAVEL_TIMEOUT). -/
def Obligations.DeadTimeAndRaiseTimerExpire : Prop :=
  (∀ s : State, s.powered → s.curtain.state = .deadTime → due s.curtain.deadTimer s.clock →
    (s.curtain.pending = some .lower → answers .deadTimeExpiry s fun t =>
      sameBut ironParts s t ∧ t.curtain.state = .lowering ∧ t.curtain.mode = s.curtain.mode ∧
      t.curtain.pending = none ∧ t.curtain.deadTimer = none ∧ t.curtain.descentStart = some s.clock) ∧
    (s.curtain.pending = some .raise → raiseBarred (decide (s.curtain.mode = .demo)) s = none →
      answers .deadTimeExpiry s fun t =>
        sameBut ironParts s t ∧ t.curtain.state = .raising ∧ t.curtain.mode = s.curtain.mode ∧ t.curtain.deadTimer = none) ∧
    ((s.curtain.pending = some .none ∨
        (s.curtain.pending = some .raise ∧ (raiseBarred (decide (s.curtain.mode = .demo)) s).isSome)) →
      s.curtain.stageAlarm = false → answers .deadTimeExpiry s fun t =>
        sameBut ironParts s t ∧ t.curtain.state = .stopped ∧ t.curtain.mode = .normal ∧ t.curtain.pending = none ∧
        t.curtain.deadTimer = none)) ∧
  ∀ s : State, s.powered → s.curtain.state = .raising → due s.curtain.raiseTimer s.clock →
    s.curtain.stageAlarm = false →
    answers .raiseTimerExpiry s fun t =>
      sameBut curtainParts s t ∧ t.curtain.state = .fault ∧ t.curtain.cause = some .travelTimeout ∧
      t.curtain.raiseTimer = none ∧ t.curtain.repeatTimer = none ∧ isRaised .curtainFault t ∧
      (s.phase.demoStatus.inProgress → t.phase.demoStatus = .failed .fault) ∧
      (s.phase.demoStatus.inProgress = false → t.phase.demoStatus = s.phase.demoStatus)

/-- The drive repeat timer repeats the state's DRIVE frame every 100 ms; the flow timer sets DRENCHER_NO_FLOW and appends
its entry. -/
def Obligations.DriveRepeatsAndFlowIsMissed : Prop :=
  (∀ s : State, s.powered → due s.curtain.repeatTimer s.clock → s.curtain.flags.localControl = false →
    (s.curtain.state = .lowering ∨ s.curtain.state = .raising) → s.command.profile.driveNode ≠ 0 → s.numbered →
    answers .driveRepeatExpiry s fun t =>
      sameBut [.sender, .outputs, .attention, .curtain] s t ∧
      t.curtain = { s.curtain with repeatTimer := some { start := s.clock, length := 100 } } ∧
      (quietQueue s → t.loop.origin =
        [queued s kindDrive (byte s.command.profile.driveNode)
          [if s.curtain.state = .lowering then 1 else 2, byte s.curtain.mode.code] true])) ∧
  ∀ s : State, s.powered → due s.curtain.flowTimer s.clock →
    answers .flowTimerExpiry s fun t =>
      sameBut [.curtain, .report, .attention] s t ∧ t.curtain = { s.curtain with flowTimer := none } ∧
      isRaised .drencherNoFlow t ∧
      (roomFor 1 s → t.phase.report = s.phase.report ++
        [entryNow s .curtain
          ([5, s.curtain.code, s.curtain.code, byte s.curtain.mode.code] ++ bytes2 s.command.profile.flowWait)])

/-- A POS of the drive node is recorded and moves the curtain only where a step names it: the drive fault flag, the local flag,
a derivation, the floor check. A POS from another node, or too short, is not acted on. The position stale timer marks the
position stale and, in an emergency descent, starts the emergency stale timer; the latter releases the iron. That the STALE
entry carries the standing state twice is the model's reading (log entry 15). -/
def Obligations.StalePositionReleasesIron : Prop :=
  (∀ (f : Frame) (c : Character) (s : State), passingFrame f c s → f.kind = kindPos →
    ((f.source.toNat ≠ s.command.profile.driveNode ∨ f.payload.length < 3) → passes f c s fun t => t = huntWith 0 s) ∧
    ∀ hi lo flags : Byte, ∀ rest, f.payload = hi :: lo :: flags :: rest → f.source.toNat = s.command.profile.driveNode →
      let position := number2 hi lo
      let driveFault := flags.getLsbD 2
      let isLocal := flags.getLsbD 3
      let wasLocal := s.curtain.flags.localControl
      let stale : Option Timer :=
        if s.curtain.state = .lowering ∨ s.curtain.state = .raising ∨ s.curtain.state = .released then
          some { start := s.clock, length := s.command.profile.positionStale }
        else s.curtain.staleTimer
      let recorded : Curtain :=
        { s.curtain with
          position := position, reportTime := some s.clock, stale := false, emergencyTimer := none, staleTimer := stale
          flags :=
            { movingDown := flags.getLsbD 0, movingUp := flags.getLsbD 1, driveFault := driveFault
              localControl := isLocal } }
      let becomes (holds : State → Prop) : Prop :=
        passes f c s fun t =>
          sameBut curtainParts (huntWith 0 s) t ∧ t.curtain.position = position ∧ t.curtain.reportTime = some s.clock ∧
          t.curtain.flags = recorded.flags ∧ t.curtain.stale = false ∧ holds t
      let faults (cause : FaultCause) : Prop :=
        becomes fun t => t.curtain.state = .fault ∧ t.curtain.cause = some cause ∧ t.curtain.mode = .normal ∧
          isRaised .curtainFault t
      becomes (fun _ => True) ∧
      (driveFault = false → isLocal = false → wasLocal = false → s.curtain.rederive = false →
        s.curtain.floorCheck = false →
        (s.curtain.state = .atFloor ∨ s.curtain.state = .stored ∨ s.curtain.state = .raising ∨ s.curtain.state = .stopped ∨
          s.curtain.state = .deadTime ∨ s.curtain.state = .fault ∨
          (s.curtain.state = .lowering ∧ s.curtain.descentStart = none)) →
        passes f c s fun t => t = (huntWith 0 s).onCurtain fun _ => recorded) ∧
      (driveFault = true → s.curtain.state ≠ .released → s.curtain.state ≠ .atFloor → s.curtain.state ≠ .fault →
        s.curtain.floorCheck = false →
        (s.curtain.stageAlarm = false → faults .driveFault) ∧
        (s.curtain.stageAlarm = true → lineReading s 1 ≠ .active → becomes fun t =>
          t.curtain.state = .released ∧ t.curtain.cause = some .driveFault ∧ t.curtain.k5 = true ∧
          isRaised .curtainFault t)) ∧
      (isLocal = true → driveFault = false → s.curtain.rederive = false → s.curtain.floorCheck = false →
        s.curtain.state ≠ .fault → s.curtain.state ≠ .released →
        (s.curtain.stageAlarm = true → s.curtain.state ≠ .atFloor → lineReading s 1 ≠ .active → becomes fun t =>
          t.curtain.state = .released ∧ t.curtain.k5 = true) ∧
        (s.curtain.stageAlarm = false → flags.getLsbD 0 ≠ flags.getLsbD 1 → becomes fun t =>
          t.curtain.state = (if flags.getLsbD 0 then .lowering else .raising) ∧ t.curtain.mode = .normal ∧
          (wasLocal = false →
            t.curtain.repeatTimer = none ∧ t.curtain.raiseTimer = none ∧ t.curtain.deadTimer = none ∧
            t.curtain.pending = none ∧ t.curtain.descentStart = none ∧
            (s.phase.demoStatus.inProgress = true → t.phase.demoStatus = .failed .fault)) ∧
          (quietQueue s → ∀ q ∈ t.loop.origin, q.frame.kind ≠ kindDrive))) ∧
      (driveFault = false → isLocal = false → wasLocal = false → s.curtain.floorCheck = false →
        s.curtain.stageAlarm = false → (s.curtain.state = .unknown ∨ s.curtain.rederive = true) →
        s.curtain.state ≠ .released →
        let p := s.command.profile
        let c1 := lineReading s 1
        let c2 := lineReading s 2
        let derives (state : CurtainState) : Prop :=
          becomes fun t => t.curtain.state = state ∧ t.curtain.mode = .normal ∧ t.curtain.rederive = false
        (s.curtain.state ≠ .fault →
          (c1 = .fault → faults .inLine) ∧
          (c1 ≠ .fault → c2 = .fault → faults .outLine) ∧
          (c1 = .active → c2 = .active → faults .limitConflict) ∧
          (c1 = .active → c2 = .normal → p.floorTolerance < position → faults .positionDisagree) ∧
          (c1 = .normal → c2 = .active → position + p.topTolerance < p.travel → faults .positionDisagree)) ∧
        (c1 = .active → c2 = .normal → position ≤ p.floorTolerance → derives .atFloor) ∧
        (c1 = .normal → c2 = .active → p.travel ≤ position + p.topTolerance → derives .stored) ∧
        (c1 = .normal → c2 = .normal → derives .stopped)) ∧
      (driveFault = false → isLocal = false → wasLocal = false → s.curtain.rederive = false →
        s.curtain.floorCheck = true → s.curtain.state = .atFloor →
        (position ≤ s.command.profile.floorTolerance + 64 →
          passes f c s fun t => t = (huntWith 0 s).onCurtain fun _ => { recorded with floorCheck := false }) ∧
        (s.command.profile.floorTolerance + 64 < position →
          becomes fun t => t.curtain.state = .fault ∧ t.curtain.cause = some .positionDisagree ∧
            t.curtain.floorCheck = false ∧ isRaised .curtainFault t ∧
            (s.phase.demoStatus = .dwell → t.phase.demoStatus = .failed .fault)))) ∧
  (∀ s : State, s.powered → due s.curtain.staleTimer s.clock →
    answers .positionStaleExpiry s fun t =>
      sameBut [.curtain, .report, .attention] s t ∧ t.curtain.stale = true ∧ t.curtain.staleTimer = none ∧
      t.curtain.state = s.curtain.state ∧ t.curtain.position = s.curtain.position ∧
      t.curtain.estimator = s.curtain.estimator ∧
      (s.curtain.state = .lowering → s.curtain.mode = .emergency → s.curtain.emergencyTimer = none →
        t.curtain.emergencyTimer = some { start := s.clock, length := s.command.profile.emergencyStale }) ∧
      (s.phase.demoStatus = .lowering → s.curtain.state = .lowering → s.curtain.mode = .demo →
        t.curtain.sequence.unverified = true) ∧
      (roomFor 1 s → t.phase.report = s.phase.report ++
        [entryNow s .curtain
          ([3, s.curtain.code, s.curtain.code, byte s.curtain.mode.code] ++ bytes2 s.curtain.position)])) ∧
  ∀ s : State, s.powered → due s.curtain.emergencyTimer s.clock → s.curtain.state = .lowering →
    lineReading s 1 ≠ .active →
    answers .emergencyStaleExpiry s fun t =>
      sameBut curtainParts s t ∧ t.curtain.state = .released ∧ t.curtain.mode = .emergency ∧ t.curtain.k5 = true ∧
      t.curtain.emergencyTimer = none ∧ isRaised .curtainFault t

/-- The raw speed is the exact quotient truncated toward zero and clamped to 16 bits, and the prediction is the first case
that fits: 0 at the floor, 65535 without credible speed, otherwise the exact time up to 65535. -/
def Obligations.EstimatorSpeedAndPrediction : Prop :=
  (∀ (dp : Int) (dt : Nat), -65535 ≤ dp → dp ≤ 65535 → 1 ≤ dt →
    rawSpeed dp dt = max (-32768) (min 32767 (Int.tdiv (dp * 16000) dt)) ∧
    -1048560000 ≤ dp * 16000 ∧ dp * 16000 ≤ 1048560000 ∧
    (dp < 0 → rawSpeed dp dt ≤ 0) ∧ (dp < 0 → dt ≤ 16000 → rawSpeed dp dt < 0) ∧ rawSpeed 0 dt = 0) ∧
  (rawSpeed 80 200 = 6400 ∧ rawSpeed 20 250 = 1280 ∧ rawSpeed (-7) 200 = -560 ∧ rawSpeed 5000 1 = 32767) ∧
  ∀ (minSpeed position : Nat) (e : Estimator), 1 ≤ minSpeed → position ≤ 65535 →
    position * 16000 ≤ 1048560000 ∧
    (position = 0 → predict minSpeed position e = { e with predicted := 0, noProgress := false }) ∧
    (position ≠ 0 → e.speed ≤ minSpeed →
      predict minSpeed position e = { e with predicted := 65535, noProgress := true }) ∧
    (∀ (p : Profile) (elapsed : Nat), p.descentLimit ≤ 60000 → p.startGrace ≤ elapsed → e.predicted = 65535 →
      isLate p elapsed e) ∧
    ∀ v : Nat, position ≠ 0 → e.speed = v → minSpeed < v →
      predict minSpeed position e = { e with predicted := min 65535 (position * 16000 / v), noProgress := false }

/-! ## Calls and bells -/

/-- CALN queues a defined call that is not held; while the player sounds it only joins the queue, and an idle part with a
station for it starts its sounding. A held call merges; an undefined one and an id above 31 are refused. A full queue loses its
last instance, the youngest of the lowest priority, to a request of higher priority, and refuses any other, each with CALL_LOST.
A request of priority 3, here STAFF at the first prealarm, aborts a sounding call of lower priority: its bells stop, its
stations are told, and it is dropped with CALL_LOST, or with priority 2 goes back to the front of its priority for the time it
has left, lapses if that is over, or displaces or is dropped where the queue is full. That the MERGED entry carries soundings 0
and its own priority is the model's choice (log entry 16). -/
def Obligations.CallsAreRequested : Prop :=
  (∀ (h : CommandHeader) (s : State) (id : Byte), accepted h s → 31 < id.toNat → playerBusy s →
    replies (.caln h id) h 0x48 (.plain .refusedRange) s fun u => sameBut [.report, .attention] (begin 0x48 h s) u) ∧
  (∀ (h : CommandHeader) (s : State) (id : Byte), accepted h s → id.toNat ≤ 31 →
    callPriority s id.toNat ≤ 2 →
    (callDefined s id.toNat → callHeld s id.toNat = false → s.calls.queue.length < 16 →
      playerBusy s →
      replies (.caln h id) h 0x48 (.plain .done) s fun u =>
        u = (begin 0x48 h s).onCalls fun c =>
          { c with queue := insertCall (newInstance s id.toNat .command) c.queue }) ∧
    (callHeld s id.toNat → callDefined s id.toNat → playerBusy s →
      replies (.caln h id) h 0x48 (.plain .done) s fun u =>
        sameBut [.report, .attention] (begin 0x48 h s) u ∧
        (roomFor 1 s → u.phase.report = s.phase.report ++
          [entryNow s .call [id, 2, 2, byte (callPriority s id.toNat), 0, 0xFF]])) ∧
    (callDefined s id.toNat = false → playerBusy s →
      replies (.caln h id) h 0x48 (.plain .refusedState) s fun u => sameBut [.report, .attention] (begin 0x48 h s) u) ∧
    (∀ kept last, callDefined s id.toNat → callHeld s id.toNat = false → playerBusy s →
      s.calls.queue = kept ++ [last] → kept.length = 15 →
      (last.priority < callPriority s id.toNat →
        replies (.caln h id) h 0x48 (.plain .done) s fun u =>
          sameBut [.report, .attention, .calls] (begin 0x48 h s) u ∧
          u.calls = { s.calls with queue := insertCall (newInstance s id.toNat .command) kept } ∧
          isRaised .callLost u ∧
          (roomFor 1 s → u.phase.report = s.phase.report ++
            [entryNow s .call
              [byte last.id, 4, byte last.source.code, byte last.priority, byte last.soundings, 0xFF]])) ∧
      (callPriority s id.toNat ≤ last.priority →
        replies (.caln h id) h 0x48 (.plain .refusedFull) s fun u =>
          sameBut [.report, .attention] (begin 0x48 h s) u ∧ isRaised .callLost u ∧
          (roomFor 1 s → u.phase.report = s.phase.report ++
            [entryNow s .call [id, 3, 2, byte (callPriority s id.toNat), 0, 5]]))) ∧
    ∀ e station areas, callEntry s id.toNat = some e → s.calls.queue = [] → s.calls.player = .idle →
      eligible s (newInstance s id.toNat .command) → e.defn.slot.isSome → 1 ≤ e.defn.messageTime →
      routeStations s (effectiveAreas s id.toNat) = [(station, areas)] →
      replies (.caln h id) h 0x48 (.plain .done) s fun u =>
        sameBut callParts (begin 0x48 h s) u ∧ u.calls.queue = [] ∧
        (∃ call copy timer, u.calls.player = .sounding call copy timer ∧ call.id = id.toNat ∧ call.source = .command ∧
          call.repeats = some (.count e.defn.repeats) ∧ copy.stations = [(station, areas)] ∧ timer.start = s.clock ∧
          e.defn.messageTime * 1000 ≤ timer.length) ∧
        (quietQueue s → u.loop.origin =
          [queued s kindCall (byte station) ([1, id, optionByte e.defn.slot] ++ maskBytes 2 areas) false])) ∧
  ∀ (f : Frame) (c : Character) (s : State) (z : Byte) (zone : Zone) (call : CallInstance) (copy : StartCopy)
      (timer : Timer) (station : Nat) (areas : BitVec 12), passingFrame f c s → f.kind = kindZone → f.payload = [z, 1] →
    -- The first prealarm, with no zone confirmed: STAFF is requested.
    zoneAt s z.toNat = some zone → zone.state = .normal → recordDerived s → s.zones.alarm.prealarm = false →
    s.zones.alarm.confirmed = [] →
    (s.calls.player = .sounding call copy timer ∨ s.calls.player = .gap call copy timer) → playerBusy s →
    call.priority ≤ 2 → call.id ≠ 63 → (∀ waiting ∈ s.calls.queue, waiting.priority ≤ 2 ∧ waiting.id ≠ 63) →
    s.calls.queue.length ≤ 15 →
    s.command.profile.staffSlot.isSome → 1 ≤ s.command.profile.staffMessage →
    routeStations s (effectiveAreas s 63) = [(station, areas)] →
    let outcome (call : CallInstance) (code : Byte) : ReportEntry :=
      entryNow s .call [byte call.id, code, byte call.source.code, byte call.priority, byte call.soundings, 0xFF]
    let again : CallInstance :=
      { call with
        timer := call.expiry.map fun t => { start := s.clock, length := min (t - s.clock).toNat 2147483647 } }
    let lifeOver : Prop := ∃ t, call.expiry = some t ∧ (s.clock - t).toNat < 2147483648
    passes f c s fun t =>
      sameBut alarmParts (huntWith 0 s) t ∧
      (∃ staff staffCopy sounds, t.calls.player = .sounding staff staffCopy sounds ∧ staff.id = 63 ∧
        staff.source = .fire ∧ staff.priority = 3 ∧ staff.repeats = some (.count 1) ∧
        staffCopy.stations = [(station, areas)] ∧ sounds.start = s.clock) ∧
      (s.command.profile.staffPattern = none →
        ∀ b < 4, t.bells.generators[b]? = if b ∈ copy.bells then some Generator.initial else s.bells.generators[b]?) ∧
      (quietQueue s → s.numbered → copy.stations.length ≤ 14 → (copy.stations.map fun x => byte x.1).Nodup →
        byte station ∉ copy.stations.map (fun x => byte x.1) →
        ((copy.stations.map fun x => queued s kindCall (byte x.1) [2, byte call.id] false) ++
          [queued s kindCall (byte station)
            ([1, 63, optionByte s.command.profile.staffSlot] ++ maskBytes 2 areas) true]).isPrefixOf t.loop.origin) ∧
      (call.priority ≤ 1 → t.calls.queue = s.calls.queue ∧ isRaised .callLost t ∧
        (roomFor 4 s → gains (outcome call 6) s t)) ∧
      (call.priority = 2 →
        (lifeOver → t.calls.queue = s.calls.queue ∧ (roomFor 4 s → gains (outcome call 5) s t)) ∧
        (¬ lifeOver → s.calls.queue.length ≤ 14 → t.calls.queue = requeueCall again s.calls.queue) ∧
        (¬ lifeOver → ∀ kept last, s.calls.queue = kept ++ [last] → kept.length = 14 →
          isRaised .callLost t ∧
          (last.priority ≤ 1 → t.calls.queue = requeueCall again kept ∧ (roomFor 4 s → gains (outcome last 4) s t)) ∧
          (last.priority = 2 → t.calls.queue = s.calls.queue ∧ (roomFor 4 s → gains (outcome call 6) s t))))

/-- CALX cancels the queued or the sounding call of its id, a queued instance lapses at its expiry, and RPLN sets its plan
group's selector; each leaves the definitions, the areas and, but for RPLN, the selectors. While the player sounds a call,
nothing else of the Call Unit changes: CALX and the lapse remove the one instance with its entry, and RPLN changes its plan
group's selector alone. A call that is neither queued nor sounding, an id of no call, and EVAC in EVACUATING are refused. -/
def Obligations.QueuedCallsAreCancelledAndLapse : Prop :=
  (∀ (h : CommandHeader) (s : State) (id : Byte), accepted h s →
    let named : Prop := id.toNat ≤ 31 ∨ id.toNat = 63 ∨ (id.toNat = 62 ∧ s.phase.phase ≠ .evacuating)
    let cancelled (call : CallInstance) : ReportEntry :=
      entryNow s .call [byte call.id, 8, byte call.source.code, byte call.priority, byte call.soundings, 0xFF]
    (31 < id.toNat → id.toNat ≠ 62 → id.toNat ≠ 63 → onlyReplies (.calx h id) h 0x49 .refusedRange s) ∧
    (id.toNat = 62 → s.phase.phase = .evacuating → onlyReplies (.calx h id) h 0x49 .refusedState s) ∧
    (named → callHeld s id.toNat = false → onlyReplies (.calx h id) h 0x49 .refusedState s) ∧
    (∀ call, s.calls.queue.find? (fun c => decide (c.id = id.toNat)) = some call → named →
      replies (.calx h id) h 0x49 (.plain .done) s fun u =>
        sameBut callParts (begin 0x49 h s) u ∧ u.calls.defs = s.calls.defs ∧ u.calls.areas = s.calls.areas ∧
        u.calls.selectors = s.calls.selectors ∧ u.bells.patterns = s.bells.patterns ∧
        (roomFor 1 s → gains (cancelled call) s u) ∧
        (playerBusy s →
          sameBut [.report, .attention, .calls] (begin 0x49 h s) u ∧
          u.calls = { s.calls with queue := s.calls.queue.eraseP fun c => decide (c.id = id.toNat) } ∧
          (roomFor 1 s → u.phase.report = s.phase.report ++ [cancelled call]))) ∧
    ∀ call copy timer, (s.calls.player = .sounding call copy timer ∨ s.calls.player = .gap call copy timer) →
      call.id = id.toNat → named → s.calls.queue.find? (fun c => decide (c.id = id.toNat)) = none →
      replies (.calx h id) h 0x49 (.plain .done) s fun u =>
        sameBut callParts (begin 0x49 h s) u ∧ u.calls.defs = s.calls.defs ∧ u.calls.areas = s.calls.areas ∧
        u.calls.selectors = s.calls.selectors ∧ u.bells.patterns = s.bells.patterns ∧
        (roomFor 1 s → gains (cancelled call) s u) ∧
        (s.calls.queue = [] →
          u.calls = { s.calls with player := .idle } ∧
          (∀ b < 4, u.bells.generators[b]? =
            if b ∈ copy.bells then some Generator.initial else s.bells.generators[b]?) ∧
          (roomFor 1 s → u.phase.report = s.phase.report ++ [cancelled call])) ∧
        (s.calls.queue = [] → quietQueue s → copy.stations.length ≤ 16 →
          (copy.stations.map fun station => byte station.1).Nodup →
          u.loop.origin = copy.stations.map fun station =>
            queued s kindCall (byte station.1) [2, id] (decide (call.priority = 3)))) ∧
  (∀ (s : State) (id : Nat), s.powered →
    ((∀ call, s.calls.queue.find? (fun c => decide (c.id = id)) = some call → due call.timer s.clock = false) →
      exec (.callLapse id) s = .next s) ∧
    ∀ call, s.calls.queue.find? (fun c => decide (c.id = id)) = some call → due call.timer s.clock →
      let lapsed : ReportEntry :=
        entryNow s .call [byte call.id, 5, byte call.source.code, byte call.priority, byte call.soundings, 0xFF]
      answers (.callLapse id) s fun t =>
        sameBut callParts s t ∧ t.calls.defs = s.calls.defs ∧ t.calls.areas = s.calls.areas ∧
        t.calls.selectors = s.calls.selectors ∧ t.bells.patterns = s.bells.patterns ∧
        (roomFor 1 s → gains lapsed s t) ∧
        (playerBusy s →
          sameBut [.report, .attention, .calls] s t ∧
          t.calls = { s.calls with queue := s.calls.queue.eraseP fun c => decide (c.id = id) } ∧
          (roomFor 1 s → t.phase.report = s.phase.report ++ [lapsed]))) ∧
  ∀ (h : CommandHeader) (s : State) (group plan : Byte), accepted h s →
    ((2 < group.toNat ∨ 1 < plan.toNat) → onlyReplies (.rpln h group plan) h 0x4A .refusedRange s) ∧
    (group.toNat ≤ 2 → plan.toNat ≤ 1 →
      let selectors := s.calls.selectors.setIfInBounds group.toNat (if plan = 0 then .a else .b)
      replies (.rpln h group plan) h 0x4A (.plain .done) s fun u =>
        sameBut callParts (begin 0x4A h s) u ∧ u.calls.defs = s.calls.defs ∧ u.calls.areas = s.calls.areas ∧
        u.bells.patterns = s.bells.patterns ∧ u.calls.selectors = selectors ∧
        (playerBusy s → u = (begin 0x4A h s).onCalls fun c => { c with selectors := selectors }))

/-- The player timer ends a sounding: its bells stop, and the call goes into its gap, or is DONE after its last sounding;
at the end of the gap the next sounding begins: a CALL START to each station, each bell's generator on the pattern, and the
player timer with the longer of the pattern and the message. -/
def Obligations.PlayerTimerAdvancesCall : Prop :=
  (∀ (s : State) (call : CallInstance) (copy : StartCopy) (timer : Timer) (n : Nat), s.powered →
    s.calls.player = .sounding call copy timer → timer.expired s.clock → call.repeats = some (.count (n + 2)) →
    1 ≤ copy.gap →
    answers .playerTimerExpiry s fun t =>
      sameBut [.calls, .bells] s t ∧
      t.calls =
        { s.calls with
          player :=
            .gap { call with soundings := min 255 (call.soundings + 1), repeats := some (.count (n + 1)) } copy
              { start := s.clock, length := copy.gap * 1000 } } ∧
      ∀ b ∈ copy.bells, b < 4 → t.bells.generators[b]? = some Generator.initial) ∧
  (∀ (s : State) (call : CallInstance) (copy : StartCopy) (timer : Timer), s.powered →
    s.calls.player = .sounding call copy timer → timer.expired s.clock → call.repeats = some (.count 1) →
    s.calls.queue = [] →
    answers .playerTimerExpiry s fun t =>
      sameBut [.calls, .bells, .report, .attention] s t ∧ t.calls = { s.calls with player := .idle } ∧
      (∀ b ∈ copy.bells, b < 4 → t.bells.generators[b]? = some Generator.initial) ∧
      (roomFor 1 s → t.phase.report = s.phase.report ++
        [entryNow s .call
          [byte call.id, 0, byte call.source.code, byte call.priority, byte (min 255 (call.soundings + 1)), 0xFF]])) ∧
  ∀ (s : State) (call : CallInstance) (copy : StartCopy) (timer : Timer), s.powered →
    s.calls.player = .gap call copy timer → timer.expired s.clock → copy.slot.isSome → 1 ≤ copy.messageTime →
    let rung : Option Pattern := copy.pattern.bind (patternOf s)
    answers .playerTimerExpiry s fun t =>
      sameBut [.sender, .outputs, .attention, .calls, .bells] s t ∧
      t.calls =
        { s.calls with
          player := .sounding call copy
            { start := s.clock
              length := max
                (match rung with
                  | some p => if copy.bells = [] then 0 else p.duration
                  | none => 0)
                (copy.messageTime * 1000) } } ∧
      t.bells.patterns = s.bells.patterns ∧
      (rung = none → t.bells = s.bells) ∧
      (∀ number p, copy.pattern = some number → rung = some p →
        (∀ b ∈ copy.bells, b < 4 → t.bells.generators[b]? = some
          { state := .ring, latched := some { number := number, pattern := p }, r := 1, k := 1
            timer := some { start := s.clock, length := p.ring * 10 }, relay := true }) ∧
        ∀ b, b ∉ copy.bells → t.bells.generators[b]? = s.bells.generators[b]?) ∧
      (s.numbered → quietQueue s → copy.stations.length ≤ 16 → (copy.stations.map fun station => byte station.1).Nodup →
        t.loop.origin = copy.stations.map fun station =>
          queued s kindCall (byte station.1) ([1, byte call.id, optionByte copy.slot] ++ maskBytes 2 station.2)
            (decide (call.priority = 3)))

/-- The expiry of a generator's segment timer takes it on through its pattern: the relay is energised in RING alone. -/
def Obligations.SegmentTimerPlaysPattern : Prop :=
  ∀ (s : State) (b : Nat) (g : Generator) (latched : Latched), s.powered → s.bells.generators[b]? = some g →
    g.latched = some latched → due g.timer s.clock →
    let p := latched.pattern
    let becomes (next : Generator) : Prop :=
      exec (.segmentTimerExpiry b) s =
        .next (s.onBells fun u => { u with generators := u.generators.setIfInBounds b next })
    let rings (r k : Nat) : Generator :=
      { state := .ring, latched := some latched, r := r, k := k, relay := true
        timer := some { start := s.clock, length := p.ring * 10 } }
    (g.state = .ring → g.r < p.rings →
      becomes { g with state := .gap, relay := false, timer := some { start := s.clock, length := p.gap * 10 } }) ∧
    (g.state = .ring → p.rings ≤ g.r → g.k < p.bursts → 0 < p.burstGap →
      becomes { g with state := .burstGap, relay := false, timer := some { start := s.clock, length := p.burstGap * 100 } }) ∧
    (g.state = .ring → p.rings ≤ g.r → g.k < p.bursts → p.burstGap = 0 → becomes (rings 1 (g.k + 1))) ∧
    (g.state = .ring → p.rings ≤ g.r → p.bursts ≤ g.k → becomes Generator.initial) ∧
    (g.state = .gap → becomes (rings (g.r + 1) g.k)) ∧
    (g.state = .burstGap → becomes (rings 1 (g.k + 1)))

/-- A pattern's duration is the time its generator runs from its start to IDLE without a stop: K × (R × H × 10 +
(R − 1) × L × 10) + (K − 1) × B × 100 ms, of which its relay is energised K × R × H × 10 ms. A sounding that rings a pattern
starts its generators and takes a sounding time no shorter than the pattern from the same table, so a generator is IDLE at the
end of the sounding or earlier. -/
def Obligations.PatternDurationIsRunTime : Prop :=
  (∀ (s : State) (number : Nat) (p : Pattern), p.inRange →
    ringTimes s { number := number, pattern := p } 256 (ringing { number := number, pattern := p } 1 1 s) =
      (p.bursts * (p.rings * p.ring * 10 + (p.rings - 1) * p.gap * 10) + (p.bursts - 1) * p.burstGap * 100,
        p.bursts * p.rings * p.ring * 10) ∧
    p.duration =
      p.bursts * (p.rings * p.ring * 10 + (p.rings - 1) * p.gap * 10) + (p.bursts - 1) * p.burstGap * 100 ∧
    10 ≤ p.duration ∧ p.duration ≤ 704880 ∧
    (p.ring = 1 → p.rings = 1 → p.bursts = 1 → p.duration = 10) ∧
    (p.ring = 256 → p.gap = 256 → p.rings = 16 → p.burstGap = 100 → p.bursts = 8 → p.duration = 704880)) ∧
  ∀ (s : State) (call : CallInstance) (copy : StartCopy) (timer : Timer) (number b : Nat) (p : Pattern), s.powered →
    s.calls.player = .gap call copy timer → timer.expired s.clock → copy.pattern = some number →
    patternOf s number = some p → p.inRange → b ∈ copy.bells → b < 4 →
    answers .playerTimerExpiry s fun t =>
      ∃ sounding g, t.calls.player = .sounding call copy sounding ∧ sounding.start = s.clock ∧
        t.bells.generators[b]? = some g ∧ g.latched = some { number := number, pattern := p } ∧
        g.timer.map Timer.start = some s.clock ∧
        (ringTimes t { number := number, pattern := p } 256 g).1 ≤ sounding.length

/-! ## Command frames -/

/-- The notice timer restarts, clears every new mark and offers a NOTICE of seventeen bytes that is not urgent; an unnumbered
part, which sends none, clears every new mark too. -/
def Obligations.NoticeTimerSendsNotice : Prop :=
  ∀ s : State, s.powered → s.command.noticeTimer.expired s.clock →
    answers .noticeTimerExpiry s fun t =>
      sameBut [.sender, .outputs, .attention, .command] s t ∧
      t.command.noticeTimer = { start := s.clock, length := s.command.profile.noticeInterval } ∧
      t.command.profile = s.command.profile ∧ t.command.store = s.command.store ∧
      (s.numbered = false → sameBut [.attention, .command] s t ∧ t.command.newMarks = 0 ∧
        t.command.attention = s.command.attention) ∧
      (s.numbered → quietQueue s → t.command.newMarks = 0 ∧ t.command.attention = s.command.attention ∧
        t.loop.origin = [queued s kindNotice allNodes
          ([byte s.phase.phase.code, byte s.phase.act,
              packBits [s.phase.showStop, s.zones.alarm.stage, s.zones.alarm.house, s.zones.alarm.front,
                s.zones.alarm.prealarm, s.zones.alarm.fault, decide (s.loop.ring = .ok)],
              byte s.zones.alarm.confirmed.length] ++
            bytes2 s.phase.curtainUp ++ bytes2 s.phase.intervalLeft ++
            [s.curtain.code, optionByte (s.curtain.cause.map FaultCause.code), byte s.curtain.mode.code] ++
            bytes2 s.curtain.position ++
            [byte s.phase.demoStatus.code, optionByte (s.phase.demoStatus.reason.map DemoReason.code)] ++
            bytes2 s.command.attention.toNat) false])

/-- The payload of every command row, laid out by code, sequence number and arguments, is read back as that command: the
COMMAND frame that carries it does what the row does. That UNKNOWN_COMMAND executes a payload which spells a command is the
model's reading (log entry 1). -/
def Obligations.PayloadsSpellCommands : Prop :=
  ∀ (c : Instr) (s : State) (h : CommandHeader) (code : Byte) (arguments : List Byte),
    commandBytes c = some (h, code, arguments) →
    exec (.unknownCommand h.source (code :: h.sequence :: arguments)) s = exec c s

/-- A command from another node than the controller, a code that names no command, a payload of fewer than two bytes, an
argument length other than the one its code fixes, a load that is not one or more whole entries, a command under the
performance lock and one under a store each get their REPLY and change nothing else. That a load refused by
checks 1 to 6 answers without data is inferred (log entry 25). -/
def Obligations.RefusedCommandsChangeNothing : Prop :=
  (∀ (c : Instr) (s : State) (h : CommandHeader) (code : Byte) (arguments : List Byte),
    commandBytes c = some (h, code, arguments) → s.powered → reachesUnit h.source s → fromController h.source s = false →
    onlyReplies c h code .refusedSource s) ∧
  (∀ (s : State) (h : CommandHeader) (code : Byte) (arguments : List Byte), accepted h s → code.toNat ∉ commandCodes →
    onlyReplies (.unknownCommand h.source (code :: h.sequence :: arguments)) h code .unknownCommand s) ∧
  (∀ (s : State) (h : CommandHeader) (arguments : List Byte), accepted h s →
    let refused (code : Nat) : Prop :=
      onlyReplies (.unknownCommand h.source (byte code :: h.sequence :: arguments)) h (byte code) .badLength s
    let whole (isEntry : List Byte → Prop) : Prop :=
      ∃ entries : List (List Byte), entries ≠ [] ∧ entries.flatten = arguments ∧ ∀ e ∈ entries, isEntry e
    -- The argument length of every command code whose length is fixed.
    (∀ row ∈ [(0x01, 1), (0x02, 2), (0x03, 2), (0x04, 0), (0x05, 1), (0x06, 2), (0x17, 1), (0x18, 0), (0x19, 0), (0x20, 4),
        (0x21, 0), (0x22, 0), (0x23, 0), (0x24, 2), (0x25, 4), (0x26, 0), (0x27, 0), (0x28, 0), (0x29, 0), (0x30, 0),
        (0x31, 0), (0x32, 0), (0x33, 0), (0x34, 0), (0x38, 5), (0x39, 1), (0x3A, 1), (0x40, 1), (0x41, 1), (0x42, 1),
        (0x43, 1), (0x44, 1), (0x48, 1), (0x49, 1), (0x4A, 2)], arguments.length ≠ row.2 → refused row.1) ∧
    (¬ whole (fun e => e.length = 9) → refused 0x10 ∧ onlyReplies (.ldpo h arguments) h 0x10 .badLength s) ∧
    (¬ whole (fun e => (e[3]?).map (fun count => 4 + 6 * count.toNat) = some e.length) →
      refused 0x11 ∧ onlyReplies (.ldcu h arguments) h 0x11 .badLength s) ∧
    (¬ whole (fun e => (e.head? = some 0 ∧ e.length = 6) ∨ (e.head? = some 1 ∧ e.length = 10)) →
      refused 0x12 ∧ onlyReplies (.ldzn h arguments) h 0x12 .badLength s) ∧
    (¬ whole (fun e => e.length = 15) → refused 0x13 ∧ onlyReplies (.ldcl h arguments) h 0x13 .badLength s) ∧
    (¬ whole (fun e => e.length = 8) →
      refused 0x14 ∧ onlyReplies (.ldpt h arguments) h 0x14 .badLength s ∧
      refused 0x15 ∧ onlyReplies (.ldrt h arguments) h 0x15 .badLength s) ∧
    (¬ whole (fun e => e.length = 3) → refused 0x16 ∧ onlyReplies (.ldpf h arguments) h 0x16 .badLength s)) ∧
  (∀ (s : State) (h : CommandHeader) (code : Byte), accepted h s → h.sequence = 0 →
    onlyReplies (.unknownCommand h.source []) h 0 .badLength s ∧
    onlyReplies (.unknownCommand h.source [code]) h code .badLength s) ∧
  (∀ (s : State) (h : CommandHeader) (entries : List Byte) (table : Byte), accepted h s → s.command.store = none →
    s.phase.phase ≠ .closed → s.phase.phase ≠ .preshow →
    ((entriesOf (fixedLength 9) entries).isSome → onlyReplies (.ldpo h entries) h 0x10 .refusedLocked s) ∧
    ((entriesOf zoneLength entries).isSome → onlyReplies (.ldzn h entries) h 0x12 .refusedLocked s) ∧
    ((entriesOf (fixedLength 3) entries).isSome → onlyReplies (.ldpf h entries) h 0x16 .refusedLocked s) ∧
    ((table = 0 ∨ table = 2 ∨ table = 6) → onlyReplies (.cltb h table) h 0x17 .refusedLocked s)) ∧
  ∀ (s : State) (h : CommandHeader) (entries : List Byte) (table : Byte), accepted h s → s.command.store.isSome →
    ((entriesOf (fixedLength 9) entries).isSome → onlyReplies (.ldpo h entries) h 0x10 .refusedBusy s) ∧
    ((entriesOf cueLength entries).isSome → onlyReplies (.ldcu h entries) h 0x11 .refusedBusy s) ∧
    ((entriesOf zoneLength entries).isSome → onlyReplies (.ldzn h entries) h 0x12 .refusedBusy s) ∧
    ((entriesOf (fixedLength 15) entries).isSome → onlyReplies (.ldcl h entries) h 0x13 .refusedBusy s) ∧
    ((entriesOf (fixedLength 8) entries).isSome →
      onlyReplies (.ldpt h entries) h 0x14 .refusedBusy s ∧ onlyReplies (.ldrt h entries) h 0x15 .refusedBusy s) ∧
    ((entriesOf (fixedLength 3) entries).isSome → onlyReplies (.ldpf h entries) h 0x16 .refusedBusy s) ∧
    onlyReplies (.cltb h table) h 0x17 .refusedBusy s ∧ onlyReplies (.sttb h) h 0x18 .refusedBusy s ∧
    onlyReplies (.rstr h) h 0x19 .refusedBusy s

/-- The status reads answer with their data, field by field in the layouts of section 11.9, and change nothing, but that RDST
PART clears every new mark; a section, number, index or table out of range is refused. The stale mark and the verification
time in PANEL's item are free values (log entry 39). That a reply of RDRP or RDTB without entries carries the requested index
is the model's choice (log entry 49). -/
def Obligations.ReadsAnswerAndChangeNothing : Prop :=
  ∀ (h : CommandHeader) (s : State) (a b : Byte), accepted h s →
    let code (n : Option Nat) : List Byte := [match n with | none => 0xFF | some n => byte n]
    let time (t : Option Time) : List Byte := bytes4 ((t.map BitVec.toNat).getD 0xFFFFFFFF)
    let pair (n : Option Nat) : List Byte := bytes2 (n.getD 0xFFFF)
    let flag (x : Bool) : List Byte := [if x then 1 else 0]
    let left (unit : Nat) (timer : Option Timer) : Nat :=
      match timer with
      | none => 0
      | some t => (t.length - min (s.clock - t.start).toNat 2147483647 + (unit - 1)) / unit
    let summary : Byte :=
      packBits [s.zones.alarm.stage, s.zones.alarm.house, s.zones.alarm.front, s.zones.alarm.prealarm, s.zones.alarm.fault]
    let answersWith (c : Instr) (code : Byte) (data : List Byte) : Prop :=
      exec c s = .next (replied h code { result := .done, data := data } (begin code h s))
    (a = 0 →
      exec (.rdst h a) s = .next
        (replied h 0x01
          { result := .done
            data :=
              [0, s.nodeByte] ++ timeBytes s.clock ++
                [if s.loop.ring = .ok then 1 else 0, byte s.loop.badFrames, byte s.loop.forward.length,
                  byte s.loop.origin.length,
                  packBits (s.bells.generators.toList.map Generator.relay ++
                    [s.lights.k4, s.curtain.k5, s.curtain.k6, s.loop.k7])] ++
                (s.lines.toList.flatMap fun l =>
                  [byte (lineCode l.accepted), byte l.reading.code] ++ time (l.capture.map Capture.time) ++
                    code (l.capture.map fun c => c.edge.code)) ++
                bytes2 s.command.attention.toNat ++ flag s.command.store.isSome }
          ((begin 0x01 h s).onCommand fun c => { c with newMarks := 0 }))) ∧
    (a = 1 → answersWith (.rdst h a) 0x01
      ([1, byte s.phase.phase.code] ++ bytes2 s.phase.number ++ [byte s.phase.act] ++
        code (s.phase.heldFrom.map Phase.code) ++ code (s.phase.saved.map Phase.code) ++ bytes2 s.phase.curtainUp ++
        bytes2 s.phase.intervalLeft ++ bytes2 s.phase.prescaler ++ flag s.phase.holdPending ++ flag s.phase.showStop ++
        [byte s.phase.demoStatus.code] ++ code (s.phase.demoStatus.reason.map DemoReason.code) ++
        bytes2 s.phase.demoTime ++ [byte s.phase.report.length, byte s.phase.lost] ++ flag s.phase.fullMarker)) ∧
    (a = 2 → answersWith (.rdst h a) 0x01
      ([2, byte (curtainCode s.curtain.state s.curtain.cause)] ++ code (s.curtain.cause.map FaultCause.code) ++
        [byte s.curtain.mode.code] ++ code (s.curtain.pending.map Pending.code) ++ bytes2 s.curtain.position ++
        time s.curtain.reportTime ++ flag s.curtain.stale ++
        [packBits [s.curtain.flags.movingDown, s.curtain.flags.movingUp, s.curtain.flags.driveFault,
          s.curtain.flags.localControl]] ++
        flag s.curtain.rederive ++ flag s.curtain.floorCheck ++ time s.curtain.descentStart ++
        bytes2 s.curtain.lastDescent ++ [if s.curtain.ring = .ok then 1 else 0] ++ flag s.curtain.stageAlarm ++
        [packBits [s.curtain.k5, s.curtain.k6]] ++ flag s.curtain.estimator.running ++
        pair s.curtain.estimator.refPosition ++ time s.curtain.estimator.refTime ++
        bytes2 (BitVec.ofInt 16 s.curtain.estimator.speed).toNat ++ bytes2 s.curtain.estimator.predicted ++
        flag s.curtain.estimator.noProgress ++ [byte s.curtain.estimator.late] ++ flag s.curtain.estimator.lateAction ++
        [packBits [s.curtain.sequence.slow, s.curtain.sequence.unverified, s.curtain.sequence.houseDark]] ++
        code (s.curtain.sequence.first.map DemoReason.code) ++ flag s.curtain.sequence.posSeen ++
        [packBits [s.curtain.deadTimer.isSome, s.curtain.repeatTimer.isSome, s.curtain.raiseTimer.isSome,
          s.curtain.staleTimer.isSome, s.curtain.emergencyTimer.isSome, s.curtain.flowTimer.isSome,
          s.curtain.sequence.dwellTimer.isSome]])) ∧
    (a = 3 → answersWith (.rdst h a) 0x01
      ([3] ++ (s.lights.groups.toList.flatMap fun g =>
        bytes2 g.level ++ [if g.owner = .console then 1 else 0] ++ pair (g.fade.map Fade.start) ++
          pair (g.fade.map Fade.target) ++ bytes4 ((g.fade.map Fade.steps).getD 0xFFFFFFFF) ++
          bytes4 ((g.fade.map Fade.index).getD 0xFFFFFFFF)) ++ flag (overrideActive s) ++ flag s.lights.k4)) ∧
    (a = 4 → answersWith (.rdst h a) 0x01
      ([4] ++ (s.bells.generators.toList.flatMap fun g =>
        [byte g.state.code] ++ code (g.latched.map Latched.number) ++ [byte g.r, byte g.k]) ++
        s.calls.selectors.toList.map fun plan => if plan = .b then 1 else 0)) ∧
    (4 < a.toNat → onlyReplies (.rdst h a) h 0x01 .refusedRange s) ∧
    (a = 0 → b.toNat ≤ 48 → ∃ data stale verification,
      answersWith (.rdzn h a b) 0x03 data ∧
      fitted [a, summary, byte s.zones.alarm.confirmed.length, b]
        (((List.range 48).filterMap fun z => if b.toNat ≤ z then (zoneAt s z).map fun zone =>
            [byte z, byte zone.defn.side.code, byte zone.state.code, byte zone.last.code] ++ flag zone.stale ++
              timeBytes zone.lastReport ++ bytes2 (left 100 zone.verifyTimer) else none) ++
          [[48, 0xFF, byte s.zones.panel.state.code, byte s.zones.panel.last.code, stale, 0xFF, 0xFF, 0xFF, 0xFF] ++
            bytes2 verification]) data) ∧
    (a = 1 → b.toNat ≤ 15 → ∃ data,
      answersWith (.rdzn h a b) 0x03 data ∧
      fitted [a, summary, byte s.zones.alarm.confirmed.length, b]
        ((List.range 16).filterMap fun w => if b.toNat ≤ w then
          (s.zones.windows[w]?).bind fun window => window.defn.map fun d =>
            [byte w, if window.isOpen then 9 else 8] ++
              bytes2 (if window.isOpen then left 1000 window.timer else 0) ++ bytes2 d.duration ++ maskBytes 6 d.zones
          else none) data) ∧
    (¬ ((a = 0 ∧ b.toNat ≤ 48) ∨ (a = 1 ∧ b.toNat ≤ 15)) → onlyReplies (.rdzn h a b) h 0x03 .refusedRange s) ∧
    answersWith (.rdqu h) 0x04
      ((match s.calls.player with
        | .idle => [0, 0, 0, 0, 0, 0xFF, 0xFF, 0xFF, 0xFF, 0xFF]
        | .sounding call _ timer | .gap call _ timer =>
          [match s.calls.player with | .sounding _ _ _ => 1 | _ => 2] ++ bytes4 (left 1 (some timer)) ++
            [byte call.id, byte call.priority, byte call.source.code, byte call.soundings, repeatsByte call.repeats]) ++
        [byte s.calls.queue.length] ++ s.calls.queue.flatMap fun call =>
          [byte call.id, byte call.priority, byte call.source.code] ++ timeBytes call.enqueued ++ time call.expiry ++
            [repeatsByte call.repeats]) ∧
    (a.toNat ≤ 127 → ∃ data,
      answersWith (.rdrp h a) 0x05 data ∧
      fitted [byte s.phase.report.length, byte s.phase.lost, if s.phase.fullMarker then 1 else 0, a]
        ((s.phase.report.drop a.toNat).map fun e =>
          timeBytes e.time ++ [byte e.kind.code, byte e.data.length] ++ e.data) data) ∧
    (127 < a.toNat → onlyReplies (.rdrp h a) h 0x05 .refusedRange s) ∧
    (a.toNat ≤ 6 →
      let entries : List (List Byte) :=
        if a = 0 then s.lights.policy.map fun e =>
          e.defn.bytes ++ [e.lastLevel] ++ flag e.silent ++ time e.lastConsole ++ time e.lastOutput
        else if a = 1 then s.cues.table.map CueEntry.bytes
        else if a = 2 then
          ((List.range 48).filterMap fun z => (zoneAt s z).map fun zone => zone.defn.bytes z) ++
            (List.range 16).filterMap fun w => (s.zones.windows[w]?).bind fun window => window.defn.map (WindowDef.bytes w)
        else if a = 3 then (List.range 32).filterMap fun id => (callEntry s id).map fun e => e.defn.bytes id
        else if a = 4 then (List.range 8).filterMap fun n => (patternOf s n).map (Pattern.bytes n)
        else if a = 5 then (List.range 12).filterMap fun area => ((s.calls.areas[area]?).join).map (AreaDef.bytes area)
        else profileCodes.map fun code => byte code :: bytes2 (s.command.profile.read code)
      ∃ data, answersWith (.rdtb h a b) 0x06 data ∧
        fitted ([a] ++ bytes2 entries.length ++ [b]) (entries.drop b.toNat) data) ∧
    (6 < a.toNat → onlyReplies (.rdtb h a b) h 0x06 .refusedRange s)

/-- ACKA clears each flag of its mask that is set with its new mark clear, leaves every other flag, answers DONE with the set
after the clearing, and then clears every new mark. -/
def Obligations.AckaClearsReportedFlags : Prop :=
  ∀ (h : CommandHeader) (s : State) (mask : BitVec 16), accepted h s →
    ∃ attention : BitVec 16,
      (∀ i < 16, attention.getLsbD i =
        (s.command.attention.getLsbD i && !(mask.getLsbD i && !s.command.newMarks.getLsbD i))) ∧
      exec (.acka h mask) s = .next
        (replied h 0x02 { result := .done, data := bytes2 attention.toNat }
          ((begin 0x02 h s).onCommand fun c => { c with attention := attention, newMarks := 0 }))

/-! ## Tables -/

/-- Every entry written in its layout is read back as it was: channel policy, cues, zones, windows, calls, bell patterns and
call areas. That a call's offset is held as loaded where there is no anchor is the model's choice (log entry 27). -/
def Obligations.TableEntriesRoundTrip : Prop :=
  (∀ d : PolicyDef, d.inRange → readPolicy d.bytes = some (.set d)) ∧
  (∀ e : CueEntry, e.inRange → readCue e.bytes = some (.set e)) ∧
  (∀ (z : Nat) (d : ZoneDef), z ≤ 47 → d.inRange z → readZone (d.bytes z) = some (.setZone z d)) ∧
  (∀ (w : Nat) (d : WindowDef), w ≤ 15 → d.inRange → readZone (d.bytes w) = some (.setWindow w d)) ∧
  (∀ (id : Nat) (d : CallDef), id ≤ 31 → d.inRange → readCall (d.bytes id) = some (.set id d)) ∧
  (∀ (n : Nat) (p : Pattern), n ≤ 7 → p.inRange → readPattern (p.bytes n) = some (.set n p)) ∧
  ∀ (a : Nat) (d : AreaDef), a ≤ 11 → d.inRange → readArea (d.bytes a) = some (.set a d)

/-- LDPT, LDRT and LDCL apply their entries in order, in every phase: an entry in range defines its number or replaces what it
had, a deletion form leaves none, and the first entry out of range stops the load. The reply carries DONE with the count of
entries, the refusal if none was applied, and otherwise PARTIAL with the count and the reason; a TABLE entry has the same
result and count. A replaced call keeps its fired mark when it keeps its anchor and offset. -/
def Obligations.PatternAreaAndCallLoadsDefine : Prop :=
  let loads (c : Instr) (h : CommandHeader) (code table : Byte) (applied : Nat) (tail : List (List Byte)) (s : State)
      (becomes : State → Prop) : Prop :=
    let answer : Answer :=
      if tail = [] then { result := .done, data := [byte applied] }
      else if applied = 0 then { result := .refusedRange, data := [0] }
      else { result := .partialDone, data := [byte applied, 4] }
    replies c h code answer s fun u =>
      sameBut callParts (begin code h s) u ∧ u.calls.selectors = s.calls.selectors ∧ becomes u ∧
      ((applied = 0 ∨ playerBusy s) →
        sameBut [.report, .attention, .calls, .bells] (begin code h s) u ∧ u.calls.queue = s.calls.queue ∧
        u.calls.player = s.calls.player ∧ u.bells.generators = s.bells.generators ∧
        (roomFor 1 s → u.phase.report = s.phase.report ++
          [entryNow s .table
            [table, 0, if tail = [] then 0 else if applied = 0 then 4 else 2, byte applied]]))
  -- The entries after the applied ones, if any: whole entries of this length, the first of which is out of range.
  let stops (length : Nat) (refused : (Nat → Nat) → Prop) (tail : List (List Byte)) : Prop :=
    (∀ e ∈ tail, e.length = length) ∧ ∀ bad, tail.head? = some bad → refused fun i => (bad.getD i 0).toNat
  let option (top value : Nat) : Prop := value ≤ top ∨ value = 255
  (∀ (h : CommandHeader) (s : State) (entries : List (List Byte × Nat × Option Pattern)) (tail : List (List Byte)),
    accepted h s → s.command.store = none → (entries ≠ [] ∨ tail ≠ []) →
    (∀ x ∈ entries, x.2.1 ≤ 7 ∧
      match x.2.2 with
      | some p => p.inRange = true ∧ x.1 = p.bytes x.2.1
      | none => x.1.length = 8 ∧ x.1.head? = some (byte x.2.1) ∧ x.1.getLast? = some 0) →
    stops 8 (fun b => 7 < b 0 ∨ (b 7 ≠ 0 ∧
      ¬ (1 ≤ b 1 * 256 + b 2 ∧ b 1 * 256 + b 2 ≤ 256 ∧ 1 ≤ b 3 * 256 + b 4 ∧ b 3 * 256 + b 4 ≤ 256 ∧ 1 ≤ b 5 ∧
        b 5 ≤ 16 ∧ b 6 ≤ 100 ∧ b 7 ≤ 8))) tail →
    loads (.ldpt h ((entries.map Prod.fst ++ tail).flatten)) h 0x14 4 entries.length tail s fun u =>
      u.bells.patterns = entries.foldl (fun table x => table.setIfInBounds x.2.1 x.2.2) s.bells.patterns ∧
      u.calls.defs = s.calls.defs ∧ u.calls.areas = s.calls.areas) ∧
  (∀ (h : CommandHeader) (s : State) (entries : List (List Byte × Nat × Option AreaDef)) (tail : List (List Byte)),
    accepted h s → s.command.store = none → (entries ≠ [] ∨ tail ≠ []) →
    (∀ x ∈ entries, x.2.1 ≤ 11 ∧
      match x.2.2 with
      | some d => d.inRange = true ∧ x.1 = d.bytes x.2.1
      | none => x.1.length = 8 ∧ x.1.head? = some (byte x.2.1) ∧ x.1[1]? = some 0) →
    stops 8 (fun b => 11 < b 0 ∨ (b 1 ≠ 0 ∧
      ¬ (b 1 ≤ 2 ∧ b 3 ≤ 2 ∧ b 4 ≤ 126 ∧ option 3 (b 5) ∧ b 6 ≤ 126 ∧ option 3 (b 7)))) tail →
    loads (.ldrt h ((entries.map Prod.fst ++ tail).flatten)) h 0x15 5 entries.length tail s fun u =>
      u.calls.areas = entries.foldl (fun table x => table.setIfInBounds x.2.1 x.2.2) s.calls.areas ∧
      u.calls.defs = s.calls.defs ∧ u.bells.patterns = s.bells.patterns) ∧
  ∀ (h : CommandHeader) (s : State) (entries : List (List Byte × Nat × Option CallDef)) (tail : List (List Byte)),
    accepted h s → s.command.store = none → (entries ≠ [] ∨ tail ≠ []) →
    (∀ x ∈ entries, x.2.1 ≤ 31 ∧
      match x.2.2 with
      | some d => d.inRange = true ∧ x.1 = d.bytes x.2.1
      | none => x.1.length = 15 ∧ x.1.head? = some (byte x.2.1) ∧ x.1[8]? = some 0) →
    stops 15 (fun b => 31 < b 0 ∨ (b 8 ≠ 0 ∧
      ¬ (b 8 ≤ 4 ∧ option 7 (b 3) ∧ option 63 (b 4) ∧ b 5 ≤ 60 ∧ b 6 ≤ 2 ∧ b 9 ≤ 60 ∧ 10 ≤ b 10 * 256 + b 11 ∧
        b 10 * 256 + b 11 ≤ 3600 ∧ option 1 (b 12) ∧ b 13 * 256 + b 14 ≤ 3600))) tail →
    loads (.ldcl h ((entries.map Prod.fst ++ tail).flatten)) h 0x13 3 entries.length tail s fun u =>
      u.calls.defs = entries.foldl
        (fun table x => table.setIfInBounds x.2.1 (x.2.2.map fun d =>
          { defn := d
            fired := match (table[x.2.1]?).join with
              | none => false
              | some old =>
                old.fired && decide (d.anchor ≠ none ∧ old.defn.anchor = d.anchor ∧ old.defn.offset = d.offset) }))
        s.calls.defs ∧
      u.calls.areas = s.calls.areas ∧ u.bells.patterns = s.bells.patterns

/-- One entry of LDPO, LDCU or LDZN in range inserts, replaces or deletes: a policy entry keeps its runtime fields when it is
replaced, and a console group whose channels changed and are all silent goes to the part; a cue is replaced whole; a new zone
is NORMAL, a zone in NORMAL or ISOLATED takes the new definition, and a CLOSED window is defined or cleared. Every other entry
of the table stays, and a TABLE entry is appended; an entry out of range after it stops the load with PARTIAL, count 1. A first
entry out of range, one too many in a full table, and a zone in another state or an OPEN window are refused with count 0. -/
def Obligations.PolicyCueAndZoneLoadsDefine : Prop :=
  -- One entry is applied and, if others stand behind it, the next is out of range and stops the load.
  let applies (c : Instr) (h : CommandHeader) (code table : Byte) (tail : List (List Byte)) (changed : List Part) (s : State)
      (becomes : State → Prop) : Prop :=
    let answer : Answer :=
      if tail = [] then { result := .done, data := [1] } else { result := .partialDone, data := [1, 4] }
    replies c h code answer s fun u =>
      sameBut ([.attention, .report] ++ changed) (begin code h s) u ∧ becomes u ∧
      (roomFor 1 s → u.phase.report = s.phase.report ++
        [entryNow s .table [table, 0, if tail = [] then 0 else 2, 1]])
  -- The first entry is refused: nothing is applied.
  let refuses (c : Instr) (h : CommandHeader) (code table : Byte) (result : Result) (reason : Byte) (s : State) : Prop :=
    replies c h code { result := result, data := [0] } s fun u =>
      sameBut [.attention, .report] (begin code h s) u ∧
      (roomFor 1 s → u.phase.report = s.phase.report ++ [entryNow s .table [table, 0, reason, 0]])
  let stops (isEntry : List Byte → Prop) (refused : (Nat → Nat) → Prop) (tail : List (List Byte)) : Prop :=
    (∀ e ∈ tail, isEntry e) ∧ ∀ bad, tail.head? = some bad → refused fun i => (bad.getD i 0).toNat
  let policyEntry (e : List Byte) : Prop := e.length = 9
  let policyRefused (b : Nat → Nat) : Prop :=
    3 < b 0 ∨ 511 < b 1 * 256 + b 2 ∨ 4 < b 3 ∨ (b 3 = 1 ∧ (7 < b 4 ∨ 2 < b 5)) ∨ (b 3 = 4 ∧ 15 < b 7)
  let cueEntry (e : List Byte) : Prop := (e[3]?).map (fun count => 4 + 6 * count.toNat) = some e.length
  let cueRefused (b : Nat → Nat) : Prop :=
    3 < b 0 ∨ 9999 < b 1 * 256 + b 2 ∨ 4 < b 3 ∨
    ∃ action < b 3,
      let argument (i : Nat) : Nat := b (4 + 6 * action + i)
      6 < argument 0 ∨ (argument 0 = 0 ∧ (7 < argument 1 ∨ 5 < argument 2)) ∨
      (argument 0 = 1 ∧ (7 < argument 1 ∨ 36000 < argument 4 * 256 + argument 5)) ∨
      ((argument 0 = 2 ∨ argument 0 = 3) ∧ 15 < argument 1) ∨ (argument 0 = 4 ∧ 31 < argument 1)
  let zoneEntry (e : List Byte) : Prop := (e.head? = some 0 ∧ e.length = 6) ∨ (e.head? = some 1 ∧ e.length = 10)
  let zoneRefused (b : Nat → Nat) : Prop :=
    (b 0 = 0 ∧ (47 < b 1 ∨ 3 < b 2 ∨
      (b 2 ≠ 0 ∧ (600 < b 3 * 256 + b 4 ∨ (b 5 ≠ 255 ∧ (47 < b 5 ∨ b 5 = b 1)))))) ∨
    (b 0 = 1 ∧ (15 < b 1 ∨ 600 < b 2 * 256 + b 3))
  (∀ (h : CommandHeader) (s : State) (tail : List (List Byte)), accepted h s → s.command.store = none →
    (s.phase.phase = .closed ∨ s.phase.phase = .preshow) → stops policyEntry policyRefused tail →
    -- The groups whose channels the entry changed are checked: one that is all silent goes from the console to the part.
    let checks (changed : Nat → Prop) (u : State) : Prop :=
      u.lights.refreshTimer = s.lights.refreshTimer ∧
      ∀ g group, s.lights.groups[g]? = some group →
        let members := u.lights.policy.filter fun e => e.defn.inGroup g
        let taken : Prop := changed g ∧ group.owner = .console ∧ members ≠ [] ∧ ∀ e ∈ members, e.silence = none
        (taken → isRaised .consoleSilent u ∧
          u.lights.groups[g]? = some
            { level := 257 * highest (members.map fun e => e.lastLevel.toNat), owner := .part, fade := none
              stepTimer := none }) ∧
        (¬ taken → u.lights.groups[g]? = some group)
    (∀ d : PolicyDef, d.inRange → findPolicy s d.segment d.channel = none → s.lights.policy.length < 96 →
      applies (.ldpo h (d.bytes ++ tail.flatten)) h 0x10 0 tail [.lights, .outputs] s fun u =>
        findPolicy u d.segment d.channel = some (PolicyEntry.initial d) ∧
        (∀ segment channel, ¬ (segment = d.segment ∧ channel = d.channel) →
          findPolicy u segment channel = findPolicy s segment channel) ∧
        u.lights.policy.length = s.lights.policy.length + 1 ∧ checks (fun g => d.inGroup g) u) ∧
    (∀ (d : PolicyDef) (old : PolicyEntry), d.inRange → findPolicy s d.segment d.channel = some old →
      applies (.ldpo h (d.bytes ++ tail.flatten)) h 0x10 0 tail [.lights] s fun u =>
        u.lights.policy = (s.lights.policy.map fun e =>
          if e.defn.hasKey d.segment d.channel then { e with defn := d } else e) ∧
        findPolicy u d.segment d.channel = some { old with defn := d } ∧
        checks (fun g => d.inGroup g ≠ old.defn.inGroup g) u) ∧
    (∀ (segment channel : Nat) (unused : List Byte), segment ≤ 3 → channel ≤ 511 → unused.length = 5 →
      applies (.ldpo h ((byte segment :: bytes2 channel ++ 0 :: unused) ++ tail.flatten)) h 0x10 0 tail
        [.lights, .outputs] s fun u =>
          u.lights.policy = (s.lights.policy.filter fun e => !e.defn.hasKey segment channel) ∧
          findPolicy u segment channel = none ∧
          match findPolicy s segment channel with
          | some old => checks (fun g => old.defn.inGroup g) u
          | none => u.lights = s.lights) ∧
    (∀ d : PolicyDef, d.inRange → findPolicy s d.segment d.channel = none → 96 ≤ s.lights.policy.length →
      refuses (.ldpo h (d.bytes ++ tail.flatten)) h 0x10 0 .refusedFull 5 s) ∧
    (tail ≠ [] → refuses (.ldpo h tail.flatten) h 0x10 0 .refusedRange 4 s)) ∧
  (∀ (h : CommandHeader) (s : State) (tail : List (List Byte)), accepted h s → s.command.store = none →
    stops cueEntry cueRefused tail →
    (∀ e : CueEntry, e.inRange → findCue s e.list e.cue = none → s.cues.table.length < 256 →
      applies (.ldcu h (e.bytes ++ tail.flatten)) h 0x11 1 tail [.cues] s fun u =>
        findCue u e.list e.cue = some e ∧
        (∀ list cue, ¬ (list = e.list ∧ cue = e.cue) → findCue u list cue = findCue s list cue) ∧
        u.cues.table.length = s.cues.table.length + 1 ∧ u.cues.execution = s.cues.execution) ∧
    (∀ e old : CueEntry, e.inRange → findCue s e.list e.cue = some old →
      applies (.ldcu h (e.bytes ++ tail.flatten)) h 0x11 1 tail [.cues] s fun u =>
        findCue u e.list e.cue = some e ∧
        u.cues =
          { s.cues with table := s.cues.table.map fun x => if x.list = e.list ∧ x.cue = e.cue then e else x }) ∧
    (∀ list cue : Nat, list ≤ 3 → cue ≤ 9999 →
      applies (.ldcu h ((byte list :: bytes2 cue ++ [0]) ++ tail.flatten)) h 0x11 1 tail [.cues] s fun u =>
        findCue u list cue = none ∧
        u.cues = { s.cues with table := s.cues.table.filter fun x => !decide (x.list = list ∧ x.cue = cue) }) ∧
    (∀ e : CueEntry, e.inRange → findCue s e.list e.cue = none → 256 ≤ s.cues.table.length →
      refuses (.ldcu h (e.bytes ++ tail.flatten)) h 0x11 1 .refusedFull 5 s) ∧
    (tail ≠ [] → refuses (.ldcu h tail.flatten) h 0x11 1 .refusedRange 4 s)) ∧
  ∀ (h : CommandHeader) (s : State) (tail : List (List Byte)), accepted h s → s.command.store = none →
    (s.phase.phase = .closed ∨ s.phase.phase = .preshow) → stops zoneEntry zoneRefused tail →
    (tail ≠ [] → refuses (.ldzn h tail.flatten) h 0x12 2 .refusedRange 4 s) ∧
    (∀ (z : Nat) (entry : List Byte) (load : Option ZoneDef), z ≤ 47 →
      (match load with
        | some d => d.inRange z = true ∧ entry = d.bytes z
        | none => entry.length = 6 ∧ entry.take 3 = [0, byte z, 0]) →
      (∀ zone, zoneAt s z = some zone → zone.state ≠ .normal → zone.state ≠ .isolated →
        refuses (.ldzn h (entry ++ tail.flatten)) h 0x12 2 .refusedState 3 s) ∧
      ((∀ zone, zoneAt s z = some zone → zone.state = .normal ∨ zone.state = .isolated) →
        recordDerived s → windowsClosedInAlarm s →
        applies (.ldzn h (entry ++ tail.flatten)) h 0x12 2 tail [.zones] s fun u =>
          u.zones =
            { s.zones with
              zones := s.zones.zones.setIfInBounds z (load.map fun d =>
                match zoneAt s z with
                | some zone => { zone with defn := d }
                | none =>
                  { defn := d, state := .normal, last := .clear, lastReport := s.clock, stale := false
                    verifyTimer := none
                    staleTimer := some
                      { start := s.clock, length := s.command.profile.zoneReportLimit * 1000 } }) })) ∧
    ∀ (w : Nat) (entry : List Byte) (load : Option WindowDef), w ≤ 15 →
      (match load with
        | some d => d.inRange = true ∧ entry = d.bytes w
        | none => entry.length = 10 ∧ entry.take 4 = [1, byte w, 0, 0]) →
      (windowOpen s w → refuses (.ldzn h (entry ++ tail.flatten)) h 0x12 2 .refusedState 3 s) ∧
      (windowOpen s w = false → recordDerived s → windowsClosedInAlarm s →
        applies (.ldzn h (entry ++ tail.flatten)) h 0x12 2 tail [.zones] s fun u =>
          u.zones =
            { s.zones with
              windows := s.zones.windows.setIfInBounds w { defn := load, isOpen := false, timer := none } })

/-- LDPF with one field's entry puts its value into the working profile: inside the field's range as it is, outside it clamped
to the nearest end, and DONE_CLAMPED exactly then; RDTB reads the clamped value back, every other field stays, and the ports
take a new divisor. A travel length of 0 and an unknown field code are refused. CLTB empties one table and leaves the others,
the call queue and the player (the model's choice, log entry 26); the zone table only with every zone NORMAL or ISOLATED and
every window closed, PANEL being no zone (log entry 46). -/
def Obligations.ProfileLoadsAndTableClears : Prop :=
  -- The field codes of 11.9 whose values are clamped into a range, with its ends.
  let ranges : List (Nat × Nat × Nat) :=
    [(0x01, 1, 126), (0x02, 0, 4095), (0x03, 300, 6000), (0x04, 100, 2000), (0x05, 200, 5000), (0x06, 1, 30),
      (0x07, 0, 3600), (0x10, 1, 15), (0x11, 1, 15), (0x12, 1, 15), (0x13, 1, 15), (0x14, 1, 15), (0x15, 1, 15),
      (0x16, 1, 15), (0x17, 1, 15), (0x40, 0, 126), (0x41, 1000, 65535), (0x42, 0, 255), (0x43, 0, 255),
      (0x44, 5000, 60000), (0x45, 0, 5000), (0x46, 1, 256), (0x47, 1, 1024), (0x48, 1, 8), (0x49, 50, 2000),
      (0x4A, 200, 5000), (0x4B, 100, 5000), (0x4C, 10, 300), (0x4D, 0, 30), (0x4E, 0, 65535), (0x50, 1, 60),
      (0x62, 0, 60), (0x63, 0, 60), (0x66, 0, 60), (0x67, 10, 3600)]
  let edges : List Nat := [0x18, 0x19, 0x1A, 0x1B, 0x1C, 0x1D, 0x1E, 0x1F]
  -- The codes of a built-in call's pattern or slot, with the highest number each names.
  let options : List (Nat × Nat) := [(0x60, 7), (0x61, 63), (0x64, 7), (0x65, 63)]
  (∀ (h : CommandHeader) (s : State), accepted h s → s.command.store = none →
    (s.phase.phase = .closed ∨ s.phase.phase = .preshow) →
    let holds (code value held : Nat) (clamped : Bool) : Prop :=
      replies (.ldpf h (byte code :: bytes2 value)) h 0x16
        { result := if clamped then .doneClamped else .done, data := [1] } s fun u =>
          sameBut [.sender, .receiver, .command, .attention, .report] (begin 0x16 h s) u ∧
          u.command.profile.read code = held ∧
          (∀ other ∈ profileCodes, other ≠ code → u.command.profile.read other = s.command.profile.read other) ∧
          u.command.managing = { (begin 0x16 h s).command.managing with profile := u.command.profile } ∧
          u.loop =
            { s.loop with
              inDivisor := max 5 u.command.profile.divisor
              outDivisor := if s.loop.sending.isSome then s.loop.outDivisor else max 5 u.command.profile.divisor } ∧
          (roomFor 1 s → u.phase.report = s.phase.report ++
            [entryNow s .table [6, 0, if clamped then 1 else 0, 1]])
    let refused (code value : Nat) : Prop :=
      replies (.ldpf h (byte code :: bytes2 value)) h 0x16 { result := .refusedRange, data := [0] } s fun u =>
        sameBut [.attention, .report] (begin 0x16 h s) u ∧
        (roomFor 1 s → u.phase.report = s.phase.report ++ [entryNow s .table [6, 0, 4, 0]])
    ∀ value ≤ 65535,
      (∀ row ∈ ranges, ¬ (row.1 = 0x41 ∧ value = 0) →
        holds row.1 value (max row.2.1 (min row.2.2 value)) (decide (value < row.2.1 ∨ row.2.2 < value))) ∧
      (∀ code ∈ edges, holds code value (if value ≤ 2 then value else 2) (decide (2 < value))) ∧
      (∀ row ∈ options,
        holds row.1 value (if value ≤ row.2 then value else 255) (decide (row.2 < value ∧ value ≠ 255))) ∧
      holds 0x4F value (value % 256) false ∧
      (value = 0 → refused 0x41 value) ∧
      ∀ code < 256, code ∉ ranges.map Prod.fst → code ∉ edges → code ∉ options.map Prod.fst → code ≠ 0x4F →
        refused code value) ∧
  ∀ (h : CommandHeader) (s : State) (table : Byte), accepted h s → s.command.store = none →
    (s.phase.phase = .closed ∨ s.phase.phase = .preshow) →
    let clearable : Prop :=
      (∀ z zone, zoneAt s z = some zone → zone.state = .normal ∨ zone.state = .isolated) ∧ ∀ w, windowOpen s w = false
    (6 < table.toNat → onlyReplies (.cltb h table) h 0x17 .refusedRange s) ∧
    (table = 2 → ¬ clearable → onlyReplies (.cltb h table) h 0x17 .refusedState s) ∧
    (table.toNat ≤ 6 → (table = 2 → clearable) →
      replies (.cltb h table) h 0x17 (.plain .done) s fun u =>
        (table.toNat ≤ 5 → tableEntries table.toNat u = some []) ∧
        (table = 6 → u.command.profile = Profile.default) ∧
        (∀ other ≤ 6, other ≠ table.toNat → tableEntries other u = tableEntries other s) ∧
        sameBut [.sender, .receiver, .report, .lights, .outputs, .zones, .cues, .calls, .bells, .attention, .command]
          (begin 0x17 h s) u ∧
        u.zones.alarm = s.zones.alarm ∧ u.zones.panel = s.zones.panel ∧ u.lights.groups = s.lights.groups ∧
        u.calls.queue = s.calls.queue ∧
        u.calls.player = s.calls.player ∧ u.bells.generators = s.bells.generators ∧
        u.loop.forward = s.loop.forward ∧ u.loop.origin = s.loop.origin ∧ u.loop.sending = s.loop.sending ∧
        (roomFor 1 s → u.phase.report = s.phase.report ++ [entryNow s .table [table, 1, 0, 0]]))

/-! ## The performance record -/

/-- BGPF begins a performance in PRESHOW with an empty report and every fired mark clear, and OPHS opens the house; each in
its phase alone. -/
def Obligations.PerformanceBeginsAndHouseOpens : Prop :=
  ∀ (h : CommandHeader) (s : State), accepted h s →
    (∀ number countdown : BitVec 16,
      ((number = 0 ∨ 9999 < number.toNat ∨ 7200 < countdown.toNat) →
        onlyReplies (.bgpf h number countdown) h 0x20 .refusedRange s) ∧
      (1 ≤ number.toNat → number.toNat ≤ 9999 → countdown.toNat ≤ 7200 →
        ((s.phase.phase ≠ .closed ∨ s.zones.alarm.confirmed ≠ []) →
          onlyReplies (.bgpf h number countdown) h 0x20 .refusedState s) ∧
        (s.phase.phase = .closed → s.zones.alarm.confirmed = [] → s.lights.k4 = false →
          replies (.bgpf h number countdown) h 0x20 (.plain .done) s fun u =>
            sameBut phaseParts (begin 0x20 h s) u ∧
            u.phase.record =
              { s.phase.record with
                phase := .preshow, number := number.toNat, act := 0, curtainUp := countdown.toNat, intervalLeft := 0
                demoStatus := .notDone, demoTime := 0 } ∧
            u.phase.report.head? = some (entryNow s .phase [1, 0, 0, 0, flagByte s.phase.showStop]) ∧
            (∀ id e, callEntry u id = some e → e.fired = false) ∧
            noticed true u fun v => v.phase.phase = .preshow))) ∧
    (s.phase.phase ≠ .preshow → onlyReplies (.ophs h) h 0x21 .refusedState s) ∧
    (s.phase.phase = .preshow → relaysFollow s → roomFor 1 s →
      replies (.ophs h) h 0x21 (.plain .done) s fun u =>
        sameBut phaseParts (begin 0x21 h s) u ∧ u.phase.record = { s.phase.record with phase := .houseOpen } ∧
        (s.phase.report ++ [entryNow s .phase [2, 1, byte s.phase.act, 0, flagByte s.phase.showStop]]).isPrefixOf
          u.phase.report ∧
        noticed true u fun v => v.phase.phase = .houseOpen)

/-- HOLD holds PRESHOW or HOUSE_OPEN, and RLHD returns to it; a hold-pending second counts the curtain-up countdown down by
one at the release. -/
def Obligations.HouseIsHeldAndReleased : Prop :=
  ∀ (h : CommandHeader) (s : State), accepted h s →
    (s.phase.phase ≠ .preshow → s.phase.phase ≠ .houseOpen → onlyReplies (.hold h) h 0x22 .refusedState s) ∧
    ((s.phase.phase = .preshow ∨ s.phase.phase = .houseOpen) → relaysFollow s → roomFor 2 s →
      replies (.hold h) h 0x22 (.plain .done) s fun u =>
        sameBut phaseParts (begin 0x22 h s) u ∧
        u.phase.record = { s.phase.record with phase := .held, heldFrom := some s.phase.phase } ∧
        (s.phase.report ++
          [entryNow s .phase [3, byte s.phase.phase.code, byte s.phase.act, 0, flagByte s.phase.showStop],
            entryNow s .hold ([0] ++ bytes2 s.phase.curtainUp ++ [flagByte s.phase.holdPending])]).isPrefixOf
          u.phase.report ∧
        noticed true u fun v => v.phase.phase = .held) ∧
    (s.phase.phase ≠ .held → onlyReplies (.rlhd h) h 0x23 .refusedState s) ∧
    ∀ target, s.phase.phase = .held → s.phase.heldFrom = some target → (target = .preshow ∨ target = .houseOpen) →
      relaysFollow s → roomFor 1 s →
      replies (.rlhd h) h 0x23 (.plain .done) s fun u =>
        sameBut phaseParts (begin 0x23 h s) u ∧
        u.phase.record =
          { s.phase.record with
            phase := target, heldFrom := none, holdPending := false
            curtainUp := if s.phase.holdPending then s.phase.curtainUp - 1 else s.phase.curtainUp } ∧
        gains (entryNow s .phase [byte target.code, 3, byte s.phase.act, 0, flagByte s.phase.showStop]) s u ∧
        noticed true u fun v => v.phase.phase = target

/-- STCD sets the countdown of the present phase, whole: each row of its table, no announcement and no report entry; what it
sets is decremented and announced by the next wrap, and in HELD a later wrap sets the hold-pending second again. -/
def Obligations.SetCountdownFollowsItsTable : Prop :=
  ∀ (h : CommandHeader) (s : State) (value : BitVec 16), accepted h s →
    let becomes (result : Result) (f : PhaseUnit → PhaseUnit) : Prop :=
      exec (.stcd h value) s = .next (replied h 0x24 (.plain result) ((begin 0x24 h s).onPhase f))
    (7200 < value.toNat → becomes .refusedRange id) ∧
    (value.toNat ≤ 7200 →
      ((s.phase.phase = .preshow ∨ s.phase.phase = .houseOpen) →
        becomes .done fun p => { p with curtainUp := value.toNat }) ∧
      (s.phase.phase = .held → becomes .done fun p => { p with curtainUp := value.toNat, holdPending := false }) ∧
      (s.phase.phase = .interval → value.toNat ≤ 3600 → becomes .done fun p => { p with intervalLeft := value.toNat }) ∧
      (s.phase.phase = .interval → 3600 < value.toNat → becomes .doneClamped fun p => { p with intervalLeft := 3600 }) ∧
      ((s.phase.phase = .closed ∨ s.phase.phase = .running ∨ s.phase.phase = .egress ∨ s.phase.phase = .evacuating) →
        becomes .refusedState id)) ∧
    (s.phase.wrapDue → 0 < value.toNat → value.toNat ≤ 7200 →
      ((s.phase.phase = .preshow ∨ s.phase.phase = .houseOpen) →
        (∃ t, run [.stcd h value, .prescalerWrap] s = some t ∧ t.phase.curtainUp = value.toNat - 1 ∧
          ∀ id e, callEntry s id = some e → e.defn.anchor = some .curtainUp → e.defn.offset = value.toNat - 1 →
            (callEntry t id).any CallEntry.fired) ∧
        ∃ t, run [.prescalerWrap, .stcd h value] s = some t ∧ t.phase.curtainUp = value.toNat) ∧
      (s.phase.phase = .interval → value.toNat ≤ 3600 →
        (∃ t, run [.stcd h value, .prescalerWrap] s = some t ∧ t.phase.intervalLeft = value.toNat - 1 ∧
          ∀ id e, callEntry s id = some e → e.defn.anchor = some .intervalEnd → e.defn.offset = value.toNat - 1 →
            (callEntry t id).any CallEntry.fired) ∧
        ∃ t, run [.prescalerWrap, .stcd h value] s = some t ∧ t.phase.intervalLeft = value.toNat) ∧
      (s.phase.phase = .held →
        ∃ t, run [.stcd h value, .prescalerWrap] s = some t ∧ t.phase.curtainUp = value.toNat ∧ t.phase.holdPending = true))

/-- PHSE takes the transitions of the table: act 1 from HOUSE_OPEN or HELD, with the check of the demonstration, the interval
with its countdown, the next act, and EGRESS; a target or an act that does not fit, a target that no transition reaches from
the present phase, and an interval above 3600 s are refused. -/
def Obligations.PhaseRequestsFollowTheTable : Prop :=
  ∀ (h : CommandHeader) (s : State) (target act : Byte) (interval : BitVec 16), accepted h s →
    ((target = 0 ∨ target = 1 ∨ target = 3 ∨ 6 < target.toNat ∨ 5 < act.toNat) →
      onlyReplies (.phse h target act interval) h 0x25 .refusedRange s) ∧
    (target = 2 → act = 0 → s.phase.phase = .preshow → relaysFollow s → roomFor 1 s →
      replies (.phse h target act interval) h 0x25 (.plain .done) s fun u =>
        sameBut phaseParts (begin 0x25 h s) u ∧ u.phase.record = { s.phase.record with phase := .houseOpen } ∧
        gains (entryNow s .phase [2, 1, byte s.phase.act, 0, flagByte s.phase.showStop]) s u) ∧
    (target = 2 → act.toNat ≤ 5 → (s.phase.phase ≠ .preshow ∨ act ≠ 0) →
      onlyReplies (.phse h target act interval) h 0x25 .refusedState s) ∧
    (target = 4 → act.toNat ≤ 1 → (s.phase.phase = .houseOpen ∨ s.phase.phase = .held) → relaysFollow s → roomFor 3 s →
      replies (.phse h target act interval) h 0x25 (.plain .done) s fun u =>
        sameBut (.curtain :: phaseParts) (begin 0x25 h s) u ∧
        u.phase.record =
          { s.phase.record with
            phase := .running, act := 1, heldFrom := none, holdPending := false
            demoStatus := if s.phase.demoStatus = .passed then .passed else .missed } ∧
        u.curtain.state = s.curtain.state ∧ u.curtain.mode = s.curtain.mode ∧
        gains (entryNow s .phase [4, byte s.phase.phase.code, 1, 0, flagByte s.phase.showStop]) s u ∧
        (s.phase.demoStatus ≠ .passed → isRaised .demoResult u ∧
          gains (entryNow s .demo ([6, 0xFF] ++ bytes2 s.phase.demoTime ++ [0])) s u)) ∧
    (target = 4 → act.toNat ≤ 5 →
      (s.phase.phase = .closed ∨ s.phase.phase = .preshow ∨ s.phase.phase = .running ∨ s.phase.phase = .egress ∨
        s.phase.phase = .evacuating ∨
        ((s.phase.phase = .houseOpen ∨ s.phase.phase = .held) ∧ 1 < act.toNat) ∨
        (s.phase.phase = .interval ∧ (s.phase.act = 5 ∨ (act ≠ 0 ∧ act.toNat ≠ s.phase.act + 1)))) →
      onlyReplies (.phse h target act interval) h 0x25 .refusedState s) ∧
    (target = 5 → (act = 0 ∨ act.toNat = s.phase.act) → act.toNat ≤ 5 → s.phase.phase = .running →
      interval.toNat ≤ 3600 → relaysFollow s → roomFor 1 s →
      replies (.phse h target act interval) h 0x25 (.plain .done) s fun u =>
        sameBut phaseParts (begin 0x25 h s) u ∧
        u.phase.record = { s.phase.record with phase := .interval, intervalLeft := interval.toNat } ∧
        (∀ id e, callEntry u id = some e → e.defn.anchor = some .intervalEnd → e.fired = false) ∧
        gains (entryNow s .phase [5, 4, byte s.phase.act, 0, flagByte s.phase.showStop]) s u) ∧
    (target = 5 → act.toNat ≤ 5 → act ≠ 0 → act.toNat ≠ s.phase.act →
      onlyReplies (.phse h target act interval) h 0x25 .refusedState s) ∧
    (target = 5 → act.toNat ≤ 5 → (act = 0 ∨ act.toNat = s.phase.act) →
      (3600 < interval.toNat → onlyReplies (.phse h target act interval) h 0x25 .refusedRange s) ∧
      (interval.toNat ≤ 3600 → s.phase.phase ≠ .running →
        onlyReplies (.phse h target act interval) h 0x25 .refusedState s)) ∧
    (target = 4 → (act = 0 ∨ act.toNat = s.phase.act + 1) → act.toNat ≤ 5 → s.phase.phase = .interval →
      s.phase.act < 5 → relaysFollow s → roomFor 1 s →
      replies (.phse h target act interval) h 0x25 (.plain .done) s fun u =>
        sameBut phaseParts (begin 0x25 h s) u ∧
        u.phase.record = { s.phase.record with phase := .running, act := s.phase.act + 1 } ∧
        gains (entryNow s .phase [4, 5, byte (s.phase.act + 1), 0, flagByte s.phase.showStop]) s u) ∧
    (target = 6 → (act = 0 ∨ act.toNat = s.phase.act) → act.toNat ≤ 5 → s.phase.phase = .running → relaysFollow s →
      roomFor 1 s →
      replies (.phse h target act interval) h 0x25 (.plain .done) s fun u =>
        sameBut phaseParts (begin 0x25 h s) u ∧ u.phase.record = { s.phase.record with phase := .egress } ∧
        gains (entryNow s .phase [6, 4, byte s.phase.act, 0, flagByte s.phase.showStop]) s u) ∧
    (target = 6 → act.toNat ≤ 5 → (s.phase.phase ≠ .running ∨ (act ≠ 0 ∧ act.toNat ≠ s.phase.act)) →
      onlyReplies (.phse h target act interval) h 0x25 .refusedState s)

/-- SHST sets show stop in any phase but CLOSED and SHRS clears it; a change is reported and announced, an unchanged flag is
DONE without effect. EVRS leaves EVACUATING for the saved phase once the confirmed set is empty. -/
def Obligations.ShowStopAndEvacuationReturn : Prop :=
  ∀ (h : CommandHeader) (s : State), accepted h s →
    (s.phase.phase = .closed → onlyReplies (.shst h) h 0x26 .refusedState s) ∧
    (s.phase.phase ≠ .closed → s.phase.showStop = true → onlyReplies (.shst h) h 0x26 .done s) ∧
    (s.phase.phase ≠ .closed → s.phase.showStop = false → roomFor 1 s →
      replies (.shst h) h 0x26 (.plain .done) s fun u =>
        sameBut phaseParts (begin 0x26 h s) u ∧ u.phase.record = { s.phase.record with showStop := true } ∧
        (s.phase.report ++ [entryNow s .phase
          [byte s.phase.phase.code, byte s.phase.phase.code, byte s.phase.act, 0, 1]]).isPrefixOf u.phase.report ∧
        overrideActive u ∧ noticed true u fun v => v.phase.showStop = true) ∧
    (s.phase.showStop = false → onlyReplies (.shrs h) h 0x27 .done s) ∧
    (s.phase.showStop = true → roomFor 1 s →
      replies (.shrs h) h 0x27 (.plain .done) s fun u =>
        sameBut phaseParts (begin 0x27 h s) u ∧ u.phase.record = { s.phase.record with showStop := false } ∧
        (s.phase.report ++ [entryNow s .phase
          [byte s.phase.phase.code, byte s.phase.phase.code, byte s.phase.act, 0, 0]]).isPrefixOf u.phase.report ∧
        noticed true u fun v => v.phase.showStop = false) ∧
    ((s.phase.phase ≠ .evacuating ∨ s.zones.alarm.confirmed ≠ []) → onlyReplies (.evrs h) h 0x28 .refusedState s) ∧
    ∀ saved, s.phase.phase = .evacuating → s.zones.alarm.confirmed = [] → s.phase.saved = some saved →
      phasesKept s.phase → roomFor 1 s →
      replies (.evrs h) h 0x28 (.plain .done) s fun u =>
        sameBut (.lights :: phaseParts) (begin 0x28 h s) u ∧
        u.phase.record = { s.phase.record with phase := saved, saved := none } ∧
        u.lights.k4 = false ∧ u.lights.groups = s.lights.groups ∧
        gains (entryNow s .phase [byte saved.code, 7, byte s.phase.act, 0, flagByte s.phase.showStop]) s u ∧
        noticed true u fun v => v.phase.phase = saved

/-- ENPF closes the performance from any phase but CLOSED, and but for EVACUATING with a confirmed alarm: windows close, the
countdowns, the hold and show stop are cleared, and a demonstration in progress, which stands only while the confirmed set is
empty (an invariant of every step), ends: STOPPED unless a closing window confirms an alarm; the PHASE entry is appended, and
for a hold that is left its HOLD END entry with the cleared countdown (log entries 14 and 33). -/
def Obligations.EndPerformanceCloses : Prop :=
  ∀ (h : CommandHeader) (s : State), accepted h s →
    ((s.phase.phase = .closed ∨ (s.phase.phase = .evacuating ∧ s.zones.alarm.confirmed ≠ [])) →
      onlyReplies (.enpf h) h 0x29 .refusedState s) ∧
    (s.phase.phase ≠ .closed → (s.phase.phase = .evacuating → s.zones.alarm.confirmed = []) →
      replies (.enpf h) h 0x29 (.plain .done) s fun u =>
        sameBut alarmParts (begin 0x29 h s) u ∧ u.phase.phase = .closed ∧ u.phase.curtainUp = 0 ∧
        u.phase.intervalLeft = 0 ∧ u.phase.heldFrom = none ∧ u.phase.saved = none ∧ u.phase.holdPending = false ∧
        u.phase.showStop = false ∧ u.phase.act = s.phase.act ∧ u.phase.number = s.phase.number ∧
        (s.phase.demoStatus.inProgress = false → u.phase.demoStatus = s.phase.demoStatus) ∧
        (s.phase.demoStatus.inProgress = true → demoOutsideAlarm s →
          (u.phase.demoStatus = .failed .stopped ∨ u.phase.demoStatus = .failed .alarm) ∧
          isRaised .demoResult u ∧ u.curtain.sequence.dwellTimer = none) ∧
        (∀ w, windowOpen u w = false) ∧
        (recordDerived s → (∀ z, zoneIs s z .masked = false) →
          (s.phase.demoStatus.inProgress = true → u.phase.demoStatus = .failed .stopped) ∧
          u.curtain.state = s.curtain.state ∧ u.curtain.mode = s.curtain.mode ∧
          (roomFor 19 s →
            gains (entryNow s .phase [0, byte s.phase.phase.code, byte s.phase.act, 0, 0]) s u ∧
            (s.phase.phase = .held → gains (entryNow s .hold [1, 0, 0, 0]) s u) ∧
            (s.phase.demoStatus.inProgress = true → gains
              (entryNow s .demo ([5, 5] ++ bytes2 s.phase.demoTime ++ [s.curtain.sequence.markByte])) s u))) ∧
        noticed true u fun v => v.phase.phase = .closed)

/-! ## Invariants -/

/-- No step makes a queue, the report or a count exceed its capacity. -/
def Obligations.StepKeepsCapacities : Prop :=
  ∀ s t : State, withinCapacities s → step s = .next t → withinCapacities t

/-- Every step leaves every relay following its condition, where the Curtain Supervisor holds the record's stage-side value. -/
def Obligations.StepKeepsRelays : Prop :=
  ∀ s t : State, relaysFollow s → recordDerived s → step s = .next t → relaysFollow t ∧ recordDerived t

/-- Every step leaves the alarm condition record the one that the zone states give, every window closed in an alarm, and every
masked zone under an open window. -/
def Obligations.StepKeepsWindowsClosedInAlarm : Prop :=
  ∀ s t : State, recordDerived s → windowsClosedInAlarm s → step s = .next t → recordDerived t ∧ windowsClosedInAlarm t

/-- Every step leaves a verification timer running exactly in VERIFYING, and a window's timer exactly while it is open. -/
def Obligations.StepKeepsZoneTimers : Prop :=
  ∀ s t : State, zoneTimersRun s → step s = .next t → zoneTimersRun t

/-- Every step leaves the curtain's state, mode, cause and pending direction a legal combination, and the estimator's speed,
prediction and late count and the descent times within their ranges. -/
def Obligations.StepKeepsCurtainRecord : Prop :=
  (∀ s t : State, curtainLegal s.curtain → step s = .next t → curtainLegal t.curtain) ∧
  ∀ s t : State, descentInRange s → step s = .next t → descentInRange t

/-- No step leaves a raise driven by the part running in a stage alarm or in EVACUATING. -/
def Obligations.StepRaisesSafely : Prop :=
  ∀ s t : State, raisesSafely s → step s = .next t → raisesSafely t

/-- Every step leaves the performance record legal: the held-from and saved phases present exactly where they must be, the
act, countdowns and prescaler within their ranges, show stop clear in CLOSED; and a demonstration in progress only while the
confirmed set is empty. -/
def Obligations.StepKeepsPerformanceRecord : Prop :=
  (∀ s t : State, phasesKept s.phase → countsInRange s.phase → step s = .next t →
    phasesKept t.phase ∧ countsInRange t.phase) ∧
  ∀ s t : State, demoOutsideAlarm s → step s = .next t → demoOutsideAlarm t

/-- Every step leaves every house group legal (a console's group has no fade, a fading level lies between start and target), a
generator with a latched pattern exactly while it is not IDLE, the stored image invalid while a store runs, and new marks on
set flags alone. -/
def Obligations.StepKeepsGroupsLatchesStoreAndMarks : Prop :=
  (∀ s t : State, groupsLegal s → step s = .next t → groupsLegal t) ∧
  (∀ s t : State, generatorsLatched s → step s = .next t → generatorsLatched t) ∧
  (∀ s t : State, storeInvalidWhileStoring s → step s = .next t → storeInvalidWhileStoring t) ∧
  ∀ s t : State, marksOnFlags s → step s = .next t → marksOnFlags t

/-- The report never loses an entry of a safety kind but by BGPF, RSTR or power: no other command removes or drops one that
stands, and no character or payload that does not carry BGPF or RSTR. -/
def Obligations.SafetyEntriesAreKept : Prop :=
  ∀ (c : Instr) (s t : State) (e : ReportEntry), mayEmptyReport c s = false → e.kind.safety → exec c s = .next t →
    s.phase.report.count e ≤ t.phase.report.count e

end Statements
end

