-- ==== Sys2Proof/Laws/State.lean ====
section
/-! SUPPORT. Each field of the state after each update of a block: one lemma per field per update, true by definition, so that
no proof unfolds a record update. -/

namespace Sys2Proof.Machine

variable (s : State)

/-! ## onLoop -/

@[simp] theorem State.onLoop_loop (f : LoopPort → LoopPort) : (s.onLoop f).loop = f s.loop := rfl
@[simp] theorem State.onLoop_lines (f : LoopPort → LoopPort) : (s.onLoop f).lines = s.lines := rfl
@[simp] theorem State.onLoop_phase (f : LoopPort → LoopPort) : (s.onLoop f).phase = s.phase := rfl
@[simp] theorem State.onLoop_cues (f : LoopPort → LoopPort) : (s.onLoop f).cues = s.cues := rfl
@[simp] theorem State.onLoop_lights (f : LoopPort → LoopPort) : (s.onLoop f).lights = s.lights := rfl
@[simp] theorem State.onLoop_zones (f : LoopPort → LoopPort) : (s.onLoop f).zones = s.zones := rfl
@[simp] theorem State.onLoop_curtain (f : LoopPort → LoopPort) : (s.onLoop f).curtain = s.curtain := rfl
@[simp] theorem State.onLoop_calls (f : LoopPort → LoopPort) : (s.onLoop f).calls = s.calls := rfl
@[simp] theorem State.onLoop_bells (f : LoopPort → LoopPort) : (s.onLoop f).bells = s.bells := rfl
@[simp] theorem State.onLoop_command (f : LoopPort → LoopPort) : (s.onLoop f).command = s.command := rfl
@[simp] theorem State.onLoop_clock (f : LoopPort → LoopPort) : (s.onLoop f).clock = s.clock := rfl
@[simp] theorem State.onLoop_stored (f : LoopPort → LoopPort) : (s.onLoop f).stored = s.stored := rfl
@[simp] theorem State.onLoop_powered (f : LoopPort → LoopPort) : (s.onLoop f).powered = s.powered := rfl
@[simp] theorem State.onLoop_pending (f : LoopPort → LoopPort) : (s.onLoop f).pending = s.pending := rfl

/-- Two updates of one block are one. -/
theorem State.onLoop_onLoop (f g : LoopPort → LoopPort) : (s.onLoop f).onLoop g = s.onLoop (g ∘ f) := rfl

/-! ## onLines -/

@[simp] theorem State.onLines_loop (f : Vector Line 8 → Vector Line 8) : (s.onLines f).loop = s.loop := rfl
@[simp] theorem State.onLines_lines (f : Vector Line 8 → Vector Line 8) : (s.onLines f).lines = f s.lines := rfl
@[simp] theorem State.onLines_phase (f : Vector Line 8 → Vector Line 8) : (s.onLines f).phase = s.phase := rfl
@[simp] theorem State.onLines_cues (f : Vector Line 8 → Vector Line 8) : (s.onLines f).cues = s.cues := rfl
@[simp] theorem State.onLines_lights (f : Vector Line 8 → Vector Line 8) : (s.onLines f).lights = s.lights := rfl
@[simp] theorem State.onLines_zones (f : Vector Line 8 → Vector Line 8) : (s.onLines f).zones = s.zones := rfl
@[simp] theorem State.onLines_curtain (f : Vector Line 8 → Vector Line 8) : (s.onLines f).curtain = s.curtain := rfl
@[simp] theorem State.onLines_calls (f : Vector Line 8 → Vector Line 8) : (s.onLines f).calls = s.calls := rfl
@[simp] theorem State.onLines_bells (f : Vector Line 8 → Vector Line 8) : (s.onLines f).bells = s.bells := rfl
@[simp] theorem State.onLines_command (f : Vector Line 8 → Vector Line 8) : (s.onLines f).command = s.command := rfl
@[simp] theorem State.onLines_clock (f : Vector Line 8 → Vector Line 8) : (s.onLines f).clock = s.clock := rfl
@[simp] theorem State.onLines_stored (f : Vector Line 8 → Vector Line 8) : (s.onLines f).stored = s.stored := rfl
@[simp] theorem State.onLines_powered (f : Vector Line 8 → Vector Line 8) : (s.onLines f).powered = s.powered := rfl
@[simp] theorem State.onLines_pending (f : Vector Line 8 → Vector Line 8) : (s.onLines f).pending = s.pending := rfl

/-- Two updates of one block are one. -/
theorem State.onLines_onLines (f g : Vector Line 8 → Vector Line 8) : (s.onLines f).onLines g = s.onLines (g ∘ f) := rfl

/-! ## onPhase -/

@[simp] theorem State.onPhase_loop (f : PhaseUnit → PhaseUnit) : (s.onPhase f).loop = s.loop := rfl
@[simp] theorem State.onPhase_lines (f : PhaseUnit → PhaseUnit) : (s.onPhase f).lines = s.lines := rfl
@[simp] theorem State.onPhase_phase (f : PhaseUnit → PhaseUnit) : (s.onPhase f).phase = f s.phase := rfl
@[simp] theorem State.onPhase_cues (f : PhaseUnit → PhaseUnit) : (s.onPhase f).cues = s.cues := rfl
@[simp] theorem State.onPhase_lights (f : PhaseUnit → PhaseUnit) : (s.onPhase f).lights = s.lights := rfl
@[simp] theorem State.onPhase_zones (f : PhaseUnit → PhaseUnit) : (s.onPhase f).zones = s.zones := rfl
@[simp] theorem State.onPhase_curtain (f : PhaseUnit → PhaseUnit) : (s.onPhase f).curtain = s.curtain := rfl
@[simp] theorem State.onPhase_calls (f : PhaseUnit → PhaseUnit) : (s.onPhase f).calls = s.calls := rfl
@[simp] theorem State.onPhase_bells (f : PhaseUnit → PhaseUnit) : (s.onPhase f).bells = s.bells := rfl
@[simp] theorem State.onPhase_command (f : PhaseUnit → PhaseUnit) : (s.onPhase f).command = s.command := rfl
@[simp] theorem State.onPhase_clock (f : PhaseUnit → PhaseUnit) : (s.onPhase f).clock = s.clock := rfl
@[simp] theorem State.onPhase_stored (f : PhaseUnit → PhaseUnit) : (s.onPhase f).stored = s.stored := rfl
@[simp] theorem State.onPhase_powered (f : PhaseUnit → PhaseUnit) : (s.onPhase f).powered = s.powered := rfl
@[simp] theorem State.onPhase_pending (f : PhaseUnit → PhaseUnit) : (s.onPhase f).pending = s.pending := rfl

/-- Two updates of one block are one. -/
theorem State.onPhase_onPhase (f g : PhaseUnit → PhaseUnit) : (s.onPhase f).onPhase g = s.onPhase (g ∘ f) := rfl

/-! ## onCues -/

@[simp] theorem State.onCues_loop (f : CueUnit → CueUnit) : (s.onCues f).loop = s.loop := rfl
@[simp] theorem State.onCues_lines (f : CueUnit → CueUnit) : (s.onCues f).lines = s.lines := rfl
@[simp] theorem State.onCues_phase (f : CueUnit → CueUnit) : (s.onCues f).phase = s.phase := rfl
@[simp] theorem State.onCues_cues (f : CueUnit → CueUnit) : (s.onCues f).cues = f s.cues := rfl
@[simp] theorem State.onCues_lights (f : CueUnit → CueUnit) : (s.onCues f).lights = s.lights := rfl
@[simp] theorem State.onCues_zones (f : CueUnit → CueUnit) : (s.onCues f).zones = s.zones := rfl
@[simp] theorem State.onCues_curtain (f : CueUnit → CueUnit) : (s.onCues f).curtain = s.curtain := rfl
@[simp] theorem State.onCues_calls (f : CueUnit → CueUnit) : (s.onCues f).calls = s.calls := rfl
@[simp] theorem State.onCues_bells (f : CueUnit → CueUnit) : (s.onCues f).bells = s.bells := rfl
@[simp] theorem State.onCues_command (f : CueUnit → CueUnit) : (s.onCues f).command = s.command := rfl
@[simp] theorem State.onCues_clock (f : CueUnit → CueUnit) : (s.onCues f).clock = s.clock := rfl
@[simp] theorem State.onCues_stored (f : CueUnit → CueUnit) : (s.onCues f).stored = s.stored := rfl
@[simp] theorem State.onCues_powered (f : CueUnit → CueUnit) : (s.onCues f).powered = s.powered := rfl
@[simp] theorem State.onCues_pending (f : CueUnit → CueUnit) : (s.onCues f).pending = s.pending := rfl

/-- Two updates of one block are one. -/
theorem State.onCues_onCues (f g : CueUnit → CueUnit) : (s.onCues f).onCues g = s.onCues (g ∘ f) := rfl

/-! ## onLights -/

@[simp] theorem State.onLights_loop (f : HouseLights → HouseLights) : (s.onLights f).loop = s.loop := rfl
@[simp] theorem State.onLights_lines (f : HouseLights → HouseLights) : (s.onLights f).lines = s.lines := rfl
@[simp] theorem State.onLights_phase (f : HouseLights → HouseLights) : (s.onLights f).phase = s.phase := rfl
@[simp] theorem State.onLights_cues (f : HouseLights → HouseLights) : (s.onLights f).cues = s.cues := rfl
@[simp] theorem State.onLights_lights (f : HouseLights → HouseLights) : (s.onLights f).lights = f s.lights := rfl
@[simp] theorem State.onLights_zones (f : HouseLights → HouseLights) : (s.onLights f).zones = s.zones := rfl
@[simp] theorem State.onLights_curtain (f : HouseLights → HouseLights) : (s.onLights f).curtain = s.curtain := rfl
@[simp] theorem State.onLights_calls (f : HouseLights → HouseLights) : (s.onLights f).calls = s.calls := rfl
@[simp] theorem State.onLights_bells (f : HouseLights → HouseLights) : (s.onLights f).bells = s.bells := rfl
@[simp] theorem State.onLights_command (f : HouseLights → HouseLights) : (s.onLights f).command = s.command := rfl
@[simp] theorem State.onLights_clock (f : HouseLights → HouseLights) : (s.onLights f).clock = s.clock := rfl
@[simp] theorem State.onLights_stored (f : HouseLights → HouseLights) : (s.onLights f).stored = s.stored := rfl
@[simp] theorem State.onLights_powered (f : HouseLights → HouseLights) : (s.onLights f).powered = s.powered := rfl
@[simp] theorem State.onLights_pending (f : HouseLights → HouseLights) : (s.onLights f).pending = s.pending := rfl

/-- Two updates of one block are one. -/
theorem State.onLights_onLights (f g : HouseLights → HouseLights) : (s.onLights f).onLights g = s.onLights (g ∘ f) := rfl

/-! ## onZones -/

@[simp] theorem State.onZones_loop (f : ZoneMonitor → ZoneMonitor) : (s.onZones f).loop = s.loop := rfl
@[simp] theorem State.onZones_lines (f : ZoneMonitor → ZoneMonitor) : (s.onZones f).lines = s.lines := rfl
@[simp] theorem State.onZones_phase (f : ZoneMonitor → ZoneMonitor) : (s.onZones f).phase = s.phase := rfl
@[simp] theorem State.onZones_cues (f : ZoneMonitor → ZoneMonitor) : (s.onZones f).cues = s.cues := rfl
@[simp] theorem State.onZones_lights (f : ZoneMonitor → ZoneMonitor) : (s.onZones f).lights = s.lights := rfl
@[simp] theorem State.onZones_zones (f : ZoneMonitor → ZoneMonitor) : (s.onZones f).zones = f s.zones := rfl
@[simp] theorem State.onZones_curtain (f : ZoneMonitor → ZoneMonitor) : (s.onZones f).curtain = s.curtain := rfl
@[simp] theorem State.onZones_calls (f : ZoneMonitor → ZoneMonitor) : (s.onZones f).calls = s.calls := rfl
@[simp] theorem State.onZones_bells (f : ZoneMonitor → ZoneMonitor) : (s.onZones f).bells = s.bells := rfl
@[simp] theorem State.onZones_command (f : ZoneMonitor → ZoneMonitor) : (s.onZones f).command = s.command := rfl
@[simp] theorem State.onZones_clock (f : ZoneMonitor → ZoneMonitor) : (s.onZones f).clock = s.clock := rfl
@[simp] theorem State.onZones_stored (f : ZoneMonitor → ZoneMonitor) : (s.onZones f).stored = s.stored := rfl
@[simp] theorem State.onZones_powered (f : ZoneMonitor → ZoneMonitor) : (s.onZones f).powered = s.powered := rfl
@[simp] theorem State.onZones_pending (f : ZoneMonitor → ZoneMonitor) : (s.onZones f).pending = s.pending := rfl

/-- Two updates of one block are one. -/
theorem State.onZones_onZones (f g : ZoneMonitor → ZoneMonitor) : (s.onZones f).onZones g = s.onZones (g ∘ f) := rfl

/-! ## onCurtain -/

@[simp] theorem State.onCurtain_loop (f : Curtain → Curtain) : (s.onCurtain f).loop = s.loop := rfl
@[simp] theorem State.onCurtain_lines (f : Curtain → Curtain) : (s.onCurtain f).lines = s.lines := rfl
@[simp] theorem State.onCurtain_phase (f : Curtain → Curtain) : (s.onCurtain f).phase = s.phase := rfl
@[simp] theorem State.onCurtain_cues (f : Curtain → Curtain) : (s.onCurtain f).cues = s.cues := rfl
@[simp] theorem State.onCurtain_lights (f : Curtain → Curtain) : (s.onCurtain f).lights = s.lights := rfl
@[simp] theorem State.onCurtain_zones (f : Curtain → Curtain) : (s.onCurtain f).zones = s.zones := rfl
@[simp] theorem State.onCurtain_curtain (f : Curtain → Curtain) : (s.onCurtain f).curtain = f s.curtain := rfl
@[simp] theorem State.onCurtain_calls (f : Curtain → Curtain) : (s.onCurtain f).calls = s.calls := rfl
@[simp] theorem State.onCurtain_bells (f : Curtain → Curtain) : (s.onCurtain f).bells = s.bells := rfl
@[simp] theorem State.onCurtain_command (f : Curtain → Curtain) : (s.onCurtain f).command = s.command := rfl
@[simp] theorem State.onCurtain_clock (f : Curtain → Curtain) : (s.onCurtain f).clock = s.clock := rfl
@[simp] theorem State.onCurtain_stored (f : Curtain → Curtain) : (s.onCurtain f).stored = s.stored := rfl
@[simp] theorem State.onCurtain_powered (f : Curtain → Curtain) : (s.onCurtain f).powered = s.powered := rfl
@[simp] theorem State.onCurtain_pending (f : Curtain → Curtain) : (s.onCurtain f).pending = s.pending := rfl

/-- Two updates of one block are one. -/
theorem State.onCurtain_onCurtain (f g : Curtain → Curtain) : (s.onCurtain f).onCurtain g = s.onCurtain (g ∘ f) := rfl

/-! ## onCalls -/

@[simp] theorem State.onCalls_loop (f : CallUnit → CallUnit) : (s.onCalls f).loop = s.loop := rfl
@[simp] theorem State.onCalls_lines (f : CallUnit → CallUnit) : (s.onCalls f).lines = s.lines := rfl
@[simp] theorem State.onCalls_phase (f : CallUnit → CallUnit) : (s.onCalls f).phase = s.phase := rfl
@[simp] theorem State.onCalls_cues (f : CallUnit → CallUnit) : (s.onCalls f).cues = s.cues := rfl
@[simp] theorem State.onCalls_lights (f : CallUnit → CallUnit) : (s.onCalls f).lights = s.lights := rfl
@[simp] theorem State.onCalls_zones (f : CallUnit → CallUnit) : (s.onCalls f).zones = s.zones := rfl
@[simp] theorem State.onCalls_curtain (f : CallUnit → CallUnit) : (s.onCalls f).curtain = s.curtain := rfl
@[simp] theorem State.onCalls_calls (f : CallUnit → CallUnit) : (s.onCalls f).calls = f s.calls := rfl
@[simp] theorem State.onCalls_bells (f : CallUnit → CallUnit) : (s.onCalls f).bells = s.bells := rfl
@[simp] theorem State.onCalls_command (f : CallUnit → CallUnit) : (s.onCalls f).command = s.command := rfl
@[simp] theorem State.onCalls_clock (f : CallUnit → CallUnit) : (s.onCalls f).clock = s.clock := rfl
@[simp] theorem State.onCalls_stored (f : CallUnit → CallUnit) : (s.onCalls f).stored = s.stored := rfl
@[simp] theorem State.onCalls_powered (f : CallUnit → CallUnit) : (s.onCalls f).powered = s.powered := rfl
@[simp] theorem State.onCalls_pending (f : CallUnit → CallUnit) : (s.onCalls f).pending = s.pending := rfl

/-- Two updates of one block are one. -/
theorem State.onCalls_onCalls (f g : CallUnit → CallUnit) : (s.onCalls f).onCalls g = s.onCalls (g ∘ f) := rfl

/-! ## onBells -/

@[simp] theorem State.onBells_loop (f : Bells → Bells) : (s.onBells f).loop = s.loop := rfl
@[simp] theorem State.onBells_lines (f : Bells → Bells) : (s.onBells f).lines = s.lines := rfl
@[simp] theorem State.onBells_phase (f : Bells → Bells) : (s.onBells f).phase = s.phase := rfl
@[simp] theorem State.onBells_cues (f : Bells → Bells) : (s.onBells f).cues = s.cues := rfl
@[simp] theorem State.onBells_lights (f : Bells → Bells) : (s.onBells f).lights = s.lights := rfl
@[simp] theorem State.onBells_zones (f : Bells → Bells) : (s.onBells f).zones = s.zones := rfl
@[simp] theorem State.onBells_curtain (f : Bells → Bells) : (s.onBells f).curtain = s.curtain := rfl
@[simp] theorem State.onBells_calls (f : Bells → Bells) : (s.onBells f).calls = s.calls := rfl
@[simp] theorem State.onBells_bells (f : Bells → Bells) : (s.onBells f).bells = f s.bells := rfl
@[simp] theorem State.onBells_command (f : Bells → Bells) : (s.onBells f).command = s.command := rfl
@[simp] theorem State.onBells_clock (f : Bells → Bells) : (s.onBells f).clock = s.clock := rfl
@[simp] theorem State.onBells_stored (f : Bells → Bells) : (s.onBells f).stored = s.stored := rfl
@[simp] theorem State.onBells_powered (f : Bells → Bells) : (s.onBells f).powered = s.powered := rfl
@[simp] theorem State.onBells_pending (f : Bells → Bells) : (s.onBells f).pending = s.pending := rfl

/-- Two updates of one block are one. -/
theorem State.onBells_onBells (f g : Bells → Bells) : (s.onBells f).onBells g = s.onBells (g ∘ f) := rfl

/-! ## onCommand -/

@[simp] theorem State.onCommand_loop (f : CommandUnit → CommandUnit) : (s.onCommand f).loop = s.loop := rfl
@[simp] theorem State.onCommand_lines (f : CommandUnit → CommandUnit) : (s.onCommand f).lines = s.lines := rfl
@[simp] theorem State.onCommand_phase (f : CommandUnit → CommandUnit) : (s.onCommand f).phase = s.phase := rfl
@[simp] theorem State.onCommand_cues (f : CommandUnit → CommandUnit) : (s.onCommand f).cues = s.cues := rfl
@[simp] theorem State.onCommand_lights (f : CommandUnit → CommandUnit) : (s.onCommand f).lights = s.lights := rfl
@[simp] theorem State.onCommand_zones (f : CommandUnit → CommandUnit) : (s.onCommand f).zones = s.zones := rfl
@[simp] theorem State.onCommand_curtain (f : CommandUnit → CommandUnit) : (s.onCommand f).curtain = s.curtain := rfl
@[simp] theorem State.onCommand_calls (f : CommandUnit → CommandUnit) : (s.onCommand f).calls = s.calls := rfl
@[simp] theorem State.onCommand_bells (f : CommandUnit → CommandUnit) : (s.onCommand f).bells = s.bells := rfl
@[simp] theorem State.onCommand_command (f : CommandUnit → CommandUnit) : (s.onCommand f).command = f s.command := rfl
@[simp] theorem State.onCommand_clock (f : CommandUnit → CommandUnit) : (s.onCommand f).clock = s.clock := rfl
@[simp] theorem State.onCommand_stored (f : CommandUnit → CommandUnit) : (s.onCommand f).stored = s.stored := rfl
@[simp] theorem State.onCommand_powered (f : CommandUnit → CommandUnit) : (s.onCommand f).powered = s.powered := rfl
@[simp] theorem State.onCommand_pending (f : CommandUnit → CommandUnit) : (s.onCommand f).pending = s.pending := rfl

/-- Two updates of one block are one. -/
theorem State.onCommand_onCommand (f g : CommandUnit → CommandUnit) : (s.onCommand f).onCommand g = s.onCommand (g ∘ f) := rfl

/-! ## withPending -/

@[simp] theorem State.withPending_loop (rest : List Instr) : (s.withPending rest).loop = s.loop := rfl
@[simp] theorem State.withPending_lines (rest : List Instr) : (s.withPending rest).lines = s.lines := rfl
@[simp] theorem State.withPending_phase (rest : List Instr) : (s.withPending rest).phase = s.phase := rfl
@[simp] theorem State.withPending_cues (rest : List Instr) : (s.withPending rest).cues = s.cues := rfl
@[simp] theorem State.withPending_lights (rest : List Instr) : (s.withPending rest).lights = s.lights := rfl
@[simp] theorem State.withPending_zones (rest : List Instr) : (s.withPending rest).zones = s.zones := rfl
@[simp] theorem State.withPending_curtain (rest : List Instr) : (s.withPending rest).curtain = s.curtain := rfl
@[simp] theorem State.withPending_calls (rest : List Instr) : (s.withPending rest).calls = s.calls := rfl
@[simp] theorem State.withPending_bells (rest : List Instr) : (s.withPending rest).bells = s.bells := rfl
@[simp] theorem State.withPending_command (rest : List Instr) : (s.withPending rest).command = s.command := rfl
@[simp] theorem State.withPending_clock (rest : List Instr) : (s.withPending rest).clock = s.clock := rfl
@[simp] theorem State.withPending_stored (rest : List Instr) : (s.withPending rest).stored = s.stored := rfl
@[simp] theorem State.withPending_powered (rest : List Instr) : (s.withPending rest).powered = s.powered := rfl
@[simp] theorem State.withPending_pending (rest : List Instr) : (s.withPending rest).pending = rest := rfl

/-! ## Readings of the state under the updates -/

/-- A timer started from a state depends on its clock alone. -/
@[simp] theorem State.timerOf_eq (length : Nat) : s.timerOf length = { start := s.clock, length := length } := rfl

/-- A command answers its function of the state while the part has power, and the state as it was without. -/
theorem whilePowered_of_powered {s : State} (h : s.powered = true) (f : State → State) :
    whilePowered s f = .next (f s) := by
  simp [whilePowered, h]

/-- Without power a command leaves the state as it was. -/
theorem whilePowered_of_unpowered {s : State} (h : s.powered = false) (f : State → State) :
    whilePowered s f = .next s := by
  simp [whilePowered, h]

/-- No element leaves the state as it was. -/
@[simp] theorem forEach_nil {α : Type} (f : α → State → State) : forEach [] f s = s := rfl

/-- The first element is taken first. -/
@[simp] theorem forEach_cons {α : Type} (a : α) (rest : List α) (f : α → State → State) :
    forEach (a :: rest) f s = forEach rest f (f a s) := rfl

/-- What each element's change keeps, the whole keeps. -/
theorem forEach_induction {α : Type} (P : State → Prop) (f : α → State → State) :
    ∀ (items : List α) (s : State), (∀ a ∈ items, ∀ t, P t → P (f a t)) → P s → P (forEach items f s)
  | [], _, _, h => h
  | a :: rest, s, step, h =>
    forEach_induction P f rest (f a s) (fun b hb => step b (List.mem_cons_of_mem a hb))
      (step a (List.mem_cons_self) s h)

/-- A table after `mapTable` has each place mapped. -/
@[simp] theorem mapTable_getElem? {α β : Type} {n : Nat} (f : α → β) (table : Vector α n) (i : Nat) :
    (mapTable f table)[i]? = (table[i]?).map f := by
  simp [mapTable]

end Sys2Proof.Machine
end

