-- ==== Sys2Proof/Laws/Frames.lean ====
section
/-! SUPPORT. What the shared operations can change: the comparison of two states part by part is an equivalence on every part,
and one frame lemma for each operation that commands share. -/

namespace Sys2Proof.Machine

/-! ## The comparison -/

/-- A state agrees with itself on every part. -/
@[simp] theorem samePart_refl (s : State) (p : Part) : samePart s s p = true := by
  cases p <;> simp [samePart]

/-- Agreement on a part goes both ways. -/
theorem samePart_symm {s t : State} {p : Part} (h : samePart s t p = true) : samePart t s p = true := by
  cases p <;> simp_all [samePart]

/-- Agreement on a part passes on. -/
theorem samePart_trans {s t u : State} {p : Part} (h : samePart s t p = true) (k : samePart t u p = true) :
    samePart s u p = true := by
  cases p <;> simp_all [samePart]

/-- Two states agree but for a list of parts exactly when they agree on each part outside it. -/
theorem sameBut_iff {changed : List Part} {s t : State} :
    sameBut changed s t = true ↔ ∀ p, p ∉ changed → samePart s t p = true := by
  have every : ∀ p : Part, p ∈ allParts := by intro p; cases p <;> decide
  simp only [sameBut, List.all_eq_true, Bool.or_eq_true, List.contains_iff_mem]
  exact ⟨fun h p hp => (h p (every p)).resolve_left hp, fun h p _ => (em (p ∈ changed)).imp_right (h p)⟩

/-- A state agrees with itself. -/
@[simp] theorem sameBut_refl (changed : List Part) (s : State) : sameBut changed s s = true :=
  sameBut_iff.2 fun p _ => samePart_refl s p

/-- More parts may be let go. -/
theorem sameBut_mono {a b : List Part} {s t : State} (h : sameBut a s t = true) (sub : a ⊆ b) : sameBut b s t = true :=
  sameBut_iff.2 fun p hp => sameBut_iff.1 h p fun ha => hp (sub ha)

/-- Two changes within the same parts are one. -/
theorem sameBut_trans {changed : List Part} {s t u : State} (h : sameBut changed s t = true)
    (k : sameBut changed t u = true) : sameBut changed s u = true :=
  sameBut_iff.2 fun p hp => samePart_trans (sameBut_iff.1 h p hp) (sameBut_iff.1 k p hp)

/-- Agreement goes both ways. -/
theorem sameBut_symm {changed : List Part} {s t : State} (h : sameBut changed s t = true) : sameBut changed t s = true :=
  sameBut_iff.2 fun p hp => samePart_symm (sameBut_iff.1 h p hp)

/-- A change for each element stays within the parts that each stays within. -/
theorem forEach_frame {α : Type} {changed : List Part} (f : α → State → State)
    (h : ∀ a t, sameBut changed t (f a t) = true) (items : List α) (s : State) :
    sameBut changed s (forEach items f s) = true :=
  forEach_induction (fun t => sameBut changed s t = true) f items s (fun a _ t ht => sameBut_trans ht (h a t))
    (sameBut_refl _ s)

/-! ## What a part that stays says -/

theorem sameBut_lines {changed : List Part} {s t : State} (h : sameBut changed s t = true)
    (hp : Part.lines ∉ changed) : t.lines = s.lines := by
  have k := sameBut_iff.1 h _ hp
  simp only [samePart, decide_eq_true_eq] at k
  exact k.symm

theorem sameBut_cues {changed : List Part} {s t : State} (h : sameBut changed s t = true)
    (hp : Part.cues ∉ changed) : t.cues = s.cues := by
  have k := sameBut_iff.1 h _ hp
  simp only [samePart, decide_eq_true_eq] at k
  exact k.symm

theorem sameBut_zones {changed : List Part} {s t : State} (h : sameBut changed s t = true)
    (hp : Part.zones ∉ changed) : t.zones = s.zones := by
  have k := sameBut_iff.1 h _ hp
  simp only [samePart, decide_eq_true_eq] at k
  exact k.symm

theorem sameBut_curtain {changed : List Part} {s t : State} (h : sameBut changed s t = true)
    (hp : Part.curtain ∉ changed) : t.curtain = s.curtain := by
  have k := sameBut_iff.1 h _ hp
  simp only [samePart, decide_eq_true_eq] at k
  exact k.symm

theorem sameBut_calls {changed : List Part} {s t : State} (h : sameBut changed s t = true)
    (hp : Part.calls ∉ changed) : t.calls = s.calls := by
  have k := sameBut_iff.1 h _ hp
  simp only [samePart, decide_eq_true_eq] at k
  exact k.symm

theorem sameBut_bells {changed : List Part} {s t : State} (h : sameBut changed s t = true)
    (hp : Part.bells ∉ changed) : t.bells = s.bells := by
  have k := sameBut_iff.1 h _ hp
  simp only [samePart, decide_eq_true_eq] at k
  exact k.symm

theorem sameBut_clock {changed : List Part} {s t : State} (h : sameBut changed s t = true)
    (hp : Part.clock ∉ changed) : t.clock = s.clock := by
  have k := sameBut_iff.1 h _ hp
  simp only [samePart, decide_eq_true_eq] at k
  exact k.symm

theorem sameBut_stored {changed : List Part} {s t : State} (h : sameBut changed s t = true)
    (hp : Part.stored ∉ changed) : t.stored = s.stored := by
  have k := sameBut_iff.1 h _ hp
  simp only [samePart, decide_eq_true_eq] at k
  exact k.symm

theorem sameBut_powered {changed : List Part} {s t : State} (h : sameBut changed s t = true)
    (hp : Part.powered ∉ changed) : t.powered = s.powered := by
  have k := sameBut_iff.1 h _ hp
  simp only [samePart, decide_eq_true_eq] at k
  exact k.symm

theorem sameBut_pending {changed : List Part} {s t : State} (h : sameBut changed s t = true)
    (hp : Part.pending ∉ changed) : t.pending = s.pending := by
  have k := sameBut_iff.1 h _ hp
  simp only [samePart, decide_eq_true_eq] at k
  exact k.symm

theorem sameBut_record {changed : List Part} {s t : State} (h : sameBut changed s t = true)
    (hp : Part.record ∉ changed) : t.phase.record = s.phase.record := by
  have k := sameBut_iff.1 h _ hp
  simp only [samePart, decide_eq_true_eq] at k
  exact k.symm

theorem sameBut_receiver {changed : List Part} {s t : State} (h : sameBut changed s t = true)
    (hp : Part.receiver ∉ changed) : t.loop.receiving = s.loop.receiving := by
  have k := sameBut_iff.1 h _ hp
  simp only [samePart, decide_eq_true_eq] at k
  exact k.symm

theorem sameBut_lights {changed : List Part} {s t : State} (h : sameBut changed s t = true)
    (hp : Part.lights ∉ changed) : t.lights.settled = s.lights.settled := by
  have k := sameBut_iff.1 h _ hp
  simp only [samePart, decide_eq_true_eq] at k
  exact k.symm

theorem sameBut_command {changed : List Part} {s t : State} (h : sameBut changed s t = true)
    (hp : Part.command ∉ changed) : t.command.managing = s.command.managing := by
  have k := sameBut_iff.1 h _ hp
  simp only [samePart, decide_eq_true_eq] at k
  exact k.symm

theorem sameBut_report {changed : List Part} {s t : State} (h : sameBut changed s t = true)
    (hp : Part.report ∉ changed) : t.phase.report = s.phase.report := by
  have k := sameBut_iff.1 h _ hp
  simp only [samePart, decide_eq_true_eq] at k
  exact k.1.symm

/-! ## One update of a block -/

theorem onLines_frame (s : State) (f : Vector Line 8 → Vector Line 8) : sameBut [.lines] s (s.onLines f) = true := by
  simp [sameBut, allParts, samePart]

theorem onCues_frame (s : State) (f : CueUnit → CueUnit) : sameBut [.cues] s (s.onCues f) = true := by
  simp [sameBut, allParts, samePart]

theorem onZones_frame (s : State) (f : ZoneMonitor → ZoneMonitor) : sameBut [.zones] s (s.onZones f) = true := by
  simp [sameBut, allParts, samePart]

theorem onCurtain_frame (s : State) (f : Curtain → Curtain) : sameBut [.curtain] s (s.onCurtain f) = true := by
  simp [sameBut, allParts, samePart]

theorem onCalls_frame (s : State) (f : CallUnit → CallUnit) : sameBut [.calls] s (s.onCalls f) = true := by
  simp [sameBut, allParts, samePart]

theorem onBells_frame (s : State) (f : Bells → Bells) : sameBut [.bells] s (s.onBells f) = true := by
  simp [sameBut, allParts, samePart]

theorem onLoop_frame (s : State) (f : LoopPort → LoopPort) : sameBut [.sender, .receiver] s (s.onLoop f) = true := by
  simp [sameBut, allParts, samePart]

theorem onPhase_frame (s : State) (f : PhaseUnit → PhaseUnit) : sameBut [.record, .report] s (s.onPhase f) = true := by
  simp [sameBut, allParts, samePart]

theorem onLights_frame (s : State) (f : HouseLights → HouseLights) :
    sameBut [.lights, .outputs] s (s.onLights f) = true := by
  simp [sameBut, allParts, samePart]

theorem onCommand_frame (s : State) (f : CommandUnit → CommandUnit) :
    sameBut [.command, .attention] s (s.onCommand f) = true := by
  simp [sameBut, allParts, samePart]

/-! ## Attention and report -/

theorem setAttention_frame (flag : Flag) (s : State) : sameBut [.attention] s (setAttention flag s) = true := by
  simp [sameBut, allParts, samePart, setAttention, CommandUnit.managing]

theorem reportAttention_frame (s : State) : sameBut [.attention] s (reportAttention s) = true := by
  simp [sameBut, allParts, samePart, reportAttention, CommandUnit.managing]

/-- A report entry changes the report and, where the report is full, REPORT_FULL (R57, R58). -/
theorem appendEntry_frame (entry : ReportEntry) (s : State) :
    sameBut [.report, .attention] s (appendEntry entry s) = true := by
  unfold appendEntry markFull setAttention
  split_ifs <;> simp [sameBut, allParts, samePart, PhaseUnit.record, CommandUnit.managing]

theorem report_frame (kind : ReportKind) (data : List Byte) (s : State) :
    sameBut [.report, .attention] s (report kind data s) = true :=
  appendEntry_frame _ s

/-! ## Frames offered -/

/-- The channels of a LEVEL frame that starts out take their last output time and nothing else (R91). -/
theorem noteOutputs_frame (payload : List Byte) (s : State) : sameBut [.outputs] s (noteOutputs payload s) = true := by
  unfold noteOutputs
  split
  · simp
  · simp only [sameBut, allParts, samePart, State.onLights_loop, State.onLights_lights, HouseLights.settled, List.map_map]
    simp
    intro e _
    split_ifs <;> simp

/-- A send start changes the queues and the port, and the output times of a LEVEL frame (R17, R19, R91). -/
theorem startSend_frame (sel : Selection) (s : State) : sameBut [.sender, .outputs] s (startSend sel s) = true := by
  have h : ∀ f : LoopPort → LoopPort, (∀ l, (f l).receiving = l.receiving) → sameBut [.sender, .outputs] s (s.onLoop f) = true :=
    fun f hf => by simp [sameBut, allParts, samePart, hf]
  have outputs (t : State) : sameBut [.sender, .outputs] t (sendOutputs sel.frame t) = true := by
    unfold sendOutputs
    split_ifs
    · exact sameBut_mono (noteOutputs_frame _ t) (by decide)
    · simp
  refine sameBut_trans (h (fun l =>
    { l with
      forward := sel.forward
      origin := sel.origin
      forwardRun := sel.run
      sending := some
        { frame := fixedBytes s sel.frame
          crc := crc16 (fixedBytes s sel.frame).bytes
          span :=
            { start := s.clock
              cycles := ((fixedBytes s sel.frame).payload.length + 6) * characterCycles l.outDivisor } } }) ?_) (outputs _)
  exact fun l => rfl

theorem arbitrate_frame (s : State) : sameBut [.sender, .outputs] s (arbitrate s) = true := by
  unfold arbitrate
  split
  · simp
  · split
    · simp
    · exact startSend_frame _ s

theorem sendCompletion_frame (s : State) : sameBut [.sender, .outputs] s (sendCompletion s) = true := by
  unfold sendCompletion
  split_ifs
  · exact sameBut_trans (by simp [sameBut, allParts, samePart, LoopPort.receiving]) (arbitrate_frame _)
  · simp

/-- A frame joins the origin queue; ORIGIN_OVERRUN may be set (R14, R15, R16). -/
theorem joinOrigin_frame (offered : OriginFrame) (s : State) :
    sameBut [.sender, .attention] s (joinOrigin offered s) = true := by
  unfold joinOrigin setAttention
  split_ifs <;> simp [sameBut, allParts, samePart, LoopPort.receiving, CommandUnit.managing]

/-- Offering a frame changes the queues, the port, the output times of a LEVEL frame that starts out, and the attention set
(R14 to R19). -/
theorem offer_frame (kind dest : Byte) (payload : List Byte) (urgent : Bool) (s : State) :
    sameBut offerParts s (offer kind dest payload urgent s) = true := by
  unfold offer
  split_ifs
  · exact sameBut_trans (sameBut_mono (joinOrigin_frame _ s) (by decide)) (sameBut_mono (arbitrate_frame _) (by decide))
  · simp

theorem notice_frame (urgent : Bool) (s : State) : sameBut offerParts s (notice urgent s) = true :=
  sameBut_trans (sameBut_mono (reportAttention_frame s) (by decide)) (offer_frame _ _ _ _ _)

theorem offerReply_frame (dest code sequence : Byte) (answer : Answer) (s : State) :
    sameBut offerParts s (offerReply dest code sequence answer s) = true :=
  offer_frame _ _ _ _ s

end Sys2Proof.Machine
end

