-- ==== Sys2Proof/Laws/Calls.lean ====
section
/-! SUPPORT. What the Call Unit and the Bell Generators can change (chapters 9 and 10), and the selection while the player
sounds. -/

namespace Sys2Proof.Machine

/-! ## One step of the unit -/

theorem setGenerator_frame (b : Nat) (g : Generator) (s : State) : sameBut [.bells] s (setGenerator b g s) = true :=
  onBells_frame s _

theorem setQueue_frame (queue : List CallInstance) (s : State) : sameBut [.calls] s (setQueue queue s) = true :=
  onCalls_frame s _

theorem setPlayer_frame (player : Player) (s : State) : sameBut [.calls] s (setPlayer player s) = true :=
  onCalls_frame s _

theorem reportCall_frame (call : CallInstance) (outcome : CallOutcome) (s : State) :
    sameBut callParts s (reportCall call outcome s) = true :=
  sameBut_mono (report_frame _ _ s) (by decide)

theorem reportRequest_frame (id : Nat) (source : CallSource) (outcome : CallOutcome) (reason : Option Result) (s : State) :
    sameBut callParts s (reportRequest id source outcome reason s) = true :=
  sameBut_mono (report_frame _ _ s) (by decide)

/-- A frame for stations of the routes. -/
theorem offers_frame {α : Type} (stations : List α) (f : α → State → State)
    (h : ∀ a s, sameBut offerParts s (f a s) = true) (s : State) : sameBut callParts s (forEach stations f s) = true :=
  sameBut_mono (forEach_frame f h stations s) (by decide)

theorem displace_frame (victim : CallInstance) (s : State) : sameBut callParts s (displace victim s) = true :=
  sameBut_trans (sameBut_mono (setQueue_frame _ s) (by decide))
    (sameBut_trans (reportCall_frame _ _ _) (sameBut_mono (setAttention_frame _ _) (by decide)))

theorem stopRoutes_frame (copy : StartCopy) (s : State) : sameBut [.bells] s (stopRoutes copy s) = true :=
  forEach_frame _ (fun b t => setGenerator_frame b _ t) _ s

/-- A sounding begins: the player, CALL START frames, generators (R184). -/
theorem beginSounding_frame (call : CallInstance) (copy : StartCopy) (s : State) :
    sameBut callParts s (beginSounding call copy s) = true := by
  have first := sameBut_trans (sameBut_mono (b := callParts)
    (setPlayer_frame (.sounding call copy (s.timerOf (soundingTime s copy))) s) (by decide))
    (offers_frame copy.stations (offerStart call copy) (fun _ t => offer_frame _ _ _ _ t) _)
  simp only [beginSounding]
  split
  · exact first
  · exact sameBut_trans first
      (sameBut_mono (forEach_frame _ (fun b t => setGenerator_frame b _ t) _ _) (by decide))

theorem startCall_frame (call : CallInstance) (s : State) : sameBut callParts s (startCall call s) = true := by
  simp only [startCall]
  split
  · exact reportCall_frame _ _ s
  · split_ifs
    · exact reportCall_frame _ _ s
    · exact beginSounding_frame _ _ s

/-! ## Selection (R183) -/

theorem walkQueue_frame (kept rest : List CallInstance) (s : State) :
    sameBut callParts s (walkQueue kept rest s) = true := by
  induction rest generalizing kept s with
  | nil => simp [walkQueue]
  | cons call rest ih =>
    have dropped : sameBut callParts s (setQueue (kept ++ rest) s) = true :=
      sameBut_mono (setQueue_frame _ s) (by decide)
    simp only [walkQueue]
    split_ifs
    · exact sameBut_trans (sameBut_trans dropped (reportCall_frame _ _ _)) (ih _ _)
    · exact sameBut_trans (sameBut_trans dropped (startCall_frame _ _)) (ih _ _)
    · exact sameBut_trans dropped (startCall_frame _ _)
    · exact ih _ s

theorem playerExpires_frame (s : State) : sameBut callParts s (playerExpires s) = true := by
  simp only [playerExpires]
  split
  · simp
  · split_ifs
    · exact sameBut_trans (sameBut_mono (stopRoutes_frame _ s) (by decide))
        (sameBut_trans (sameBut_mono (setPlayer_frame _ _) (by decide)) (reportCall_frame _ _ _))
    · exact sameBut_trans (sameBut_mono (stopRoutes_frame _ s) (by decide))
        (sameBut_mono (setPlayer_frame _ _) (by decide))
  · exact beginSounding_frame _ _ s

theorem settlePlayer_frame (fuel : Nat) (s : State) : sameBut callParts s (settlePlayer fuel s) = true := by
  induction fuel generalizing s with
  | zero => simp [settlePlayer]
  | succ n ih =>
    simp only [settlePlayer]
    split_ifs
    · exact walkQueue_frame _ _ s
    · exact sameBut_trans (walkQueue_frame _ _ s) (ih _)
    · exact sameBut_trans (playerExpires_frame s) (ih _)
    · simp

/-- The end of an event of the Call Unit changes its own parts alone (R183). -/
theorem selection_frame (s : State) : sameBut callParts s (selection s) = true := settlePlayer_frame 256 s

/-- While the player sounds a call, or is in the gap of one, no selection is made (R183). -/
theorem selection_busy {s : State} (h : playerBusy s = true) : selection s = s := by
  cases hp : s.calls.player <;> simp_all [playerBusy, selection, settlePlayer, Player.isIdle, expiresAtOnce]

/-! ## Requests (R174) -/

theorem abortSounding_frame (call : CallInstance) (copy : StartCopy) (s : State) :
    sameBut callParts s (abortSounding call copy s) = true :=
  sameBut_trans (sameBut_mono (stopRoutes_frame copy s) (by decide))
    (sameBut_trans (offers_frame _ _ (fun _ t => offer_frame _ _ _ _ t) _)
      (sameBut_mono (setPlayer_frame _ _) (by decide)))

theorem requeue_frame (call : CallInstance) (s : State) : sameBut callParts s (requeue call s) = true := by
  simp only [requeue]
  split_ifs
  · exact reportCall_frame _ _ s
  · exact sameBut_mono (setQueue_frame _ s) (by decide)
  · split
    · exact sameBut_trans (displace_frame _ s) (sameBut_mono (setQueue_frame _ _) (by decide))
    · exact sameBut_trans (reportCall_frame _ _ s) (sameBut_mono (setAttention_frame _ _) (by decide))

theorem preempt_frame (priority : Nat) (s : State) : sameBut callParts s (preempt priority s) = true := by
  simp only [preempt]
  split
  · split_ifs
    · exact sameBut_trans (abortSounding_frame _ _ s) (requeue_frame _ _)
    · exact sameBut_trans (abortSounding_frame _ _ s)
        (sameBut_trans (reportCall_frame _ _ _) (sameBut_mono (setAttention_frame _ _) (by decide)))
    · simp
  · simp

theorem enqueueRequest_frame (id : Nat) (source : CallSource) (s : State) :
    sameBut callParts s (enqueueRequest id source s) = true :=
  sameBut_trans (sameBut_mono (setQueue_frame _ s) (by decide))
    (sameBut_trans (preempt_frame _ _) (selection_frame _))

theorem refuseRequest_frame (id : Nat) (source : CallSource) (reason : Result) (s : State) :
    sameBut callParts s (refuseRequest id source reason s).2 = true := by
  simp only [refuseRequest]
  split_ifs
  · exact sameBut_trans (reportRequest_frame _ _ _ _ s)
      (sameBut_trans (sameBut_mono (setAttention_frame _ _) (by decide)) (selection_frame _))
  · exact sameBut_trans (reportRequest_frame _ _ _ _ s) (selection_frame _)

/-- A request for a call changes the Call Unit's parts alone (R174). -/
theorem requestCall_frame (id : Nat) (source : CallSource) (s : State) :
    sameBut callParts s (requestCall id source s).2 = true := by
  unfold requestCall
  split_ifs
  · exact refuseRequest_frame _ _ _ s
  · exact sameBut_trans (reportRequest_frame _ _ _ _ s) (selection_frame _)
  · exact enqueueRequest_frame _ _ s
  · split
    · exact sameBut_trans (displace_frame _ s) (enqueueRequest_frame _ _ _)
    · exact refuseRequest_frame _ _ _ s

theorem endEvac_frame (s : State) : sameBut callParts s (endEvac s) = true := by
  unfold endEvac
  split
  · exact sameBut_trans (sameBut_mono (setQueue_frame _ s) (by decide)) (reportCall_frame _ _ _)
  · split
    · split_ifs
      · exact sameBut_trans (abortSounding_frame _ _ s) (reportCall_frame _ _ _)
      · simp
    · simp

/-! ## What the unit is told, and schedules -/

theorem callsToldPhase_frame (new previous : Phase) (s : State) :
    sameBut callParts s (callsToldPhase new previous s) = true := by
  unfold callsToldPhase
  split_ifs
  · exact requestCall_frame _ _ s
  · exact sameBut_trans (endEvac_frame s) (selection_frame _)
  · exact requestCall_frame _ _ s
  · exact selection_frame s

theorem callsToldAlarm_frame (before : AlarmRecord) (s : State) :
    sameBut callParts s (callsToldAlarm before s) = true := by
  unfold callsToldAlarm
  split_ifs
  · exact requestCall_frame _ _ s
  · exact selection_frame s

theorem setFired_frame (fired : Bool) (id : Nat) (s : State) : sameBut [.calls] s (setFired fired id s) = true := by
  unfold setFired
  split
  · simp
  · exact onCalls_frame s _

/-- A countdown announcement changes the Call Unit's parts alone (R180). -/
theorem announce_frame (anchor : Anchor) (value : Nat) (s : State) :
    sameBut callParts s (announce anchor value s) = true := by
  refine forEach_frame _ (fun id t => ?_) _ s
  unfold fireSchedule
  split
  · simp
  · split_ifs
    · exact sameBut_trans (requestCall_frame _ _ t) (sameBut_mono (setFired_frame _ _ _) (by decide))
    · simp

theorem clearFired_frame (s : State) : sameBut [.calls] s (clearFired s) = true :=
  forEach_frame _ (fun id t => setFired_frame false id t) _ s

theorem clearIntervalFired_frame (s : State) : sameBut [.calls] s (clearIntervalFired s) = true := by
  refine forEach_frame _ (fun id t => ?_) _ s
  split
  · simp
  · split_ifs
    · exact setFired_frame false id t
    · simp

end Sys2Proof.Machine
end

