-- ==== Sys2Proof/Laws/Curtain.lean ====
section
/-! SUPPORT. What the Curtain Supervisor can change (chapters 7 and 8), and the curtain record that a change of state
leaves. -/

namespace Sys2Proof.Machine

/-! ## A change of state (R126) -/

theorem reportCurtain_frame (event new previous : Byte) (value : Nat) (s : State) :
    sameBut [.report, .attention] s (reportCurtain event new previous value s) = true :=
  report_frame _ _ s

theorem reportStanding_frame (event : Byte) (value : Nat) (s : State) :
    sameBut [.report, .attention] s (reportStanding event value s) = true :=
  report_frame _ _ s

theorem offerDrive_frame (command : DriveCommand) (s : State) : sameBut offerParts s (offerDrive command s) = true := by
  unfold offerDrive
  split_ifs
  · simp
  · exact offer_frame _ _ _ _ s

theorem offerStateDrive_frame (s : State) : sameBut offerParts s (offerStateDrive s) = true := by
  unfold offerStateDrive
  split
  · simp
  · split_ifs
    · simp
    · exact offerDrive_frame _ s

theorem curtainAttention_frame (s : State) : sameBut [.attention] s (curtainAttention s) = true := by
  unfold curtainAttention
  split_ifs
  · exact setAttention_frame _ s
  · simp

/-- All that follows the new record in a change of the curtain: frames, an entry, attention (R126). -/
theorem changeCurtain_after (next : Move) (s : State) :
    sameBut noticeParts (s.onCurtain (moved next s)) (changeCurtain next s) = true := by
  simp only [changeCurtain]
  exact sameBut_trans (sameBut_mono (offerStateDrive_frame _) (by decide))
    (sameBut_trans (sameBut_mono (reportCurtain_frame _ _ _ _ _) (by decide))
      (sameBut_trans (sameBut_mono (curtainAttention_frame _) (by decide)) (sameBut_mono (notice_frame _ _) (by decide))))

/-- The record that a change of the curtain leaves is the moved one (R126). -/
@[simp] theorem changeCurtain_curtain (next : Move) (s : State) :
    (changeCurtain next s).curtain = moved next s s.curtain :=
  sameBut_curtain (changeCurtain_after next s) (by decide)

theorem changeCurtain_frame (next : Move) (s : State) : sameBut ironParts s (changeCurtain next s) = true :=
  sameBut_trans (sameBut_mono (onCurtain_frame s _) (by decide)) (sameBut_mono (changeCurtain_after next s) (by decide))

@[simp] theorem changeCurtain_lines (next : Move) (s : State) : (changeCurtain next s).lines = s.lines :=
  sameBut_lines (changeCurtain_frame next s) (by decide)

@[simp] theorem changeCurtain_clock (next : Move) (s : State) : (changeCurtain next s).clock = s.clock :=
  sameBut_clock (changeCurtain_frame next s) (by decide)

/-! ## The demonstration's results (R166) -/

theorem setDemoStatus_frame (status : DemoStatus) (s : State) : sameBut [.record] s (setDemoStatus status s) = true := by
  simp [sameBut, allParts, samePart, setDemoStatus]

theorem stopDwell_frame (s : State) : sameBut [.curtain] s (stopDwell s) = true := onCurtain_frame s _

theorem markDemo_frame (reason : DemoReason) (s : State) : sameBut [.curtain] s (markDemo reason s) = true :=
  onCurtain_frame s _

theorem recordDemo_frame (status : DemoStatus) (s : State) : sameBut curtainParts s (recordDemo status s) = true := by
  refine sameBut_trans (sameBut_mono (stopDwell_frame s) (by decide)) ?_
  refine sameBut_trans (sameBut_mono (setDemoStatus_frame status _) (by decide)) ?_
  exact sameBut_trans (sameBut_mono (report_frame _ _ _) (by decide)) (sameBut_mono (setAttention_frame _ _) (by decide))

theorem failDemo_frame (reason : DemoReason) (s : State) : sameBut curtainParts s (failDemo reason s) = true := by
  unfold failDemo
  split_ifs
  · exact recordDemo_frame _ s
  · simp

/-- Without a demonstration in progress, failing it does nothing. -/
theorem failDemo_idle {reason : DemoReason} {s : State} (h : s.phase.demoStatus.inProgress = false) :
    failDemo reason s = s := by
  simp [failDemo, h]

/-! ## Descents, the release, arrivals -/

theorem startDescent_frame (mode : Mode) (s : State) : sameBut ironParts s (startDescent mode s) = true :=
  sameBut_trans (sameBut_mono (onCurtain_frame s _) (by decide))
    (sameBut_trans (sameBut_mono (onCurtain_frame _ _) (by decide)) (changeCurtain_frame _ _))

theorem arrive_frame (s : State) : sameBut ironParts s (arrive s) = true := by
  simp only [arrive]
  split
  · exact sameBut_trans (sameBut_mono (onCurtain_frame s _) (by decide)) (changeCurtain_frame _ _)
  · exact sameBut_trans (sameBut_trans (sameBut_mono (onCurtain_frame s _) (by decide)) (changeCurtain_frame _ _))
      (sameBut_mono (reportCurtain_frame _ _ _ _ _) (by decide))

theorem ironParts_le {s t : State} (h : sameBut ironParts s t = true) : sameBut curtainParts s t = true :=
  sameBut_mono h (by decide)

/-- The entry into RELEASED stays within the iron's parts (R145). -/
theorem enterReleased_frame (cause : Option FaultCause) (s : State) : sameBut ironParts s (enterReleased cause s) = true := by
  have seed : sameBut ironParts s (if s.curtain.estimator.running then s else seedEstimator s) = true := by
    split_ifs
    · simp
    · exact sameBut_mono (onCurtain_frame s _) (by decide)
  exact sameBut_trans seed (sameBut_trans (sameBut_mono (onCurtain_frame _ _) (by decide)) (changeCurtain_frame _ _))

/-- A release changes the curtain's parts alone (R145). -/
theorem release_frame (cause : Option FaultCause) (s : State) : sameBut curtainParts s (release cause s) = true := by
  have failed := sameBut_trans (ironParts_le (enterReleased_frame cause s)) (failDemo_frame .fault _)
  simp only [release]
  split_ifs
  · exact sameBut_trans failed (ironParts_le (arrive_frame _))
  · exact failed

theorem alarmAtRest_frame (s : State) : sameBut curtainParts s (alarmAtRest s) = true := by
  unfold alarmAtRest
  split_ifs
  · exact release_frame _ s
  · exact ironParts_le (startDescent_frame _ s)
  · simp

/-- Without a stage alarm a curtain at rest stays (R144). -/
theorem alarmAtRest_quiet {s : State} (h : s.curtain.stageAlarm = false) : alarmAtRest s = s := by
  simp [alarmAtRest, h]

theorem moveCurtain_frame (next : Move) {after : State → State}
    (h : ∀ t, sameBut curtainParts t (after t) = true) (s : State) :
    sameBut curtainParts s (moveCurtain next after s) = true :=
  sameBut_trans (ironParts_le (changeCurtain_frame next s)) (sameBut_trans (h _) (alarmAtRest_frame _))

theorem faultCurtain_frame (cause : FaultCause) (s : State) : sameBut curtainParts s (faultCurtain cause s) = true := by
  unfold faultCurtain
  split_ifs
  · simp
  · exact release_frame _ s
  · exact moveCurtain_frame _ (failDemo_frame _) s

/-! ## Requests -/

theorem setPending_frame (pending : Pending) (mode : Mode) (s : State) :
    sameBut ironParts s (setPending pending mode s) = true := by
  unfold setPending
  split_ifs
  · exact sameBut_mono (onCurtain_frame s _) (by decide)
  · exact changeCurtain_frame _ s

theorem lowerRequest_frame (mode : Mode) (s : State) : sameBut curtainParts s (lowerRequest mode s).2 = true := by
  unfold lowerRequest
  generalize s.curtain.state = state
  cases state <;> dsimp only <;> split_ifs <;>
    first
      | with_reducible exact sameBut_refl _ s
      | with_reducible exact ironParts_le (startDescent_frame _ s)
      | with_reducible exact moveCurtain_frame _ (failDemo_frame _) s
      | with_reducible exact ironParts_le (setPending_frame _ _ s)

theorem raiseRequest_frame (mode : Mode) (waiveKey : Bool) (s : State) :
    sameBut curtainParts s (raiseRequest mode waiveKey s).2 = true := by
  unfold raiseRequest
  split
  · simp
  · generalize s.curtain.state = state
    cases state <;> dsimp only <;> (try split_ifs) <;>
    first
      | with_reducible exact sameBut_refl _ s
      | with_reducible exact moveCurtain_frame _ (failDemo_frame _) s
      | with_reducible exact ironParts_le (setPending_frame _ _ s)
      | with_reducible exact ironParts_le (changeCurtain_frame _ s)

theorem demoRaises_frame (s : State) : sameBut curtainParts s (demoRaises s) = true :=
  sameBut_trans (sameBut_mono (stopDwell_frame s) (by decide)) (sameBut_mono (setDemoStatus_frame _ _) (by decide))

theorem dwellEnds_frame (s : State) : sameBut curtainParts s (dwellEnds s) = true := by
  have stop : sameBut curtainParts s (stopDwell s) = true := sameBut_mono (stopDwell_frame s) (by decide)
  simp only [dwellEnds]
  split_ifs
  · exact sameBut_trans stop (sameBut_trans (raiseRequest_frame _ _ _) (demoRaises_frame _))
  · exact sameBut_trans stop (recordDemo_frame _ _)

/-- The judgment of a demonstration's descent stays within the curtain's parts, whatever it gives (R161, R162). -/
theorem judgeDescent_frame (s : State) : sameBut curtainParts s (judgeDescent s) = true := by
  have measured : sameBut curtainParts s (s.onPhase fun p => { p with demoTime := s.curtain.lastDescent }) = true :=
    sameBut_mono (onPhase_frame s _) (by decide)
  have dwells (t : State) (timer : Option Timer) : sameBut curtainParts t
      (setDemoStatus .dwell (t.onCurtain fun c => { c with sequence := { c.sequence with dwellTimer := timer } })) = true :=
    sameBut_trans (sameBut_mono (onCurtain_frame t _) (by decide)) (sameBut_mono (setDemoStatus_frame _ _) (by decide))
  unfold judgeDescent
  split
  · exact sameBut_refl _ s
  · dsimp only
    split
    · exact sameBut_trans measured (recordDemo_frame _ _)
    · split
      · exact sameBut_trans measured (recordDemo_frame _ _)
      · split
        · exact sameBut_trans measured (recordDemo_frame _ _)
        · split
          · exact sameBut_trans measured (sameBut_trans (dwells _ _) (dwellEnds_frame _))
          · exact sameBut_trans measured (dwells _ _)

/-- The release of a rising stage alarm changes the curtain's parts alone, its arrival's judgment included (R144). -/
theorem releaseInAlarm_frame (cause : Option FaultCause) (s : State) :
    sameBut curtainParts s (releaseInAlarm cause s) = true := by
  have entered := ironParts_le (enterReleased_frame cause s)
  simp only [releaseInAlarm]
  split_ifs
  · exact sameBut_trans entered (sameBut_trans (ironParts_le (arrive_frame _)) (judgeDescent_frame _))
  · exact entered

theorem stopCurtain_frame (s : State) : sameBut curtainParts s (stopCurtain s).2 = true := by
  unfold stopCurtain
  generalize s.curtain.state = state
  cases state <;> dsimp only <;> split_ifs <;>
    first
      | with_reducible exact sameBut_refl _ s
      | with_reducible exact moveCurtain_frame _ (failDemo_frame _) s
      | with_reducible exact ironParts_le (setPending_frame _ _ s)

theorem clearCurtainFault_frame (s : State) : sameBut curtainParts s (clearCurtainFault s).2 = true := by
  unfold clearCurtainFault
  split_ifs
  · simp
  · exact sameBut_trans (sameBut_mono (onCurtain_frame s _) (by decide)) (moveCurtain_frame _ (by simp) _)
  · simp

theorem startDemo_frame (s : State) : sameBut curtainParts s (startDemo s).2 = true := by
  unfold startDemo
  split_ifs
  all_goals first
    | exact sameBut_refl _ s
    | exact sameBut_trans (sameBut_mono (onCurtain_frame s _) (by decide))
        (sameBut_trans (sameBut_mono (setDemoStatus_frame _ _) (by decide)) (ironParts_le (startDescent_frame _ _)))

/-! ## What the unit is told -/

theorem startFlow_frame (s : State) : sameBut [.curtain] s (startFlow s) = true := onCurtain_frame s _

theorem stageAlarmRow_frame (s : State) : sameBut curtainParts s (stageAlarmRow s) = true := by
  unfold stageAlarmRow
  generalize s.curtain.state = state
  cases state <;> dsimp only <;> (try split_ifs) <;>
    first
      | with_reducible exact sameBut_refl _ s
      | with_reducible exact ironParts_le (startDescent_frame _ s)
      | with_reducible exact ironParts_le (setPending_frame _ _ s)
      | with_reducible exact ironParts_le (changeCurtain_frame _ s)
      | with_reducible exact releaseInAlarm_frame _ s

theorem curtainToldStage_frame (stage : Bool) (s : State) : sameBut curtainParts s (curtainToldStage stage s) = true := by
  have told (t : State) :
      sameBut curtainParts t (stageAlarmRow (if lineReading t 7 = .active then t else startFlow t)) = true := by
    refine sameBut_trans ?_ (stageAlarmRow_frame _)
    split_ifs
    · exact sameBut_refl _ t
    · exact sameBut_mono (startFlow_frame t) (by decide)
  have rises : sameBut curtainParts s (stageAlarmRises s) = true :=
    sameBut_trans (t := s.onCurtain fun c => { c with stageAlarm := true, k6 := true })
      (sameBut_mono (onCurtain_frame s _) (by decide)) (told _)
  unfold curtainToldStage
  split_ifs
  · simp
  · exact rises
  · exact sameBut_mono (onCurtain_frame s _) (by decide)

theorem curtainToldAlarm_frame (before : AlarmRecord) (s : State) :
    sameBut curtainParts s (curtainToldAlarm before s) = true := by
  simp only [curtainToldAlarm]
  split_ifs
  · exact sameBut_trans (curtainToldStage_frame _ s) (recordDemo_frame _ _)
  · exact curtainToldStage_frame _ s

theorem curtainToldRing_frame (ring : RingState) (s : State) : sameBut curtainParts s (curtainToldRing ring s) = true := by
  simp only [curtainToldRing]
  split_ifs
  · exact sameBut_trans (sameBut_mono (onCurtain_frame s _) (by decide)) (release_frame _ _)
  · exact sameBut_trans (sameBut_mono (onCurtain_frame s _) (by decide)) (release_frame _ _)
  · exact sameBut_mono (onCurtain_frame s _) (by decide)

theorem curtainToldPhase_frame (new : Phase) (s : State) : sameBut curtainParts s (curtainToldPhase new s) = true := by
  unfold curtainToldPhase
  generalize s.curtain.state = state
  cases state <;> dsimp only <;> split_ifs <;>
    first
      | with_reducible exact sameBut_refl _ s
      | with_reducible exact moveCurtain_frame _ (failDemo_frame _) s
      | with_reducible exact ironParts_le (setPending_frame _ _ s)
      | with_reducible exact failDemo_frame _ s

end Sys2Proof.Machine
end

