-- ==== Sys2Proof/Laws/Alarm.lean ====
section
/-! SUPPORT. What a step of the Zone Monitor and a change of phase can change (chapters 6 and 3), and the alarm condition
record that a step leaves. -/

namespace Sys2Proof.Machine

/-- The Zone Monitor's own parts: its entries and flags beside it. -/
def zoneParts : List Part := [.report, .attention, .zones]

theorem zoneParts_le {s t : State} (h : sameBut zoneParts s t = true) : sameBut alarmParts s t = true :=
  sameBut_mono h (by decide)

/-! ## A zone's change of state (R106 to R108) -/

theorem setZone_frame (z : Nat) (zone : Option Zone) (s : State) : sameBut zoneParts s (setZone z zone s) = true :=
  sameBut_mono (onZones_frame s _) (by decide)

theorem setWindow_frame (w : Nat) (window : Window) (s : State) : sameBut zoneParts s (setWindow w window s) = true :=
  sameBut_mono (onZones_frame s _) (by decide)

theorem reportZone_frame (z : Nat) (new previous : ZoneState) (cause : ZoneCause) (s : State) :
    sameBut zoneParts s (reportZone z new previous cause s) = true :=
  sameBut_mono (report_frame _ _ s) (by decide)

theorem reportWindow_frame (w : Nat) (new previous : Bool) (cause : ZoneCause) (s : State) :
    sameBut zoneParts s (reportWindow w new previous cause s) = true :=
  sameBut_mono (report_frame _ _ s) (by decide)

theorem zoneFaultAttention_frame (previous new : ZoneState) (s : State) :
    sameBut zoneParts s (zoneFaultAttention previous new s) = true := by
  unfold zoneFaultAttention
  split_ifs
  · exact sameBut_mono (setAttention_frame _ s) (by decide)
  · simp

theorem moveZone_frame (z : Nat) (new : ZoneState) (verify : Option Timer) (cause : ZoneCause) (s : State) :
    sameBut zoneParts s (moveZone z new verify cause s) = true := by
  unfold moveZone
  split
  · simp
  · split_ifs
    · simp
    · exact sameBut_trans (setZone_frame _ _ s) (sameBut_trans (reportZone_frame _ _ _ _ _) (zoneFaultAttention_frame _ _ _))

theorem coincideLoop_frame (fuel : Nat) (work : List Nat) (s : State) :
    sameBut zoneParts s (coincideLoop fuel work s) = true := by
  induction fuel generalizing work s with
  | zero => simp [coincideLoop]
  | succ n ih =>
    cases work with
    | nil => simp [coincideLoop]
    | cons z work =>
      have partners : sameBut zoneParts s
          (forEach (linkedMasked s z) (fun p => moveZone p .confirmed none .coincidence) s) = true :=
        forEach_frame _ (fun p t => moveZone_frame p _ _ _ t) _ s
      simp only [coincideLoop]
      split_ifs
      · exact sameBut_trans partners (sameBut_trans (moveZone_frame _ _ _ _ _) (ih _ _))
      · exact sameBut_trans partners (ih _ _)

/-- A zone's change of state with its coincidences changes the zones, their entries and flags alone (R102, R108). -/
theorem enterZone_frame (z : Nat) (new : ZoneState) (verify : Option Timer) (cause : ZoneCause) (s : State) :
    sameBut zoneParts s (enterZone z new verify cause s) = true := by
  simp only [enterZone]
  split_ifs
  · simp
  · exact sameBut_trans (moveZone_frame _ _ _ _ s) (coincideLoop_frame _ _ _)
  · exact moveZone_frame _ _ _ _ s

/-- A zone that is already in the state does not change. -/
theorem enterZone_same {z : Nat} {new : ZoneState} {verify : Option Timer} {cause : ZoneCause} {s : State}
    (h : zoneIs s z new = true) : enterZone z new verify cause s = s := by
  simp [enterZone, h]

/-! ## Closures (R118) -/

theorem closeWindow_frame (cause : ZoneCause) (w : Nat) (s : State) :
    sameBut zoneParts s (closeWindow cause w s) = true := by
  unfold closeWindow
  split
  · simp
  · split_ifs
    · exact sameBut_trans (setWindow_frame _ _ s) (reportWindow_frame _ _ _ _ _)
    · simp

theorem resolveAlarm_frame (z : Nat) (s : State) : sameBut zoneParts s (resolveAlarm z s) = true := by
  unfold resolveAlarm
  split
  · simp
  · split_ifs
    · exact enterZone_frame _ _ _ _ s
    · simp

theorem resolveClear_frame (z : Nat) (s : State) : sameBut zoneParts s (resolveClear z s) = true := by
  unfold resolveClear
  split_ifs
  · exact enterZone_frame _ _ _ _ s
  · simp

theorem closeWindows_frame (windows : List Nat) (cause : ZoneCause) (s : State) :
    sameBut zoneParts s (closeWindows windows cause s) = true :=
  sameBut_trans (forEach_frame _ (fun w t => closeWindow_frame cause w t) _ s)
    (sameBut_trans (forEach_frame _ resolveAlarm_frame _ _) (forEach_frame _ resolveClear_frame _ _))

/-! ## Steps (R102, R121) -/

theorem deriveK4_frame (s : State) : sameBut [.lights] s (deriveK4 s) = true := by
  simp [sameBut, allParts, samePart, deriveK4]

theorem staffRequest_frame (before after : AlarmRecord) (s : State) :
    sameBut alarmParts s (staffRequest before after s) = true := by
  unfold staffRequest
  split_ifs
  · exact sameBut_mono (requestCall_frame _ _ s) (by decide)
  · simp

/-- A change of the record is handed on within the alarm's parts (R121). -/
theorem handOn_frame {evacuation : State → State} (h : ∀ t, sameBut alarmParts t (evacuation t) = true)
    (before : AlarmRecord) (origin : Byte) (s : State) : sameBut alarmParts s (handOn evacuation before origin s) = true := by
  have told (t : State) : sameBut alarmParts t (callsToldAlarm before (deriveK4 (curtainToldAlarm before t))) = true :=
    sameBut_trans (sameBut_mono (curtainToldAlarm_frame before t) (by decide))
      (sameBut_trans (sameBut_mono (deriveK4_frame _) (by decide)) (sameBut_mono (callsToldAlarm_frame before _) (by decide)))
  have ends (after : AlarmRecord) (t : State) : sameBut alarmParts t (notice true (staffRequest before after t)) = true :=
    sameBut_trans (staffRequest_frame _ _ t) (sameBut_mono (notice_frame _ _) (by decide))
  have reported : sameBut alarmParts s (setAttention .alarmChange (reportAlarm origin s)) = true :=
    sameBut_trans (sameBut_mono (report_frame _ _ s) (by decide)) (sameBut_mono (setAttention_frame _ _) (by decide))
  simp only [handOn]
  split_ifs
  · exact sameBut_trans reported (sameBut_trans (told _) (sameBut_trans (h _) (ends _ _)))
  · exact sameBut_trans reported (sameBut_trans (told _) (ends _ _))

theorem alarmClosure_frame (s : State) : sameBut zoneParts s (alarmClosure s) = true := by
  unfold alarmClosure
  split_ifs
  · exact closeWindows_frame _ _ s
  · simp

/-- A step of the Zone Monitor stays within the alarm's parts (R102). -/
theorem zoneStepWith_frame {evacuation change : State → State} (h : ∀ t, sameBut alarmParts t (evacuation t) = true)
    (origin : Byte) {s : State} (k : sameBut alarmParts s (change s) = true) :
    sameBut alarmParts s (zoneStepWith evacuation origin change s) = true := by
  have first := sameBut_trans k (zoneParts_le (alarmClosure_frame (change s)))
  simp only [zoneStepWith]
  split_ifs
  · exact first
  · exact sameBut_trans first
      (sameBut_trans (sameBut_mono (onZones_frame _ _) (by decide)) (handOn_frame h _ _ _))

theorem closeAllWindows_frame (cause : ZoneCause) (s : State) : sameBut alarmParts s (closeAllWindows cause s) = true :=
  zoneStepWith_frame (fun t => sameBut_refl _ t) _ (zoneParts_le (closeWindows_frame _ _ s))

/-! ## A change of phase (R37) -/

theorem reportPhase_frame (new previous : Phase) (cause : PhaseCause) (s : State) :
    sameBut [.report, .attention] s (reportPhase new previous cause s) = true :=
  report_frame _ _ s

theorem reportHold_frame (edge : Byte) (pending : Bool) (s : State) :
    sameBut [.report, .attention] s (reportHold edge pending s) = true :=
  report_frame _ _ s

theorem tellPhase_frame (new previous : Phase) (s : State) : sameBut alarmParts s (tellPhase new previous s) = true := by
  have told (t : State) : sameBut alarmParts t (callsToldPhase new previous (curtainToldPhase new (deriveK4 t))) = true :=
    sameBut_trans (sameBut_mono (deriveK4_frame t) (by decide))
      (sameBut_trans (sameBut_mono (curtainToldPhase_frame new _) (by decide))
        (sameBut_mono (callsToldPhase_frame new previous _) (by decide)))
  simp only [tellPhase]
  split_ifs
  · exact sameBut_trans (closeAllWindows_frame _ s) (told _)
  · exact told s

/-- A change of phase stays within the alarm's parts where its further entries do (R37). -/
theorem changePhase_frame (new : Phase) (cause : PhaseCause) (fields : PhaseUnit → PhaseUnit) {further : State → State}
    (h : ∀ t, sameBut alarmParts t (further t) = true) (s : State) :
    sameBut alarmParts s (changePhase new cause fields further s) = true :=
  sameBut_trans (sameBut_mono (onPhase_frame s _) (by decide))
    (sameBut_trans (sameBut_mono (reportPhase_frame _ _ _ _) (by decide))
      (sameBut_trans (h _) (sameBut_trans (tellPhase_frame _ _ _) (sameBut_mono (notice_frame _ _) (by decide)))))

theorem evacuate_frame (s : State) : sameBut alarmParts s (evacuate s) = true := by
  unfold evacuate
  split_ifs
  · simp
  · exact changePhase_frame _ _ _ (fun t => sameBut_refl _ t) s

/-- A step of the Zone Monitor, with the evacuation it may request, stays within the alarm's parts (R102, R47). -/
theorem zoneStep_frame (origin : Byte) {change : State → State} {s : State} (k : sameBut alarmParts s (change s) = true) :
    sameBut alarmParts s (zoneStep origin change s) = true :=
  zoneStepWith_frame evacuate_frame origin k

end Sys2Proof.Machine
end

