-- ==== Sys2Proof/Laws/Commands.lean ====
section
/-! SUPPORT. What the report, the attention set, the origin queue and the Command Unit's execution of a command do, each once
(R57, R215, R14, R203 to R205). -/

namespace Sys2Proof.Machine

/-! ## The report (R57) -/

/-- With room the entry joins the report and nothing else changes. -/
theorem appendEntry_room {entry : ReportEntry} {s : State} (h : s.phase.report.length < 128) :
    appendEntry entry s = s.onPhase fun p => { p with report := p.report ++ [entry] } := by
  simp [appendEntry, Config.reportCapacity, h]

/-- With room for a number of entries the report takes the first of them at its end. -/
theorem report_room {n : Nat} {kind : ReportKind} {data : List Byte} {s : State} (h : roomFor (n + 1) s = true) :
    report kind data s = s.onPhase fun p => { p with report := p.report ++ [entryNow s kind data] } := by
  refine appendEntry_room ?_
  simp only [roomFor, decide_eq_true_eq] at h
  omega

/-- The report takes an entry at its end, drops the oldest of another kind for one of a safety kind, or counts it lost. -/
theorem appendEntry_report (entry : ReportEntry) (s : State) :
    (appendEntry entry s).phase.report =
      if s.phase.report.length < Config.reportCapacity then s.phase.report ++ [entry]
      else if entry.kind.safety && s.phase.report.any (fun e => !e.kind.safety) then
        dropOldestOther s.phase.report ++ [entry]
      else s.phase.report := by
  have full (t : State) : (markFull t).phase.report = t.phase.report := by
    unfold markFull setAttention
    split_ifs <;> rfl
  unfold appendEntry
  split_ifs
  · rfl
  · exact full _
  · exact full _

/-! ## The attention set (R215, R216) -/

/-- The bits of the flags differ. -/
theorem Flag.bit_injective {a b : Flag} (h : a.bit = b.bit) : a = b := by
  cases a <;> cases b <;> simp_all [Flag.bit]

/-- A flag is a bit of a NOTICE's two bytes. -/
theorem Flag.bit_lt (a : Flag) : a.bit < 16 := by cases a <;> decide

/-- Setting a flag raises it and leaves every other one. -/
theorem isRaised_setAttention (a b : Flag) (s : State) :
    isRaised a (setAttention b s) = (isRaised a s || decide (a = b)) := by
  have bits : (BitVec.twoPow 16 b.bit).getLsbD a.bit = decide (a = b) := by
    rw [BitVec.getLsbD_twoPow]
    by_cases h : a = b
    · simp [h, Flag.bit_lt]
    · have : b.bit ≠ a.bit := fun k => h (Flag.bit_injective k.symm)
      simp [h, this, Flag.bit_lt]
  simp [isRaised, setAttention, Flag.mask, bits]

/-- An attention report clears every new mark and no flag. -/
@[simp] theorem isRaised_reportAttention (a : Flag) (s : State) : isRaised a (reportAttention s) = isRaised a s := rfl

/-! ## The origin queue (R14 to R18) -/

/-- While a frame is being sent, nothing is selected. -/
theorem arbitrate_sending {s : State} (h : s.loop.sending.isSome = true) : arbitrate s = s := by
  unfold arbitrate
  split
  · rfl
  · simp_all

/-- A frame offered to a quiet queue stands alone in it. -/
theorem offer_quiet {s : State} (n : s.numbered = true) (q : quietQueue s = true) (kind dest : Byte) (payload : List Byte)
    (urgent : Bool) :
    offer kind dest payload urgent s = s.onLoop fun l => { l with origin := [queued s kind dest payload urgent] } := by
  simp only [quietQueue, Bool.and_eq_true, List.isEmpty_iff] at q
  have join (f : OriginFrame) : joinOrigin f s = s.onLoop fun l => { l with origin := [f] } := by
    simp [joinOrigin, q.2, Config.originCapacity, State.onLoop]
  unfold offer
  rw [if_pos n, join, arbitrate_sending (by simpa using q.1)]
  rfl

/-! ## Commands (R203 to R205) -/

theorem setInProgress_frame (c : Option CommandInProgress) (s : State) :
    sameBut [.command] s (setInProgress c s) = true := by
  simp [sameBut, allParts, samePart, setInProgress]

/-- The command in progress is all that `begin` changes. -/
theorem begin_frame (code : Byte) (h : CommandHeader) (s : State) : sameBut [.command] s (begin code h s) = true :=
  setInProgress_frame _ s

/-- A command that does not reach the unit changes nothing (R10, R12). -/
theorem execute_unreached {code : Byte} {h : CommandHeader} {c : Checks} {body : State → Executed} {s : State}
    (r : reachesUnit h.source s = false) : execute code h c body s = s := by
  simp [execute, r]

/-- A command that fails a check is answered with that check's result alone (R204). -/
theorem execute_refused {code : Byte} {h : CommandHeader} {c : Checks} {body : State → Executed} {s : State}
    {result : Result} (r : reachesUnit h.source s = true) (f : failedCheck h.source c s = some result) :
    execute code h c body s = replied h code (.plain result) (begin code h s) := by
  have f' : failedCheck h.source c (begin code h s) = some result := f
  simp [execute, r, f', replied, finish]

/-- A command that passes the checks runs its own rule, and its REPLY is offered (R203, R204, R205). -/
theorem execute_accepted {code : Byte} {h : CommandHeader} {c : Checks} {body : State → Executed} {s : State}
    (a : accepted h s = true) (fits : c.fits = true) (store : c.needsStore = true → s.command.store = none)
    (lock : c.lockable = true → s.phase.phase.locked = false) :
    execute code h c body s =
      replied h code (body (begin code h s)).answer (body (begin code h s)).state := by
  simp only [accepted, Bool.and_eq_true] at a
  have f : failedCheck h.source c (begin code h s) = none := by
    change failedCheck h.source c s = none
    by_cases n : c.needsStore = true <;> by_cases l : c.lockable = true <;> simp_all [failedCheck]
  simp [execute, a.1.2, f, replied, finish]

/-- A command without data, store or lock check (R204). -/
theorem simple_accepted {code : Byte} {h : CommandHeader} {body : State → Response} {s : State}
    (a : accepted h s = true) :
    simple code h body s = replied h code (.plain (body (begin code h s)).1) (body (begin code h s)).2 :=
  execute_accepted a rfl (by simp [Checks.plain]) (by simp [Checks.plain])

/-- The REPLY of a command changes what offering a frame can change, and the command in progress. -/
theorem replied_frame (h : CommandHeader) (code : Byte) (answer : Answer) (s : State) :
    sameBut (.command :: offerParts) s (replied h code answer s) = true :=
  sameBut_trans (sameBut_mono (offerReply_frame _ _ _ _ s) (by decide)) (sameBut_mono (setInProgress_frame none _) (by decide))

end Sys2Proof.Machine
end

