-- ==== Sys2Proof/Laws/Owners.lean ====
section
/-! SUPPORT. What the contents of a LEVEL, ZONE, POS or CUE frame can change at their owner (R11, R79, R103, R129, R63). -/

namespace Sys2Proof.Machine

theorem curtainParts_le {s t : State} (h : sameBut curtainParts s t = true) : sameBut alarmParts s t = true :=
  sameBut_mono h (by decide)

/-! ## LEVEL frames (R79) -/

theorem trackChannel_frame (segment : Nat) (item : Nat × Byte) (s : State) :
    sameBut [.lights, .outputs] s (trackChannel segment item s) = true := by
  unfold trackChannel
  split_ifs
  · simp
  · exact onLights_frame s _

/-- Console tracking changes the House Light Unit alone (R79). -/
theorem trackLevels_frame (payload : List Byte) (s : State) :
    sameBut [.lights, .outputs] s (trackLevels payload s) = true := by
  unfold trackLevels
  split
  · simp
  · exact forEach_frame _ (fun item t => trackChannel_frame _ item t) _ s

/-! ## ZONE frames (R103 to R108) -/

theorem confirmedFault_frame (z : Nat) (state : ZoneState) (last new : Condition) (cause : ZoneCause) (s : State) :
    sameBut zoneParts s (confirmedFault z state last new cause s) = true := by
  unfold confirmedFault
  split_ifs
  · exact sameBut_trans (reportZone_frame _ _ _ _ s) (sameBut_mono (setAttention_frame _ _) (by decide))
  · simp

/-- One pair of a ZONE frame changes the zones, their entries and flags alone, before the step's own stages (R104). -/
theorem zoneReport_frame (z : Nat) (condition : Condition) (s : State) :
    sameBut zoneParts s (zoneReport z condition s) = true := by
  unfold zoneReport
  split
  · exact sameBut_mono (setAttention_frame _ s) (by decide)
  · exact sameBut_trans (setZone_frame _ _ s) (sameBut_trans (enterZone_frame _ _ _ _ _) (confirmedFault_frame _ _ _ _ _ _))

/-- A ZONE frame stays within the alarm's parts (R103). -/
theorem takeZoneFrame_frame (payload : List Byte) (s : State) : sameBut alarmParts s (takeZoneFrame payload s) = true := by
  unfold takeZoneFrame
  split_ifs
  · simp
  · exact forEach_frame _ (fun pair t => zoneStep_frame _ (zoneParts_le (zoneReport_frame _ _ t))) _ s

/-- The windows' own requests stay within the alarm's parts (R115). -/
theorem openWindow_frame (cause : ZoneCause) (w : Nat) (s : State) : sameBut zoneParts s (openWindow cause w s) = true := by
  unfold openWindow
  split
  · simp
  · split
    · simp
    · dsimp only
      split_ifs
      · exact setWindow_frame _ _ s
      · exact sameBut_trans (setWindow_frame _ _ s) (reportWindow_frame _ _ _ _ _)

theorem windowOpens_frame (cause : ZoneCause) (w : Nat) (s : State) :
    sameBut alarmParts s (windowOpens cause w s).2 = true := by
  unfold windowOpens
  split_ifs
  · simp
  · simp
  · simp
  · split
    · simp
    · exact zoneStep_frame _ (zoneParts_le (openWindow_frame _ _ s))

theorem windowCloses_frame (cause : ZoneCause) (w : Nat) (s : State) :
    sameBut alarmParts s (windowCloses cause w s).2 = true := by
  unfold windowCloses
  split_ifs
  · simp
  · exact zoneStep_frame _ (zoneParts_le (closeWindows_frame _ _ s))
  · simp

/-! ## POS frames (R129) -/

theorem failMoved_frame (s : State) : sameBut curtainParts s (failMoved s) = true := by
  unfold failMoved
  split_ifs
  · simp
  · exact failDemo_frame _ s

/-- A derived or reported move stays within the curtain's parts (R132). -/
theorem followMove_frame (next : Move) (s : State) : sameBut curtainParts s (followMove next s) = true := by
  unfold followMove
  split
  · exact faultCurtain_frame _ s
  · split_ifs
    · simp
    · exact moveCurtain_frame _ failMoved_frame s

theorem deriveState_frame (s : State) : sameBut curtainParts s (deriveState s) = true := by
  unfold deriveState
  split_ifs
  · simp
  · exact followMove_frame _ s

theorem takePosition_frame (position : Nat) (flags : DriveFlags) (s : State) :
    sameBut curtainParts s (takePosition position flags s) = true :=
  sameBut_mono (onCurtain_frame s _) (by decide)

theorem applyDriveFault_frame (s : State) : sameBut curtainParts s (applyDriveFault s) = true := by
  unfold applyDriveFault
  split_ifs
  · exact faultCurtain_frame _ s
  · simp

theorem applyLocal_frame (appears : Bool) (s : State) : sameBut curtainParts s (applyLocal appears s) = true := by
  have ends : sameBut curtainParts s (endDrive s) = true := sameBut_mono (onCurtain_frame s _) (by decide)
  have appeared : sameBut curtainParts s (failMoved (followMove (localMove s) (endDrive s))) = true :=
    sameBut_trans (sameBut_trans ends (followMove_frame _ _)) (failMoved_frame _)
  cases appears <;> unfold applyLocal <;> dsimp only <;> split_ifs <;>
    first
      | with_reducible exact sameBut_refl _ s
      | with_reducible exact release_frame _ s
      | with_reducible exact followMove_frame _ s
      | with_reducible exact appeared

theorem applyLocalCleared_frame (s : State) : sameBut curtainParts s (applyLocalCleared s) = true := by
  simp only [applyLocalCleared]
  split_ifs
  · exact sameBut_trans (deriveState_frame s) (sameBut_mono (offerDrive_frame _ _) (by decide))
  · exact deriveState_frame s

theorem applyLocalFlag_frame (wasLocal : Bool) (s : State) : sameBut curtainParts s (applyLocalFlag wasLocal s) = true := by
  unfold applyLocalFlag
  split_ifs
  · exact applyLocal_frame _ s
  · exact applyLocalCleared_frame s
  · simp

theorem applyDerivation_frame (s : State) : sameBut curtainParts s (applyDerivation s) = true := by
  unfold applyDerivation
  split_ifs
  · exact sameBut_trans (sameBut_mono (onCurtain_frame s _) (by decide)) (deriveState_frame _)
  · simp

theorem applyFloorCheck_frame (s : State) : sameBut curtainParts s (applyFloorCheck s) = true := by
  have cleared : sameBut curtainParts s (s.onCurtain fun c => { c with floorCheck := false }) = true :=
    sameBut_mono (onCurtain_frame s _) (by decide)
  simp only [applyFloorCheck]
  split_ifs
  · exact sameBut_trans cleared (faultCurtain_frame _ _)
  · exact cleared
  · simp

theorem lateAction_frame (s : State) : sameBut curtainParts s (lateAction s) = true := by
  have entry (t : State) (position : Nat) : sameBut curtainParts t (reportStanding 4 position t) = true :=
    sameBut_mono (reportStanding_frame _ _ t) (by decide)
  unfold lateAction
  dsimp only
  split_ifs
  · exact sameBut_trans (release_frame _ s) (entry _ _)
  · exact entry s _
  · exact sameBut_trans (entry s _) (sameBut_mono (markDemo_frame _ _) (by decide))
  · exact sameBut_trans (entry s _) (sameBut_mono (setAttention_frame _ _) (by decide))

theorem estimatorReport_frame (s : State) : sameBut curtainParts s (estimatorReport s) = true := by
  have writes (t : State) (f : Curtain → Curtain) : sameBut curtainParts t (t.onCurtain f) = true :=
    sameBut_mono (onCurtain_frame t f) (by decide)
  simp only [estimatorReport]
  split_ifs
  · exact sameBut_trans (writes s _) (sameBut_trans (lateAction_frame _) (writes _ _))
  · exact writes s _

theorem demoChecks_frame (s : State) : sameBut curtainParts s (demoChecks s) = true := by
  have seen : sameBut curtainParts s
      (s.onCurtain fun c => { c with sequence := { c.sequence with posSeen := true } }) = true :=
    sameBut_mono (onCurtain_frame s _) (by decide)
  simp only [demoChecks]
  split_ifs
  · exact sameBut_trans seen (sameBut_mono (markDemo_frame _ _) (by decide))
  · exact seen
  · simp

theorem applyEstimator_frame (s : State) : sameBut curtainParts s (applyEstimator s) = true := by
  unfold applyEstimator
  split_ifs
  · exact sameBut_trans (estimatorReport_frame s) (demoChecks_frame _)
  · simp

/-- A POS frame stays within the curtain's parts, step by step (R129). -/
theorem takePos_frame (payload : List Byte) (s : State) : sameBut curtainParts s (takePos payload s) = true := by
  unfold takePos
  split
  · exact sameBut_trans (takePosition_frame _ _ s) (sameBut_trans (applyDriveFault_frame _)
      (sameBut_trans (applyLocalFlag_frame _ _) (sameBut_trans (applyDerivation_frame _)
        (sameBut_trans (applyFloorCheck_frame _) (applyEstimator_frame _)))))
  · simp

/-! ## Phase requests (R49) -/

theorem leaveHold_frame (previous : Phase) (s : State) : sameBut alarmParts s (leaveHold previous s) = true := by
  unfold leaveHold
  split_ifs
  · exact sameBut_mono (reportHold_frame _ _ s) (by decide)
  · simp

theorem checkDemonstration_frame (s : State) : sameBut alarmParts s (checkDemonstration s) = true := by
  have result (t : State) (data : List Byte) :
      sameBut alarmParts t (setAttention .demoResult (report .demo data t)) = true :=
    sameBut_trans (sameBut_mono (report_frame _ _ t) (by decide)) (sameBut_mono (setAttention_frame _ _) (by decide))
  have missed (t : State) : sameBut alarmParts t (setDemoStatus .missed t) = true :=
    sameBut_mono (setDemoStatus_frame _ t) (by decide)
  simp only [checkDemonstration]
  split_ifs
  · simp
  · exact sameBut_trans (sameBut_mono (stopDwell_frame s) (by decide)) (sameBut_trans (missed _) (result _ _))
  · exact sameBut_trans (missed s) (result _ _)

theorem beginAct1_frame (cause : PhaseCause) (s : State) : sameBut alarmParts s (beginAct1 cause s) = true :=
  changePhase_frame _ _ _ (fun t => sameBut_trans (leaveHold_frame _ t) (checkDemonstration_frame _)) s

theorem beginInterval_frame (cause : PhaseCause) (countdown : Nat) (s : State) :
    sameBut alarmParts s (beginInterval cause countdown s) = true :=
  sameBut_trans (sameBut_mono (onPhase_frame s _) (by decide))
    (sameBut_trans (sameBut_mono (clearIntervalFired_frame _) (by decide))
      (changePhase_frame _ _ _ (fun t => sameBut_refl _ t) _))

theorem openHouse_frame (cause : PhaseCause) (s : State) : sameBut alarmParts s (openHouse cause s).2 = true := by
  unfold openHouse
  split_ifs
  · exact changePhase_frame _ _ _ (fun t => sameBut_refl _ t) s
  · simp

theorem takeTransition_frame (target : Phase) (countdown : Nat) (cause : PhaseCause) (s : State) :
    sameBut alarmParts s (takeTransition target countdown cause s).2 = true := by
  have plain (new : Phase) (fields : PhaseUnit → PhaseUnit) :
      sameBut alarmParts s (changePhase new cause fields id s) = true :=
    changePhase_frame _ _ _ (fun t => sameBut_refl _ t) s
  unfold takeTransition
  split
  · exact openHouse_frame cause s
  · dsimp only
    exact beginAct1_frame cause s
  · dsimp only
    exact beginAct1_frame cause s
  · split_ifs
    · exact sameBut_refl _ s
    · exact plain _ _
  · dsimp only
    exact beginInterval_frame cause countdown s
  · exact plain _ _
  · exact sameBut_refl _ s

/-- A phase request stays within the alarm's parts (R49). -/
theorem phaseRequest_frame (target : Option Phase) (act countdown : Nat) (cause : PhaseCause) (s : State) :
    sameBut alarmParts s (phaseRequest target act countdown cause s).2 = true := by
  unfold phaseRequest
  split
  · exact sameBut_refl _ s
  · split_ifs
    all_goals first
      | with_reducible exact sameBut_refl _ s
      | with_reducible exact takeTransition_frame _ _ _ s

/-! ## CUE frames (R63 to R72) -/

theorem houseFade_frame (g level time : Nat) (s : State) : sameBut alarmParts s (houseFade g level time s).2 = true := by
  unfold houseFade
  split
  · simp
  · split_ifs
    · simp
    · simp
    · exact sameBut_mono (onLights_frame s _) (by decide)
    · exact sameBut_mono (onLights_frame s _) (by decide)

/-- An action's request stays within the alarm's parts, whoever takes it (R66 to R71). -/
theorem performAction_frame (action : CueAction) (s : State) : sameBut alarmParts s (performAction action s).2 = true := by
  cases action with
  | phase target act => exact phaseRequest_frame _ _ _ _ s
  | hfade group level time => exact houseFade_frame _ _ _ s
  | wopen window => exact windowOpens_frame _ _ s
  | wclose window => exact windowCloses_frame _ _ s
  | call id => exact sameBut_mono (requestCall_frame _ _ s) (by decide)
  | demo => exact curtainParts_le (startDemo_frame s)
  | mark value => simp [performAction]

theorem executeAction_frame (x : Execution) (action : CueAction) (s : State) :
    sameBut alarmParts s (executeAction x action s) = true := by
  have entry (e : ReportEntry) (t : State) : sameBut alarmParts t (appendEntry e t) = true :=
    sameBut_mono (appendEntry_frame e t) (by decide)
  have answered : sameBut alarmParts s
      (if refusedInClosed action s then (Result.refusedState, s) else performAction action s).2 = true := by
    split_ifs
    · simp
    · exact performAction_frame action s
  unfold executeAction
  split
  · exact entry _ s
  · dsimp only
    split_ifs at answered ⊢
    all_goals first
      | exact answered
      | exact sameBut_trans answered (entry _ _)

theorem executeFrom_frame (x : Execution) (position : Nat) (actions : List CueAction) (s : State) :
    sameBut (.cues :: alarmParts) s (executeFrom x position actions s) = true := by
  induction actions generalizing position s with
  | nil => simp [executeFrom]
  | cons action rest ih =>
    exact sameBut_trans (sameBut_mono (onCues_frame s _) (by decide))
      (sameBut_trans (sameBut_mono (executeAction_frame _ _ _) (by decide)) (ih _ _))

/-- A CUE frame stays within the cue table's execution record and the alarm's parts (R63, R64). -/
theorem takeCueFrame_frame (payload : List Byte) (s : State) :
    sameBut (.cues :: alarmParts) s (takeCueFrame payload s) = true := by
  unfold takeCueFrame
  split
  · split_ifs
    · split
      · simp
      · exact sameBut_trans (executeFrom_frame _ _ _ s) (sameBut_mono (onCues_frame _ _) (by decide))
    · simp
  · simp

/-! ## Every owner (R11) -/

/-- The hand-off of a forwarded frame, whatever its kind, stays within the cues and the alarm's parts (R11). -/
theorem handToOwner_frame (frame : Frame) (s : State) : sameBut (.cues :: alarmParts) s (handToOwner frame s) = true := by
  unfold handToOwner
  split_ifs
  · exact sameBut_mono (trackLevels_frame _ s) (by decide)
  · exact takeCueFrame_frame _ s
  · exact sameBut_mono (takeZoneFrame_frame _ s) (by decide)
  · exact sameBut_mono (takePos_frame _ s) (by decide)
  · simp

end Sys2Proof.Machine
end

