-- ==== Sys2Proof/WellFormed.lean ====
section
/-! DEFINITION. Well-formed commands: operands that the manual's numbering allows. A command outside it cannot occur at the
part's ports; its meaning then leaves the state as it was, or answers a refusal (log entry 36). -/

namespace Sys2Proof

/-- A node number a frame can carry as its source (R3). -/
def CommandHeader.wellFormed (h : CommandHeader) : Bool := decide (1 ≤ h.source.toNat ∧ h.source.toNat ≤ 126)

/-- Argument bytes that fit in a COMMAND payload of 240 bytes beside code and sequence number (1.2, R205). -/
def loadFits (entries : List Byte) : Bool := decide (entries.length ≤ 238)

/-- The numbers of contact lines, groups, zones, windows, generators, channels and calls (R27, R75, R81, R98, R100, R171,
R173, R194), and the sources and lengths of commands (R3, R205). -/
def Instr.wellFormed : Instr → Bool
  | .powerOn _ => true
  | .frameAbandonment _ => true
  | .gapTimerExpiry => true
  | .frameCompletion _ => true
  | .sendCompletion => true
  | .ringTimerExpiry => true
  | .contactAcceptance line => decide (line < 8)
  | .prescalerWrap => true
  | .refreshCheck => true
  | .silenceTimerExpiry segment channel => decide (segment < 4 ∧ channel < 512)
  | .fadeStep group => decide (group < 8)
  | .verificationExpiry zone => decide (zone < 48)
  | .stalenessExpiry zone => decide (zone < 48)
  | .windowExpiry window => decide (window < 16)
  | .deadTimeExpiry => true
  | .driveRepeatExpiry => true
  | .raiseTimerExpiry => true
  | .positionStaleExpiry => true
  | .emergencyStaleExpiry => true
  | .flowTimerExpiry => true
  | .dwellExpiry => true
  | .callLapse id => decide (id < 32 ∨ id = 62 ∨ id = 63)
  | .playerTimerExpiry => true
  | .segmentTimerExpiry generator => decide (generator < 4)
  | .noticeTimerExpiry => true
  | .storeCompletion => true
  | .unknownCommand source payload => decide (1 ≤ source.toNat ∧ source.toNat ≤ 126 ∧ payload.length ≤ 240)
  | .rdst header _ => header.wellFormed
  | .acka header _ => header.wellFormed
  | .rdzn header _ _ => header.wellFormed
  | .rdqu header => header.wellFormed
  | .rdrp header _ => header.wellFormed
  | .rdtb header _ _ => header.wellFormed
  | .ldpo header entries => header.wellFormed && loadFits entries
  | .ldcu header entries => header.wellFormed && loadFits entries
  | .ldzn header entries => header.wellFormed && loadFits entries
  | .ldcl header entries => header.wellFormed && loadFits entries
  | .ldpt header entries => header.wellFormed && loadFits entries
  | .ldrt header entries => header.wellFormed && loadFits entries
  | .ldpf header entries => header.wellFormed && loadFits entries
  | .cltb header _ => header.wellFormed
  | .sttb header => header.wellFormed
  | .rstr header => header.wellFormed
  | .bgpf header _ _ => header.wellFormed
  | .ophs header => header.wellFormed
  | .hold header => header.wellFormed
  | .rlhd header => header.wellFormed
  | .stcd header _ => header.wellFormed
  | .phse header _ _ _ => header.wellFormed
  | .shst header => header.wellFormed
  | .shrs header => header.wellFormed
  | .evrs header => header.wellFormed
  | .enpf header => header.wellFormed
  | .clwr header => header.wellFormed
  | .crse header => header.wellFormed
  | .cstp header => header.wellFormed
  | .cclr header => header.wellFormed
  | .demo header => header.wellFormed
  | .hfad header _ _ _ => header.wellFormed
  | .hrel header _ => header.wellFormed
  | .htak header _ => header.wellFormed
  | .ziso header _ => header.wellFormed
  | .zrst header _ => header.wellFormed
  | .arst header _ => header.wellFormed
  | .wopn header _ => header.wellFormed
  | .wcls header _ => header.wellFormed
  | .caln header _ => header.wellFormed
  | .calx header _ => header.wellFormed
  | .rpln header _ _ => header.wellFormed
  | .characterReceipt _ => true
  | .contactSample line _ => decide (line < 8)
  | .showClockAdvance => true
  | .powerLoss => true

end Sys2Proof
end

