-- ==== Sys2Proof/Tests/Slice0.lean ====
section
/-! SUPPORT. The model's own tests. First the checks of well-formedness and values worked by hand from the manual; then, for
each statement of Sys2Proof/Certificates/Slice0/Obligations.lean that has hypotheses, concrete states and operands that meet
them, at the ends of their ranges, with what the command then does. -/

section Tests

open Sys2Proof Sys2Proof.Machine

set_option maxRecDepth 20000
set_option Elab.async false

/-! ## Small states -/

/-- The state a command leads to. -/
def after (c : Instr) (s : State) : State :=
  match exec c s with
  | .next t => t
  | .fault _ => s
  | .refused _ => s

/-- A command of the controller node (the default profile's node 1). -/
def fromDesk : CommandHeader := { source := 1, sequence := 7 }

/-- A part that is sending a frame at OUT, with nothing in its queues. -/
def busyPort : State :=
  State.reset.onLoop fun l =>
    { l with
      sending := some
        { frame := { dest := 127, source := 2, kind := 9, payload := [] }, crc := 0, span := { start := 0, cycles := 96000 } } }

/-- The state in a phase. -/
def inPhase (p : Phase) (s : State) : State := s.onPhase fun r => { r with phase := p }

/-- The state with the curtain changed. -/
def withIron (state : CurtainState) (s : State) : State := s.onCurtain fun c => { c with state := state }

/-- The state with a line's reading. -/
def withReading (line : Nat) (r : Reading) (s : State) : State :=
  s.onLines fun lines => lines.setIfInBounds line { Line.initial with reading := r }

/-- The house group is there and so. -/
def groupIs (g : Nat) (p : Group → Bool) (s : State) : Bool := (s.lights.groups[g]?).any p

/-- The contact line is there and so. -/
def lineIs (line : Nat) (p : Line → Bool) (s : State) : Bool := (s.lines[line]?).any p

/-- A timer that is due at reading 0. -/
def dueTimer : Timer := { start := 0, length := 0 }

/-! ## Well-formed commands -/

/-- Each check of `Instr.wellFormed` refuses a command that breaks it. -/
theorem test_wellFormed_refuses :
    (Instr.rdqu { source := 0, sequence := 0 }).wellFormed = false ∧
    (Instr.rdqu { source := 127, sequence := 0 }).wellFormed = false ∧
    (Instr.ldpo fromDesk (List.replicate 239 0)).wellFormed = false ∧
    (Instr.contactAcceptance 8).wellFormed = false ∧ (Instr.contactSample 8 .normal).wellFormed = false ∧
    (Instr.silenceTimerExpiry 4 0).wellFormed = false ∧ (Instr.silenceTimerExpiry 0 512).wellFormed = false ∧
    (Instr.fadeStep 8).wellFormed = false ∧ (Instr.verificationExpiry 48).wellFormed = false ∧
    (Instr.stalenessExpiry 48).wellFormed = false ∧ (Instr.windowExpiry 16).wellFormed = false ∧
    (Instr.segmentTimerExpiry 4).wellFormed = false ∧ (Instr.callLapse 40).wellFormed = false ∧
    (Instr.unknownCommand 127 []).wellFormed = false ∧ (Instr.unknownCommand 0 []).wellFormed = false ∧
    (Instr.unknownCommand 1 (List.replicate 241 0)).wellFormed = false := by decide +kernel

/-- The ends of the ranges are well-formed. -/
theorem test_wellFormed_accepts :
    (Instr.rdqu { source := 126, sequence := 255 }).wellFormed ∧ (Instr.ldpo fromDesk (List.replicate 238 0)).wellFormed ∧
    (Instr.contactAcceptance 7).wellFormed ∧ (Instr.silenceTimerExpiry 3 511).wellFormed ∧ (Instr.fadeStep 7).wellFormed ∧
    (Instr.verificationExpiry 47).wellFormed ∧ (Instr.windowExpiry 15).wellFormed ∧
    (Instr.segmentTimerExpiry 3).wellFormed ∧ (Instr.callLapse 31).wellFormed ∧ (Instr.callLapse 62).wellFormed ∧
    (Instr.unknownCommand 1 (List.replicate 240 0)).wellFormed := by decide +kernel

/-- No table word spells a command (log entry 38). -/
theorem test_decodeTableWord : decodeTableWord 8 0x30 = none ∧ State.reset.withFetchWord 8 0x30 = State.reset := by decide +kernel

/-! ## Values worked by hand -/

/-- The CRC of R5 over the digits 1 to 9 is 29B1h, the check value of CRC-16 with this polynomial, start and no inversion. -/
theorem test_crc16_check : crc16 [0x31, 0x32, 0x33, 0x34, 0x35, 0x36, 0x37, 0x38, 0x39] = 0x29B1 := by decide +kernel

/-! ## The machine, power and the store -/

/-- Meets the hypotheses of StepTakesFrontCommand, EveryCommandCompletesAndKeepsQueue and PowerCycleKeepsOnlyTheStore. -/
theorem test_machine_statements :
    State.reset.pending = [] ∧ ({ State.reset with powered := false }).powered = false ∧
    after .showClockAdvance { State.reset with powered := false } = { State.reset with powered := false } ∧
    (after (.powerOn 9) { State.reset with powered := false }).loop.node = 9 := by decide +kernel

/-- Meets the hypotheses of StoreSurvivesPowerLoss. -/
theorem test_store_statements :
    accepted fromDesk State.reset ∧ State.reset.command.store = none ∧ (imageOf State.reset).inRange ∧ roomFor 1 State.reset ∧
    (after (.sttb fromDesk) State.reset).command.store.isSome ∧
    (after .storeCompletion (after (.sttb fromDesk) State.reset)).stored.isSome := by decide +kernel

/-- Meets the hypotheses of RestartKeepsTables. -/
theorem test_restart_conditions :
    accepted fromDesk State.reset ∧ State.reset.command.store = none ∧ State.reset.phase.phase = .closed ∧
    State.reset.curtain.state ≠ .lowering ∧ State.reset.curtain.state ≠ .raising ∧ State.reset.curtain.state ≠ .released ∧
    State.reset.zones.alarm.confirmed = [] ∧
    (after (.rstr fromDesk) { State.reset with clock := 5000 }).clock = 5000 := by decide +kernel

/-! ## The loop -/

/-- A NOTICE frame that another node sends to all. -/
def otherNotice : Frame := { dest := 127, source := 5, kind := kindNotice, payload := [1, 2] }

/-- The state whose assembler has all of a frame but the last character of its CRC. -/
def beforeLast (f : Frame) (s : State) : State :=
  s.onLoop fun l => { l with assembler := .check, assembly := f.bytes ++ [byte ((crc16 f.bytes).toNat / 256)] }

/-- The last character of a frame's CRC. -/
def lastCharacter (f : Frame) : Character := { data := byte (crc16 f.bytes).toNat, mark := false, stopBit := true }

/-- The loop ring closed, with its timer not yet due. -/
def ringClosed (s : State) : State :=
  (s.onLoop fun l => { l with ring := .ok, k7 := true, ringTimer := some { start := 0, length := 1500 } }).onCurtain
    fun c => { c with ring := .ok }

/-- Meets the hypotheses of CharactersDeliverFrame. -/
theorem test_characters_deliver :
    State.reset.powered ∧ State.reset.loop.assembler = .hunt ∧ otherNotice.payload.length ≤ 240 ∧
    run (otherNotice.characters.dropLast.map Instr.characterReceipt ++
      (otherNotice.characters.drop 7).map Instr.frameCompletion) busyPort = some (dispose otherNotice (huntWith 0 busyPort)) := by
  decide +kernel

/-- Meets the hypotheses of AssemblerStartsAndAbandons. -/
theorem test_assembler_states :
    (after (.characterReceipt { data := 9, mark := true, stopBit := true }) State.reset).loop.assembler = .header ∧
    (after (.characterReceipt { data := 9, mark := true, stopBit := false }) State.reset).loop.assembler = .hunt ∧
    (beforeLast otherNotice State.reset).loop.assembler ≠ .hunt ∧
    (after (.frameAbandonment { data := 9, mark := false, stopBit := false })
      (beforeLast otherNotice State.reset)).loop.badFrames = 1 ∧
    (after (.frameAbandonment { data := 9, mark := true, stopBit := true })
      (beforeLast otherNotice State.reset)).loop.assembly = [9] ∧
    (let s := (beforeLast otherNotice State.reset).onLoop fun l =>
        { l with gapTimer := some { start := 0, cycles := 47999 }, badFrames := 7 }
     lineDue s.loop.gapTimer s.clock ∧ isRaised .lineErrors (after .gapTimerExpiry s)) := by decide +kernel

/-- Meets the hypotheses of CompletedFrameIsDisposed. -/
theorem test_frames_disposed :
    let wrong : Character := { data := byte ((crc16 otherNotice.bytes).toNat + 1), mark := false, stopBit := true }
    let own : Frame := { otherNotice with source := 2 }
    let command : Frame := { dest := 2, source := 1, kind := kindCommand, payload := [0x22, 7] }
    let noSource : Frame := { otherNotice with source := 0 }
    let full : State := busyPort.onLoop fun l => { l with forward := List.replicate 8 otherNotice }
    number2 (byte ((crc16 otherNotice.bytes).toNat / 256)) wrong.data ≠ (crc16 otherNotice.bytes).toNat ∧
    (after (.frameCompletion wrong) (beforeLast otherNotice busyPort)).loop.badFrames = 1 ∧
    number2 (byte ((crc16 otherNotice.bytes).toNat / 256)) (lastCharacter otherNotice).data =
      (crc16 otherNotice.bytes).toNat ∧
    noSource.headerValid = false ∧
    (after (.frameCompletion (lastCharacter noSource)) (beforeLast noSource busyPort)).loop.forward = [] ∧
    own.headerValid ∧ own.source = busyPort.nodeByte ∧ busyPort.loop.ring = .broken ∧
    (after (.frameCompletion (lastCharacter own)) (beforeLast own busyPort)).loop.k7 ∧
    (ringClosed busyPort).loop.ring = .ok ∧
    (after (.frameCompletion (lastCharacter own)) (beforeLast own (ringClosed busyPort))).loop.forward = [] ∧
    command.headerValid ∧ command.dest = busyPort.nodeByte ∧ command.source ≠ busyPort.nodeByte ∧
    (after (.frameCompletion (lastCharacter command)) (beforeLast command busyPort)).loop.origin.length = 1 ∧
    otherNotice.headerValid ∧ otherNotice.kind ≠ kindLevel ∧
    (after (.frameCompletion (lastCharacter otherNotice)) (beforeLast otherNotice busyPort)).loop.forward = [otherNotice] ∧
    isRaised .forwardOverrun (after (.frameCompletion (lastCharacter otherNotice)) (beforeLast otherNotice full)) := by
  decide +kernel

/-- The frame at OUT has been sent, with these queues waiting. -/
def sent (forward : List Frame) (origin : List OriginFrame) (forwardRun : Nat) : State :=
  State.reset.onLoop fun l =>
    { l with
      sending := some { frame := otherNotice, crc := 0, span := { start := 0, cycles := 47999 } }
      forward := forward, origin := origin, forwardRun := forwardRun }

/-- The frame that a send completion starts. -/
def started (s : State) : Option Frame := (after .sendCompletion s).loop.sending.map Sending.frame

/-- Meets the hypotheses of SendCompletionSelects. -/
theorem test_send_selects :
    let own : Frame := { otherNotice with source := 2 }
    let level : Frame := { dest := 127, source := 2, kind := kindLevel, payload := [0x10, 0, 5, 80] }
    lineDue ((sent [] [] 0).loop.sending.map Sending.span) (sent [] [] 0).clock ∧ started (sent [] [] 0) = none ∧
    started (sent [otherNotice] [{ frame := level, urgent := false }, { frame := own, urgent := true }] 0) = some own ∧
    started (sent [otherNotice] [{ frame := own, urgent := false }] 3) = some otherNotice ∧
    started (sent [otherNotice] [{ frame := own, urgent := false }] 4) = some own ∧
    started (sent [otherNotice] [] 4) = some otherNotice ∧
    started (sent [] [{ frame := level, urgent := false }] 0) = some level := by decide +kernel

/-- A governed channel with its last console level 90 and its silence timer running. -/
def channelOf (segment channel : Nat) (role : Role) (group : Byte) : PolicyEntry :=
  { defn := { segment := segment, channel := channel, role := role, group := group, merge := 0, floor := 100, window := 2
              alarm := 200 }
    lastLevel := 90, lastConsole := some 0, silence := some { start := 0, length := 1000 }, lastOutput := none }

/-- The part with four governed channels in segment 0, one of each role. -/
def governed : State :=
  State.reset.onLights fun l =>
    { l with policy := [channelOf 0 0 .house 1, channelOf 0 1 .aisle 0, channelOf 0 2 .stageWork 0, channelOf 0 511 .effect 0] }

/-- The same under show stop, so under the override. -/
def overridden : State := governed.onPhase fun p => { p with phase := .running, showStop := true }

/-- Meets the hypotheses of GovernedLevelsAreRewritten. -/
theorem test_levels_rewritten :
    number2 1 255 ≤ 511 ∧ rewriteLevels governed [0x10, 1, 255, 77] = [0x10, 1, 255, 0] ∧
    rewriteLevels governed [0x10, 0, 1, 77] = [0x10, 0, 1, 100] ∧
    rewriteLevels governed [0x10, 0, 2, 77] = [0x10, 0, 2, 90] ∧
    rewriteLevels governed [0x10, 0, 3, 77] = [0x10, 0, 3, 77] ∧ overrideActive governed = false ∧
    overrideActive overridden ∧ rewriteLevels overridden [0x10, 0, 1, 77] = [0x10, 0, 1, 200] ∧
    rewriteLevels overridden [0x10, 1, 255, 77] = [0x10, 1, 255, 0] ∧
    (governed.lights.groups[(1 : Byte).toNat]?).any (fun g => decide (g.level ≤ 65535)) ∧
    rewriteLevels governed [0x10, 0, 0, 77] = [0x10, 0, 0, 0] := by decide +kernel

/-- The ring closed with its timer due, and a stage alarm told to an iron that is OUT. -/
def ringDue (stage : Bool) : State :=
  ((ringClosed State.reset).onLoop fun l => { l with ringTimer := some dueTimer }).onCurtain fun c =>
    { c with state := .stored, stageAlarm := stage }

/-- Meets the hypotheses of RingTimerOpensRing. -/
theorem test_ring_opens :
    due (ringDue false).loop.ringTimer 0 ∧ (after .ringTimerExpiry (ringDue false)).curtain.state = .stored ∧
    (after .ringTimerExpiry (ringDue false)).loop.k7 = false ∧ lineReading (ringDue true) 1 ≠ .active ∧
    (after .ringTimerExpiry (ringDue true)).curtain.state = .released ∧ (after .ringTimerExpiry (ringDue true)).curtain.k5 := by
  decide +kernel

/-! ## Show clock and contact lines -/

/-- A wrap due in a phase with these countdowns. -/
def wrapping (p : Phase) (curtainUp intervalLeft : Nat) : State :=
  State.reset.onPhase fun r => { r with phase := p, curtainUp := curtainUp, intervalLeft := intervalLeft, wrapDue := true }

/-- The state with call 5 defined on an anchor with its offset. -/
def withCall (anchor : Option Anchor) (offset : Nat) (s : State) : State :=
  s.onCalls fun c =>
    { c with
      defs := c.defs.setIfInBounds 5 (some
        { defn :=
            { areas := 0x001, pattern := some 0, slot := some 3, messageTime := 5, priority := 1, gate := 0xFF, repeats := 2
              gap := 10, lifetime := 60, anchor := anchor, offset := offset }
          fired := false }) }

/-- Meets the hypotheses of ClockCountsDown. -/
theorem test_clock_counts :
    (after .showClockAdvance { State.reset with clock := 0xFFFFFFFF }).clock = 0 ∧
    (let s := withCall (some .curtainUp) 0 (wrapping .preshow 1 0)
     0 < s.phase.curtainUp ∧ (callEntry s 5).any (fun e => decide (e.defn.offset = s.phase.curtainUp - 1)) ∧
     (after .prescalerWrap s).phase.curtainUp = 0 ∧ (callEntry (after .prescalerWrap s) 5).any CallEntry.fired) ∧
    (let s := withCall (some .intervalEnd) 3599 (wrapping .interval 0 3600)
     0 < s.phase.intervalLeft ∧ (after .prescalerWrap s).phase.intervalLeft = 3599 ∧
     (callEntry (after .prescalerWrap s) 5).any CallEntry.fired) ∧
    (after .prescalerWrap (wrapping .held 60 0)).phase.holdPending ∧
    (after .prescalerWrap (wrapping .houseOpen 0 0)).phase.wrapDue = false ∧
    (after .prescalerWrap (wrapping .running 60 0)).phase.curtainUp = 60 := by decide +kernel

/-- Meets the hypotheses of SamplesFilterByPersistence. -/
theorem test_samples_filter :
    State.reset.lines[7]? = some Line.initial ∧ persistenceOf State.reset 7 = 4 ∧
    lineIs 7 (fun l => l.candidate.isNone) (after (.contactSample 7 .normal) State.reset) ∧
    (run (List.replicate 3 (.contactSample 7 .active)) State.reset).any
      (lineIs 7 fun l => decide (l.count = 3 ∧ l.accepted = .normal)) ∧
    (run (List.replicate 4 (.contactSample 7 .active)) State.reset).any
      (lineIs 7 fun l => decide (l.candidate = none ∧ l.accepted = .active)) ∧
    (run [.contactSample 7 .active, .contactSample 7 .opened] State.reset).any (lineIs 7 fun l => l.count == 1) := by
  decide +kernel

/-- A line whose next sample of a state completes the default persistence of four. -/
def lineDueAs (line : Nat) (accepted : LineState) (reading : Reading) (x : LineState) (s : State) : State :=
  s.onLines fun lines => lines.setIfInBounds line
    { Line.initial with accepted := accepted, reading := reading, candidate := some x, count := 3 }

/-- Meets the hypotheses of AcceptanceStoresReading. -/
theorem test_acceptances :
    (let s := lineDueAs 4 .normal .normal .shorted { State.reset with clock := 3 }
     roomFor 1 s ∧ isRaised .contactFault (after (.contactAcceptance 4) s) ∧
     (after (.contactAcceptance 4) s).phase.report = [{ time := 3, kind := .contact, data := [4, 3, 0] }] ∧
     (after (.contactSample 4 .opened) s).phase.report = [] ∧ after (.contactAcceptance 5) s = s) ∧
    (let s := lineDueAs 5 .normal .normal .active (inPhase .running State.reset)
     s.phase.phase ≠ .closed ∧ (after (.contactAcceptance 5) s).phase.showStop) ∧
    (let s := lineDueAs 6 .normal .normal .active (inPhase .houseOpen State.reset)
     (after (.contactAcceptance 6) s).phase.heldFrom = some .houseOpen) ∧
    (let s := lineDueAs 6 .active .active .normal
       (State.reset.onPhase fun p => { p with phase := .held, heldFrom := some .houseOpen })
     (after (.contactAcceptance 6) s).phase.phase = .houseOpen) ∧
    (let s := lineDueAs 3 .normal .normal .opened State.reset
     lineIs 3 (fun l => decide (l.reading = .active)) (after (.contactAcceptance 3) s)) := by decide +kernel

/-- Meets the hypotheses of FloorArrivalMeasuresDescent. -/
theorem test_floor_arrival :
    let s := (lineDueAs 1 .normal .normal .active { State.reset with clock := 9 }).onCurtain fun c =>
      { c with state := .released, mode := .emergency, descentStart := some 0, k5 := true }
    roomFor 3 s ∧ s.phase.demoStatus ≠ .lowering ∧ (after (.contactAcceptance 1) s).curtain.lastDescent = 9 ∧
    (after (.contactAcceptance 1) s).curtain.state = .atFloor ∧
    (after (.contactAcceptance 1) s).curtain.k5 = false := by
  decide +kernel

/-! ## House lights -/

/-- Meets the hypotheses of RefreshCheckOffersDueChannels. -/
theorem test_refresh_offers :
    let at100 (s : State) : State := { s with clock := 100 }
    let busyGoverned : State := at100 (busyPort.onLights fun _ => governed.lights)
    (at100 State.reset).lights.refreshTimer.expired 100 ∧ (at100 State.reset).lights.policy = [] ∧
    (after .refreshCheck (at100 State.reset)).lights.refreshTimer.start = 100 ∧ busyGoverned.numbered ∧
    quietQueue busyGoverned ∧ (after .refreshCheck busyGoverned).loop.origin =
      [queued busyGoverned kindLevel allNodes [0x10, 0, 0, 0, 0, 1, 100, 0, 2, 90, 1, 255, 0] false] := by decide +kernel

/-- The governed part with every silence timer but one expired and the first two groups the console's. -/
def quietConsole : State :=
  governed.onLights fun l =>
    { l with
      policy := l.policy.map fun e => { e with silence := if e.defn.channel = 2 then some dueTimer else e.silence }
      groups := l.groups.setIfInBounds 1 { Group.initial with owner := .console } }

/-- Meets the hypotheses of SilenceExpiryTakesGroupBack. -/
theorem test_silence_takes_back :
    due ((findPolicy quietConsole 0 2).bind PolicyEntry.silence) 0 ∧
    (findPolicy (after (.silenceTimerExpiry 0 2) quietConsole) 0 2).any PolicyEntry.silent ∧
    (let s := { quietConsole with clock := 1000 }
     due ((findPolicy s 0 0).bind PolicyEntry.silence) s.clock ∧ groupIs 1 (fun g => decide (g.owner = .console)) s ∧
     groupIs 1 (fun g => decide (g.owner = .part ∧ g.level = 23130)) (after (.silenceTimerExpiry 0 0) s) ∧
     isRaised .consoleSilent (after (.silenceTimerExpiry 0 0) s)) ∧
    (let s := { governed with clock := 1000 }
     groupIs 1 (fun g => decide (g.owner = .part)) s ∧
     (findPolicy (after (.silenceTimerExpiry 0 0) s) 0 0).any PolicyEntry.silent) := by decide +kernel

/-- The part whose group 0 fades from 1000 to 0 in three steps, of which `index` are taken. -/
def fading (index : Nat) : State :=
  setGroup 0
    { level := 1000, owner := .part, fade := some { start := 1000, target := 0, steps := 3, index := index }
      stepTimer := some { start := 0, length := 25 } } { State.reset with clock := 25 }

/-- Meets the hypotheses of FadesMoveGroupLevel. -/
theorem test_fades :
    groupIs 7 (fun g => decide (g.owner = .part)) State.reset ∧
    groupIs 7 (fun g => decide (g.fade = some { start := 0, target := 65535, steps := 144000, index := 0 }))
      (after (.hfad fromDesk 7 65535 36000) State.reset) ∧
    groupIs 7 (fun g => g.fade.isNone) (after (.hfad fromDesk 7 65535 36001) State.reset) ∧
    groupIs 7 (fun g => g.level == 65535) (after (.hfad fromDesk 7 65535 0) State.reset) ∧
    groupIs 1 (fun g => decide (g.owner = .console)) quietConsole ∧
    groupIs 0 (fun g => due g.stepTimer (fading 0).clock) (fading 0) ∧
    groupIs 0 (fun g => g.level == 667) (after (.fadeStep 0) (fading 0)) ∧
    groupIs 0 (fun g => g.level == 0 && g.fade.isNone) (after (.fadeStep 0) (fading 2)) := by decide +kernel

/-- Meets the hypotheses of GroupsChangeOwner. -/
theorem test_owners :
    (7 : Nat) < (8 : Byte).toNat ∧ groupEntries governed 1 ≠ [] ∧ (groupEntries governed 1).any (fun e => !e.silent) ∧
    groupIs 1 (fun g => decide (g.owner = .console)) (after (.hrel fromDesk 1) governed) ∧
    (let s := after (.silenceTimerExpiry 0 0) { governed with clock := 1000 }
     (groupEntries s 1).all PolicyEntry.silent ∧
     groupIs 1 (fun g => decide (g.owner = .part)) (after (.hrel fromDesk 1) s)) ∧
    groupIs 1 (fun g => g.level == 23130) (after (.htak fromDesk 1) quietConsole) := by decide +kernel

/-! ## Zones and windows -/

/-- A zone of a side in a state with its last condition, its verification timer due if it is VERIFYING. -/
def zoneOf (side : Side) (state : ZoneState) (last : Condition) : Zone :=
  { defn := { side := side, verification := 600, partner := none }, state := state, last := last, lastReport := 0
    stale := false, verifyTimer := if state = .verifying then some dueTimer else none, staleTimer := none }

/-- The part with zone 47 so, in a performance, and the record and the Curtain Supervisor's value derived from it. -/
def withZone (zone : Zone) : State :=
  let s := setZone 47 (some zone) (inPhase .running State.reset)
  (s.onZones fun m => { m with alarm := derivedAlarm s }).onCurtain fun c => { c with stageAlarm := (derivedAlarm s).stage }

/-- Window 15, open or closed, holding zone 47, its timer due while it is open. -/
def withWindow (isOpen : Bool) (s : State) : State :=
  setWindow 15
    { defn := some { duration := 600, zones := BitVec.twoPow 48 47 }, isOpen := isOpen
      timer := if isOpen then some dueTimer else none } s

/-- Zone 47 is CONFIRMED with its last condition. -/
def confirmed (last : Condition) : State := withZone (zoneOf .stage .confirmed last)

/-- Meets the hypotheses of ZoneTimersConfirmAndFault. -/
theorem test_zone_timers :
    (let s := withZone (zoneOf .house .verifying .alarm)
     (zoneAt s 47).isSome ∧ recordDerived s ∧ roomFor 1 s ∧ s.phase.phase ≠ .closed ∧
     (after (.verificationExpiry 47) s).phase.phase = .evacuating ∧ zoneIs (after (.verificationExpiry 47) s) 47 .confirmed ∧
     (after (.verificationExpiry 47) (inPhase .closed s)).phase.phase = .closed) ∧
    (let s := withZone { zoneOf .front .prealarm .prealarm with staleTimer := some dueTimer }
     zoneIs (after (.stalenessExpiry 47) s) 47 .faultStale ∧ isRaised .zoneFault (after (.stalenessExpiry 47) s)) ∧
    (let s := withZone { zoneOf .front .isolated .clear with staleTimer := some dueTimer }
     recordDerived s ∧ windowsClosedInAlarm s ∧ zoneIs (after (.stalenessExpiry 47) s) 47 .isolated ∧
     (zoneAt (after (.stalenessExpiry 47) s) 47).any Zone.stale) := by decide +kernel

/-- Meets the hypotheses of WindowsOpenAndClose. -/
theorem test_windows :
    (let s := withWindow false (withZone (zoneOf .stage .normal .clear))
     accepted fromDesk s ∧ recordDerived s ∧ roomFor 1 s ∧ s.zones.alarm.confirmed = [] ∧ s.phase.phase ≠ .evacuating ∧
     windowOpen (after (.wopn fromDesk 15) s) 15 ∧ windowOpen s 15 = false) ∧
    (let s := withWindow false (confirmed .alarm)
     s.zones.alarm.confirmed ≠ [] ∧ windowOpen (after (.wopn fromDesk 15) s) 15 = false) ∧
    (let s := withWindow true (withZone (zoneOf .stage .masked .alarm))
     recordDerived s ∧ zoneIs s 47 .masked ∧ windowOpen s 15 ∧
     (s.zones.windows[(15 : Byte).toNat]?).any (fun window => window.holds 47) ∧
     (List.range 16).all (fun v => v == 15 || !windowOpen s v) ∧ zoneIs (after (.wcls fromDesk 15) s) 47 .confirmed ∧
     zoneIs (after (.windowExpiry 15) s) 47 .confirmed ∧ windowOpen (after (.windowExpiry 15) s) 15 = false) := by decide +kernel

/-- Meets the hypotheses of ZonesAreIsolatedAndReset. -/
theorem test_zone_commands :
    (let s := withZone (zoneOf .house .faultReported .fault)
     (zoneAt s (47 : Byte).toNat).isSome ∧ zoneIs (after (.ziso fromDesk 47) s) 47 .isolated ∧
     zoneIs (after (.zrst fromDesk 47) s) 47 .faultReported) ∧
    (let s := withZone { zoneOf .house .isolated .alarm with stale := true }
     zoneIs (after (.zrst fromDesk 47) s) 47 .faultStale ∧ zoneIs (after (.ziso fromDesk 47) s) 47 .isolated) ∧
    zoneIs (after (.ziso fromDesk 47) (confirmed .clear)) 47 .confirmed ∧
    zoneIs (after (.arst fromDesk 47) (confirmed .clear)) 47 .normal ∧
    (confirmed .clear).zones.alarm.stage ∧ (after (.arst fromDesk 47) (confirmed .clear)).zones.alarm.stage = false ∧
    zoneIs (after (.arst fromDesk 47) (confirmed .alarm)) 47 .confirmed := by decide +kernel

/-- Meets the hypotheses of StageAlarmBringsIronDown. -/
theorem test_stage_alarm :
    let alarmed (c : Curtain → Curtain) : State := (withZone (zoneOf .stage .verifying .alarm)).onCurtain c
    let down (c : Curtain → Curtain) : Curtain := (after (.verificationExpiry 47) (alarmed c)).curtain
    recordDerived (alarmed id) ∧ (alarmed id).zones.alarm.stage = false ∧ lineReading (alarmed id) 1 ≠ .active ∧
    (down fun c => { c with state := .stored, ring := .ok }).state = .lowering ∧
    (down fun c => { c with state := .stopped, ring := .ok }).mode = .emergency ∧
    (down fun c => { c with state := .stored }).state = .released ∧ (down fun c => { c with ring := .ok }).k5 ∧
    (down fun c => { c with state := .atFloor, ring := .ok }).state = .atFloor ∧ (down id).k6 := by decide +kernel

/-- A demonstration's descent of 9000 ms over an open ring with C1 already ACTIVE, as a stage-side zone verifies. -/
def demoOverOpenRing (sequence : DemoSequence) : State :=
  let s := (withReading 1 .active (withZone (zoneOf .stage .verifying .alarm))).onCurtain fun c =>
    { c with state := .lowering, mode := .demo, descentStart := some 0, ring := .broken, sequence := sequence }
  { (s.onPhase fun p => { p with demoStatus := .lowering }) with clock := 9000 }

/-- Meets the hypotheses of StageAlarmBringsIronDown on a release that arrives at once, and on a demonstration in progress: by
R145 and R140 the arrival is taken, by R161 its 9000 ms are the demonstration descent time, and by R164 the alarm ends it. -/
theorem test_alarm_arrival :
    (let s := demoOverOpenRing DemoSequence.initial
     let t := after (.verificationExpiry 47) s
     recordDerived s ∧ s.curtain.ring = .broken ∧ lineReading s 1 = .active ∧ s.phase.demoStatus.inProgress ∧ roomFor 20 s ∧
     linked s 47 46 = false ∧ t.curtain.state = .atFloor ∧ t.curtain.k5 = false ∧ t.curtain.lastDescent = 9000 ∧
     t.phase.demoTime = 9000 ∧ t.phase.demoStatus = .failed .alarm ∧
     (t.phase.report.filter fun e => decide (e.kind = .demo)).map ReportEntry.data =
       [[5, 1, 0x23, 0x28, 0], [5, 4, 0x23, 0x28, 0]]) ∧
    (let t := after (.verificationExpiry 47) (demoOverOpenRing { DemoSequence.initial with posSeen := true })
     t.curtain.sequence.dwellTimer = none ∧ t.phase.demoStatus = .failed .alarm ∧
     (t.phase.report.filter fun e => decide (e.kind = .demo)).map ReportEntry.data = [[5, 4, 0x23, 0x28, 0]]) := by
  decide +kernel

/-! ## The safety curtain -/

/-- A part whose iron is in this state, driven by node 126, with a frame at OUT and a healthy ring. -/
def iron (state : CurtainState) : State :=
  (ringClosed (withIron state busyPort)).onCommand fun c => { c with profile := { c.profile with driveNode := 126 } }

/-- The same with the curtain key turned. -/
def keyed (state : CurtainState) : State := withReading 4 .active (iron state)

/-- The part with its drive in local control. -/
def localDrive (s : State) : State := s.onCurtain fun c => { c with flags := { c.flags with localControl := true } }

/-- Meets the hypotheses of CurtainLowersAndRaises, its lowering. -/
theorem test_lowering :
    accepted fromDesk (iron .stored) ∧ (iron .stored).curtain.flags.localControl = false ∧
    lineReading (iron .stored) 3 ≠ .active ∧ roomFor 1 (iron .stored) ∧ quietQueue (iron .stored) ∧
    (iron .stored).command.profile.driveNode ≠ 0 ∧ (iron .stored).command.profile.driveNode ≤ 126 ∧
    (after (.clwr fromDesk) (iron .stored)).curtain.state = .lowering ∧
    (after (.clwr fromDesk) (iron .stopped)).curtain.descentStart = some 0 ∧
    (after (.clwr fromDesk) (iron .atFloor)).curtain = (iron .atFloor).curtain ∧
    (after (.clwr fromDesk) (iron .unknown)).curtain.state = .unknown ∧
    lineReading (withReading 3 .active (iron .stored)) 3 = .active ∧
    (after (.clwr fromDesk) (withReading 3 .active (iron .stored))).curtain.state = .stored ∧
    (iron .raising).phase.demoStatus.inProgress = false ∧
    (after (.clwr fromDesk) (iron .raising)).curtain.pending = some .lower ∧
    (iron .deadTime).curtain.mode = .normal ∧ (after (.clwr fromDesk) (iron .deadTime)).curtain.pending = some .lower ∧
    (localDrive (iron .stored)).curtain.flags.localControl ∧
    (after (.clwr fromDesk) (localDrive (iron .stored))).curtain.state = .stored := by decide +kernel

/-- Meets the hypotheses of CurtainLowersAndRaises, its raising. -/
theorem test_raising :
    lineReading (keyed .atFloor) 4 = .active ∧ (keyed .atFloor).curtain.stageAlarm = false ∧
    (keyed .atFloor).phase.phase ≠ .evacuating ∧ (keyed .atFloor).phase.demoStatus ≠ .dwell ∧
    (after (.crse fromDesk) (keyed .atFloor)).curtain.state = .raising ∧
    (after (.crse fromDesk) (keyed .stopped)).curtain.raiseTimer = some { start := 0, length := 90000 } ∧
    (keyed .lowering).curtain.mode ≠ .emergency ∧
    (after (.crse fromDesk) (keyed .lowering)).curtain.pending = some .raise ∧
    (after (.crse fromDesk) (iron .atFloor)).curtain.state = .atFloor ∧
    (after (.crse fromDesk) (keyed .stored)).curtain.state = .stored ∧
    (after (.crse fromDesk) (inPhase .evacuating (keyed .stopped))).curtain.state = .stopped := by decide +kernel

/-- Meets the hypotheses of CurtainStopsAndClears. -/
theorem test_stop_and_clear :
    (after (.cstp fromDesk) (iron .raising)).curtain.state = .stopped ∧
    (after (.cstp fromDesk) (iron .lowering)).curtain.state = .stopped ∧
    (after (.cstp fromDesk) (iron .atFloor)).curtain = (iron .atFloor).curtain ∧
    (let s := (iron .lowering).onCurtain fun c => { c with mode := .emergency }
     (after (.cstp fromDesk) s).curtain.state = .lowering) ∧
    (let s := (iron .fault).onCurtain fun c => { c with cause := some .travelTimeout }
     s.curtain.stageAlarm = false ∧ (after (.cclr fromDesk) s).curtain.state = .stopped ∧
     (after (.cclr fromDesk) s).curtain.rederive) ∧
    (after (.cclr fromDesk) (iron .stopped)).curtain = (iron .stopped).curtain := by decide +kernel

/-- The demonstration in its dwell, the dwell timer due. -/
def dwelling : State :=
  ((iron .atFloor).onPhase fun p => { p with phase := .houseOpen, demoStatus := .dwell }).onCurtain fun c =>
    { c with sequence := { c.sequence with dwellTimer := some dueTimer } }

/-- Meets the hypotheses of DemonstrationStartsAndRaises. -/
theorem test_demonstration :
    (let s := inPhase .houseOpen (iron .stored)
     s.phase.showStop = false ∧ s.zones.alarm.confirmed = [] ∧ s.phase.demoStatus = .notDone ∧ quietQueue s ∧
     (after (.demo fromDesk) s).phase.demoStatus = .lowering ∧ (after (.demo fromDesk) s).curtain.mode = .demo) ∧
    (let s := (inPhase .houseOpen (iron .stored)).onPhase fun p => { p with demoStatus := .failed .slow }
     s.phase.demoStatus.reason.isSome ∧ (after (.demo fromDesk) s).curtain.state = .lowering) ∧
    (after (.demo fromDesk) (iron .stored)).curtain.state = .stored ∧
    due dwelling.curtain.sequence.dwellTimer 0 ∧ (after .dwellExpiry dwelling).curtain.state = .raising ∧
    (after .dwellExpiry dwelling).phase.demoStatus = .raising ∧ (localDrive dwelling).curtain.flags.localControl ∧
    (after .dwellExpiry (localDrive dwelling)).phase.demoStatus = .failed .fault := by decide +kernel

/-- Meets the hypotheses of DeadTimeAndRaiseTimerExpire. -/
theorem test_iron_timers :
    let waiting (pending : Pending) (s : State) : State :=
      s.onCurtain fun c => { c with pending := some pending, deadTimer := some dueTimer }
    due (waiting .lower (iron .deadTime)).curtain.deadTimer 0 ∧
    (after .deadTimeExpiry (waiting .lower (iron .deadTime))).curtain.state = .lowering ∧
    raiseBarred false (keyed .deadTime) = none ∧
    (after .deadTimeExpiry (waiting .raise (keyed .deadTime))).curtain.state = .raising ∧
    (raiseBarred false (iron .deadTime)).isSome ∧
    (after .deadTimeExpiry (waiting .raise (iron .deadTime))).curtain.state = .stopped ∧
    (after .deadTimeExpiry (waiting .none (iron .deadTime))).curtain.state = .stopped ∧
    (let s := (iron .raising).onCurtain fun c => { c with raiseTimer := some dueTimer }
     s.curtain.stageAlarm = false ∧ s.phase.demoStatus.inProgress = false ∧
     (after .raiseTimerExpiry s).curtain.cause = some .travelTimeout) ∧
    (let s := ((iron .raising).onCurtain fun c => { c with raiseTimer := some dueTimer }).onPhase fun p =>
       { p with demoStatus := .raising }
     s.phase.demoStatus.inProgress ∧ (after .raiseTimerExpiry s).phase.demoStatus = .failed .fault) := by decide +kernel

/-- Meets the hypotheses of DriveRepeatsAndFlowIsMissed. -/
theorem test_drive_and_flow :
    let s := (iron .lowering).onCurtain fun c => { c with repeatTimer := some dueTimer, flowTimer := some dueTimer }
    s.numbered ∧ quietQueue s ∧ (after .driveRepeatExpiry s).loop.origin = [queued s kindDrive 126 [1, 0] true] ∧
    isRaised .drencherNoFlow (after .flowTimerExpiry s) := by decide +kernel

/-- Meets the hypotheses of StalePositionReleasesIron. -/
theorem test_stale_position :
    let s := (iron .lowering).onCurtain fun c =>
      { c with mode := .emergency, staleTimer := some dueTimer, emergencyTimer := some dueTimer }
    (after .positionStaleExpiry s).curtain.stale ∧ lineReading s 1 ≠ .active ∧
    (after .positionStaleExpiry (s.onCurtain fun c => { c with emergencyTimer := none })).curtain.emergencyTimer =
      some { start := 0, length := 1000 } ∧
    (after .emergencyStaleExpiry s).curtain.state = .released ∧
    (let d := s.onPhase fun p => { p with demoStatus := .lowering }
     (after .positionStaleExpiry (d.onCurtain fun c => { c with mode := .demo })).curtain.sequence.unverified) := by decide +kernel

/-- Meets the hypotheses of EstimatorSpeedAndPrediction: speeds and predictions worked from R152 and R154: 80 counts in 200
ms are 400 counts/s, and 10000 counts at that speed
take 25 s. -/
theorem test_estimator :
    rawSpeed 80 200 = 6400 ∧ rawSpeed (-65535) 1 = -32768 ∧ rawSpeed 65535 1 = 32767 ∧ rawSpeed (-1) 16000 = -1 ∧
    (predict 16 10000 { Estimator.initial with speed := 6400 }).predicted = 25000 ∧
    (predict 16 65535 { Estimator.initial with speed := 17 }).predicted = 65535 ∧
    (predict 16 1 { Estimator.initial with speed := 16 }).noProgress ∧
    (predict 16 0 Estimator.initial).predicted = 0 ∧
    isLate Profile.default 2000 { Estimator.initial with predicted := 65535 } := by decide +kernel

/-! ## Calls and bells -/

/-- Call 5 for area 0, which plan A routes to station 20 and bell 0. -/
def callable : State :=
  ((withCall none 0 busyPort).onCalls fun c =>
    { c with
      areas := c.areas.setIfInBounds 0 (some
        { areaClass := .audience, inAuditorium := false, group := 0, stationA := 20, bellA := some 0, stationB := 21
          bellB := none }) })

/-- An instance of a call. -/
def instanceOf (id : Nat) (s : State) : CallInstance := newInstance s id .command

/-- What call 7 sounds with: two soundings of 5 s on bell 1. -/
def copyOf7 : StartCopy :=
  { stations := [(30, 1)], bells := [1], pattern := none, slot := some 4, messageTime := 5, repeats := .count 2, gap := 10 }

/-- The player sounds call 7 with its timer due or not, and `n` soundings to come. -/
def sounding (n : Nat) (timer : Timer) (s : State) : State :=
  s.onCalls fun c =>
    { c with player := .sounding { instanceOf 7 s with repeats := some (.count n) } copyOf7 timer }

/-- The player's timer, not due. -/
def playing : Timer := { start := 0, length := 5000 }

/-- Call 31, undefined, waits with its lifetime over. -/
def lapsed (s : State) : State := s.onCalls fun c => { c with queue := [{ instanceOf 31 s with timer := some dueTimer }] }

/-- Meets the hypotheses of CallsAreRequested. -/
theorem test_call_requests :
    (let s := sounding 2 playing callable
     callPriority s 5 ≤ 2 ∧ callDefined s 5 ∧ callHeld s 5 = false ∧ playerBusy s ∧
     (after (.caln fromDesk 5) s).calls.queue.map CallInstance.id = [5] ∧
     callDefined s 31 = false ∧ (after (.caln fromDesk 31) s).calls.queue = []) ∧
    (let s := sounding 2 playing (callable.onCalls fun c => { c with queue := [instanceOf 5 callable] })
     callHeld s 5 ∧ roomFor 1 s ∧ (after (.caln fromDesk 5) s).calls.queue.length = 1) ∧
    (callable.calls.queue = [] ∧ callable.calls.player = .idle ∧ eligible callable (newInstance callable 5 .command) ∧
     (callEntry callable 5).any (fun e => e.defn.slot.isSome && decide (1 ≤ e.defn.messageTime)) ∧
     routeStations callable (effectiveAreas callable 5) = [(20, 1)] ∧ quietQueue callable ∧
     (after (.caln fromDesk 5) callable).loop.origin.head? =
       some (queued callable kindCall 20 [1, 5, 3, 0, 1] false)) := by decide +kernel

/-- Meets the hypotheses of QueuedCallsAreCancelledAndLapse. -/
theorem test_queued_calls :
    (let s := lapsed (sounding 2 playing callable)
     playerBusy s ∧ (s.calls.queue.find? fun c => decide (c.id = 31)).isSome ∧
     (after (.calx fromDesk 31) s).calls.queue = [] ∧ (after (.callLapse 31) s).calls.queue = []) ∧
    (after (.rpln fromDesk 2 1) State.reset).calls.selectors.toList = [.a, .a, .b] ∧
    (after (.rpln fromDesk 3 1) State.reset).calls.selectors = State.reset.calls.selectors ∧
    (after (.rpln fromDesk 2 2) State.reset).calls.selectors = State.reset.calls.selectors := by decide +kernel

/-- Meets the hypotheses of PlayerTimerAdvancesCall. -/
theorem test_player_timer :
    (let s := sounding 2 dueTimer State.reset
     dueTimer.expired s.clock ∧ 1 ≤ copyOf7.gap ∧
     (after .playerTimerExpiry s).calls.player =
       .gap { instanceOf 7 s with soundings := 1, repeats := some (.count 1) } copyOf7 { start := 0, length := 10000 }) ∧
    (let s := sounding 1 dueTimer State.reset
     s.calls.queue = [] ∧ roomFor 1 s ∧ (after .playerTimerExpiry s).calls.player = .idle) ∧
    (let s := State.reset.onCalls fun c =>
       { c with player := .gap { instanceOf 7 State.reset with repeats := some (.count 1) } copyOf7 dueTimer }
     copyOf7.slot.isSome ∧ 1 ≤ copyOf7.messageTime ∧
     (after .playerTimerExpiry s).calls.player =
       .sounding { instanceOf 7 s with repeats := some (.count 1) } copyOf7 playing) := by decide +kernel

/-- Two rings in each of two bursts. -/
def twoByTwo (burstGap : Nat) : Latched :=
  { number := 0, pattern := { ring := 40, gap := 20, rings := 2, burstGap := burstGap, bursts := 2 } }

/-- What generator 3 becomes at the expiry of its segment timer. -/
def nextOf (state : GeneratorState) (burstGap r k : Nat) : Option Generator :=
  let g : Generator :=
    { state := state, latched := some (twoByTwo burstGap), r := r, k := k, timer := some dueTimer
      relay := decide (state = .ring) }
  let s := State.reset.onBells fun u => { u with generators := u.generators.setIfInBounds 3 g }
  (after (.segmentTimerExpiry 3) s).bells.generators[3]?

/-- Meets the hypotheses of SegmentTimerPlaysPattern. -/
theorem test_segments :
    (nextOf .ring 5 1 1).any (fun g => decide (g.state = .gap ∧ g.timer = some { start := 0, length := 200 })) ∧
    (nextOf .ring 5 2 1).any (fun g => decide (g.state = .burstGap ∧ g.timer = some { start := 0, length := 500 })) ∧
    (nextOf .ring 0 2 1).any (fun g => decide (g.state = .ring ∧ g.r = 1 ∧ g.k = 2)) ∧
    nextOf .ring 5 2 2 = some Generator.initial ∧
    (nextOf .gap 5 1 1).any (fun g => decide (g.relay = true ∧ g.r = 2)) ∧
    (nextOf .burstGap 5 2 1).any (fun g => decide (g.r = 1 ∧ g.k = 2 ∧ g.timer = some { start := 0, length := 400 })) := by
  decide +kernel

/-- Meets the hypotheses of PatternDurationIsRunTime: the example pattern lasts 2 × (2 × 400 + 200) + 500 ms, of which the
bell rings 1600 ms. -/
theorem test_pattern_duration :
    (twoByTwo 5).pattern.inRange ∧ (twoByTwo 5).pattern.duration = 2500 ∧
    ringTimes State.reset (twoByTwo 5) 256 (ringing (twoByTwo 5) 1 1 State.reset) = (2500, 1600) ∧
    ({ ring := 1, gap := 1, rings := 1, burstGap := 0, bursts := 1 } : Pattern).inRange ∧
    ({ ring := 256, gap := 256, rings := 16, burstGap := 100, bursts := 8 } : Pattern).duration = 704880 := by decide +kernel

/-! ## Command frames -/

/-- Meets the hypotheses of NoticeTimerSendsNotice. -/
theorem test_notice_timer :
    let s := { busyPort with clock := 500 }
    s.command.noticeTimer.expired s.clock ∧ s.numbered ∧ quietQueue s ∧
    (after .noticeTimerExpiry s).loop.origin.map (fun q => q.frame.payload) =
      [[0, 0, 0, 0, 0, 0, 0, 0, 0, 0xFF, 0, 0, 0, 0, 0xFF, 0, 3]] ∧
    (after .noticeTimerExpiry s).command.newMarks = 0 := by decide +kernel

/-- Meets the hypotheses of PayloadsSpellCommands, with payloads written out from the layouts of R221. -/
theorem test_payloads :
    after (.unknownCommand 1 [0x24, 7, 0x1C, 0x20]) (inPhase .held State.reset) =
      after (.stcd fromDesk 7200) (inPhase .held State.reset) ∧
    after (.unknownCommand 1 [0x38, 7, 2, 0x80, 0, 0, 0]) State.reset = after (.hfad fromDesk 2 0x8000 0) State.reset ∧
    after (.unknownCommand 1 [0x25, 7, 4, 1, 0, 0]) (inPhase .houseOpen State.reset) =
      after (.phse fromDesk 4 1 0) (inPhase .houseOpen State.reset) ∧
    commandBytes (.phse fromDesk 4 1 900) = some (fromDesk, 0x25, [4, 1, 3, 0x84]) := by decide +kernel

/-- The result byte of the REPLY that the command offers. -/
def resultOf (c : Instr) (s : State) : Option Byte :=
  (after c s).loop.origin.head?.bind fun q => q.frame.payload[2]?

/-- Meets the hypotheses of RefusedCommandsChangeNothing. -/
theorem test_refusals :
    let other : CommandHeader := { source := 3, sequence := 0 }
    let storing : State := after (.sttb fromDesk) busyPort
    let running : State := inPhase .running busyPort
    commandBytes (.ophs other) = some (other, 0x21, []) ∧ reachesUnit other.source busyPort ∧
    fromController other.source busyPort = false ∧ resultOf (.ophs other) busyPort = some 7 ∧
    (0x50 : Byte).toNat ∉ commandCodes ∧ resultOf (.unknownCommand 1 [0x50, 7]) busyPort = some 10 ∧
    resultOf (.unknownCommand 1 [0x21]) busyPort = some 11 ∧ resultOf (.unknownCommand 1 []) busyPort = some 11 ∧
    accepted { fromDesk with sequence := 0 } busyPort ∧ running.command.store = none ∧
    (entriesOf (fixedLength 3) [0x06, 0, 30]).isSome ∧ resultOf (.ldpf fromDesk [0x06, 0, 30]) running = some 6 ∧
    (entriesOf zoneLength [0, 47, 1, 0, 0, 0xFF]).isSome ∧
    resultOf (.ldzn fromDesk [0, 47, 1, 0, 0, 0xFF]) running = some 6 ∧
    (entriesOf (fixedLength 9) [0, 0, 1, 2, 0, 0, 0, 0, 0]).isSome ∧
    resultOf (.ldpo fromDesk [0, 0, 1, 2, 0, 0, 0, 0, 0]) running = some 6 ∧
    resultOf (.cltb fromDesk 6) running = some 6 ∧ accepted fromDesk storing ∧ storing.command.store.isSome ∧
    resultOf (.ldpf fromDesk [0x06, 0, 30]) storing = some 8 ∧ resultOf (.sttb fromDesk) storing = some 8 ∧
    (entriesOf cueLength [0, 0, 100, 1, 4, 5, 0, 0, 0, 0]).isSome ∧
    resultOf (.ldcu fromDesk [0, 0, 100, 1, 4, 5, 0, 0, 0, 0]) storing = some 8 ∧
    (entriesOf (fixedLength 15) (List.replicate 15 0)).isSome ∧ (entriesOf (fixedLength 8) (List.replicate 8 0)).isSome ∧
    resultOf (.rstr fromDesk) storing = some 8 := by decide +kernel

/-- Meets the hypotheses of ReadsAnswerAndChangeNothing. -/
theorem test_reads :
    resultOf (.rdst fromDesk 4) busyPort = some 0 ∧ resultOf (.rdst fromDesk 5) busyPort = some 4 ∧
    resultOf (.rdst fromDesk 0) busyPort = some 0 ∧ resultOf (.rdst fromDesk 1) busyPort = some 0 ∧
    resultOf (.rdst fromDesk 2) busyPort = some 0 ∧ resultOf (.rdst fromDesk 3) busyPort = some 0 ∧
    resultOf (.rdzn fromDesk 0 49) busyPort = some 4 ∧ resultOf (.rdzn fromDesk 1 15) busyPort = some 0 ∧
    resultOf (.rdzn fromDesk 1 16) busyPort = some 4 ∧ resultOf (.rdzn fromDesk 2 0) busyPort = some 4 ∧
    resultOf (.rdqu fromDesk) busyPort = some 0 ∧ resultOf (.rdrp fromDesk 127) busyPort = some 0 ∧
    resultOf (.rdrp fromDesk 128) busyPort = some 4 ∧ resultOf (.rdtb fromDesk 6 0) busyPort = some 0 ∧
    resultOf (.rdtb fromDesk 7 0) busyPort = some 4 ∧
    (let s := busyPort.onPhase fun p => { p with report := [{ time := 1, kind := .mark, data := [0, 0, 1, 9] }] }
     ((after (.rdrp fromDesk 0) s).loop.origin.head?.map fun q => q.frame.payload.drop 7) =
       some [0, 0, 0, 1, 10, 4, 0, 0, 1, 9]) := by decide +kernel

/-- Meets the hypotheses of AckaClearsReportedFlags. -/
theorem test_acknowledge :
    let s := busyPort.onCommand fun c => { c with attention := 0x8003, newMarks := 0x0002 }
    accepted fromDesk s ∧ (after (.acka fromDesk 0x0003) s).command.attention = 0x8002 ∧
    (after (.acka fromDesk 0x0003) s).command.newMarks = 0 := by decide +kernel

/-! ## Tables -/

/-- Entries at the ends of their ranges. -/
def topChannel : PolicyDef :=
  { segment := 3, channel := 511, role := .house, group := 7, merge := 2, floor := 255, window := 15, alarm := 255 }

/-- The last zone, and a window over every zone. -/
def topZone : ZoneDef := { side := .front, verification := 600, partner := some 46 }

/-- The longest window. -/
def topWindow : WindowDef := { duration := 600, zones := BitVec.allOnes 48 }

/-- A cue of four actions. -/
def topCue : CueEntry :=
  { list := 3, cue := 9999
    actions := [.phase .running 1, .hfade 7 65535 36000, .wopen 15, .mark 255] }

/-- A call on the interval countdown. -/
def topCall : CallDef :=
  { areas := 0xFFF, pattern := some 7, slot := some 15, messageTime := 60, priority := 2, gate := 0xFF, repeats := 4
    gap := 60, lifetime := 3600, anchor := some .intervalEnd, offset := 3600 }

/-- The longest bell pattern. -/
def topPattern : Pattern := { ring := 256, gap := 256, rings := 16, burstGap := 100, bursts := 8 }

/-- A call area on both plans. -/
def topArea : AreaDef :=
  { areaClass := .staff, inAuditorium := true, group := 2, stationA := 126, bellA := some 3, stationB := 126, bellB := none }

/-- Meets the hypotheses of TableEntriesRoundTrip. -/
theorem test_entries_round_trip :
    topChannel.inRange ∧ readPolicy topChannel.bytes = some (.set topChannel) ∧ topCue.inRange ∧
    readCue topCue.bytes = some (.set topCue) ∧ topZone.inRange 47 ∧ readZone (topZone.bytes 47) = some (.setZone 47 topZone) ∧
    topWindow.inRange ∧ readZone (topWindow.bytes 15) = some (.setWindow 15 topWindow) ∧ topCall.inRange ∧
    readCall (topCall.bytes 31) = some (.set 31 topCall) ∧ topPattern.inRange ∧
    readPattern (topPattern.bytes 7) = some (.set 7 topPattern) ∧ topArea.inRange ∧
    readArea (topArea.bytes 11) = some (.set 11 topArea) := by decide +kernel

/-- Entries written out from the layouts of R221. -/
theorem test_entries_written_out :
    readZone [0, 47, 1, 0x02, 0x58, 46] = some (.setZone 47 { side := .stage, verification := 600, partner := some 46 }) ∧
    readPattern [3, 0, 40, 0, 20, 2, 5, 2] = some (.set 3 { ring := 40, gap := 20, rings := 2, burstGap := 5, bursts := 2 }) ∧
    readPolicy [0, 1, 4, 2, 0, 0, 60, 0, 200] =
      some (.set
        { segment := 0, channel := 260, role := .aisle, group := 0, merge := 0, floor := 60, window := 0, alarm := 200 }) ∧
    readCue [2, 0, 105, 1, 1, 3, 0x80, 0, 0, 50] =
      some (.set { list := 2, cue := 105, actions := [.hfade 3 0x8000 50] }) := by decide +kernel

/-- Meets the hypotheses of PatternAreaAndCallLoadsDefine. -/
theorem test_call_tables_load :
    (let s := sounding 2 playing busyPort
     accepted fromDesk s ∧ s.command.store = none ∧ playerBusy s ∧ roomFor 1 s ∧
     (after (.ldpt fromDesk (topPattern.bytes 7)) s).bells.patterns[7]? = some (some topPattern) ∧
     (after (.ldrt fromDesk (topArea.bytes 11)) s).calls.areas[11]? = some (some topArea) ∧
     callEntry (after (.ldcl fromDesk (topCall.bytes 31)) s) 31 = some { defn := topCall, fired := false }) ∧
    (let fired := (withCall (some .intervalEnd) 3600 State.reset).onCalls fun c =>
       { c with defs := mapTable (Option.map fun e => { e with fired := true }) c.defs }
     (callEntry (after (.ldcl fromDesk (topCall.bytes 5)) fired) 5).any CallEntry.fired) := by decide +kernel

/-- Meets the hypotheses of PolicyCueAndZoneLoadsDefine. -/
theorem test_show_tables_load :
    accepted fromDesk busyPort ∧ busyPort.phase.phase = .closed ∧ findPolicy busyPort 3 511 = none ∧
    findPolicy (after (.ldpo fromDesk topChannel.bytes) busyPort) 3 511 = some (PolicyEntry.initial topChannel) ∧
    findCue busyPort 3 9999 = none ∧ findCue (after (.ldcu fromDesk topCue.bytes) busyPort) 3 9999 = some topCue ∧
    zoneAt busyPort 47 = none ∧ recordDerived busyPort ∧ windowsClosedInAlarm busyPort ∧ roomFor 1 busyPort ∧
    zoneIs (after (.ldzn fromDesk (topZone.bytes 47)) busyPort) 47 .normal ∧ windowOpen busyPort 15 = false ∧
    ((after (.ldzn fromDesk (topWindow.bytes 15)) busyPort).zones.windows[15]?).any
      (fun w => decide (w.defn = some topWindow)) := by decide +kernel

/-- Meets the hypotheses of ProfileLoadsAndTableClears. -/
theorem test_profile_and_clear :
    0x4F ∈ profileCodes ∧ (busyPort.command.profile.load 0x4F 255).any (fun l => !l.clamped) ∧
    (busyPort.command.profile.load 0x41 0) = none ∧ (busyPort.command.profile.load 0x4D 31).any ProfileLoad.clamped ∧
    (after (.ldpf fromDesk [0x4F, 0, 255]) busyPort).command.profile.read 0x4F = 255 ∧
    resultOf (.ldpf fromDesk [0x4D, 0, 31]) busyPort = some 1 ∧ resultOf (.cltb fromDesk 7) busyPort = some 4 ∧
    (let s := inPhase .closed (confirmed .alarm)
     zonesClearable s = false ∧ zoneIs (after (.cltb fromDesk 2) s) 47 .confirmed) ∧
    (let s := inPhase .closed (withZone (zoneOf .house .normal .clear))
     zonesClearable s ∧ zoneAt (after (.cltb fromDesk 2) s) 47 = none) ∧
    (after (.cltb fromDesk 6) (iron .stored)).command.profile = Profile.default := by decide +kernel

/-! ## The performance record -/

/-- Meets the hypotheses of PerformanceBeginsAndHouseOpens. -/
theorem test_performance_begins :
    accepted fromDesk State.reset ∧ State.reset.lights.k4 = false ∧
    (after (.bgpf fromDesk 9999 7200) State.reset).phase.phase = .preshow ∧
    (after (.bgpf fromDesk 9999 7200) State.reset).phase.curtainUp = 7200 ∧
    (after (.bgpf fromDesk 10000 0) State.reset).phase.phase = .closed ∧
    (after (.bgpf fromDesk 1 7201) State.reset).phase.phase = .closed ∧
    (after (.bgpf fromDesk 0 0) State.reset).phase.phase = .closed ∧
    (after (.bgpf fromDesk 1 0) (inPhase .egress State.reset)).phase.phase = .egress ∧
    relaysFollow (inPhase .preshow State.reset) ∧ roomFor 2 (inPhase .preshow State.reset) ∧
    (after (.ophs fromDesk) (inPhase .preshow State.reset)).phase.phase = .houseOpen ∧
    (after (.ophs fromDesk) (inPhase .held State.reset)).phase.phase = .held := by decide +kernel

/-- HELD, from HOUSE_OPEN, with a second pending. -/
def heldHouse : State :=
  State.reset.onPhase fun p =>
    { p with phase := .held, heldFrom := some .houseOpen, holdPending := true, curtainUp := 60 }

/-- Meets the hypotheses of HouseIsHeldAndReleased. -/
theorem test_holds :
    (after (.hold fromDesk) (inPhase .preshow State.reset)).phase.heldFrom = some .preshow ∧
    (after (.hold fromDesk) (inPhase .running State.reset)).phase.phase = .running ∧
    relaysFollow heldHouse ∧ roomFor 1 heldHouse ∧ (after (.rlhd fromDesk) heldHouse).phase.phase = .houseOpen ∧
    (after (.rlhd fromDesk) heldHouse).phase.curtainUp = 59 ∧
    (after (.rlhd fromDesk) (inPhase .preshow State.reset)).phase.phase = .preshow := by decide +kernel

/-- Meets the hypotheses of SetCountdownFollowsItsTable. -/
theorem test_countdown_set :
    (after (.stcd fromDesk 7200) (inPhase .preshow State.reset)).phase.curtainUp = 7200 ∧
    (after (.stcd fromDesk 7201) (inPhase .preshow State.reset)).phase.curtainUp = 0 ∧
    (after (.stcd fromDesk 30) heldHouse).phase.holdPending = false ∧
    (after (.stcd fromDesk 3600) (inPhase .interval State.reset)).phase.intervalLeft = 3600 ∧
    (after (.stcd fromDesk 3601) (inPhase .interval State.reset)).phase.intervalLeft = 3600 ∧
    resultOf (.stcd fromDesk 3601) (inPhase .interval busyPort) = some 1 ∧
    resultOf (.stcd fromDesk 30) (inPhase .running busyPort) = some 3 ∧
    (run [.stcd fromDesk 1, .prescalerWrap] (withCall (some .curtainUp) 0 (wrapping .preshow 60 0))).any (fun t =>
      decide (t.phase.curtainUp = 0) && (callEntry t 5).any CallEntry.fired) ∧
    (run [.prescalerWrap, .stcd fromDesk 1] (wrapping .houseOpen 60 0)).any (fun t => decide (t.phase.curtainUp = 1)) ∧
    (run [.stcd fromDesk 3600, .prescalerWrap] (wrapping .interval 0 60)).any
      (fun t => decide (t.phase.intervalLeft = 3599)) ∧
    (run [.stcd fromDesk 9, .prescalerWrap] (wrapping .held 60 0)).any (fun t => t.phase.holdPending) := by decide +kernel

/-- A phase and an act. -/
def inAct (p : Phase) (act : Nat) : State := State.reset.onPhase fun r => { r with phase := p, act := act }

/-- Meets the hypotheses of PhaseRequestsFollowTheTable. -/
theorem test_phase_requests :
    (after (.phse fromDesk 3 0 0) (inAct .houseOpen 0)).phase.phase = .houseOpen ∧
    (after (.phse fromDesk 4 6 0) (inAct .houseOpen 0)).phase.phase = .houseOpen ∧
    (after (.phse fromDesk 2 0 0) (inAct .preshow 0)).phase.phase = .houseOpen ∧
    (after (.phse fromDesk 2 5 0) (inAct .running 1)).phase.phase = .running ∧
    relaysFollow (inAct .houseOpen 0) ∧ roomFor 3 (inAct .houseOpen 0) ∧
    (after (.phse fromDesk 4 1 0) (inAct .houseOpen 0)).phase.demoStatus = .missed ∧
    (after (.phse fromDesk 4 0 0) heldHouse).phase.act = 1 ∧
    (after (.phse fromDesk 5 1 3600) (inAct .running 1)).phase.intervalLeft = 3600 ∧
    (after (.phse fromDesk 4 5 0) (inAct .interval 4)).phase.act = 5 ∧
    (after (.phse fromDesk 4 5 0) (inAct .interval 5)).phase.phase = .interval ∧
    (after (.phse fromDesk 6 5 0) (inAct .running 5)).phase.phase = .egress := by decide +kernel

/-- EVACUATING from RUNNING, with the override active. -/
def evacuated : State :=
  (State.reset.onPhase fun p => { p with phase := .evacuating, saved := some .running, act := 1 }).onLights fun l =>
    { l with k4 := true }

/-- Meets the hypotheses of ShowStopAndEvacuationReturn. -/
theorem test_show_stop :
    (after (.shst fromDesk) (inAct .running 1)).phase.showStop ∧ roomFor 1 (inAct .running 1) ∧
    (after (.shst fromDesk) State.reset).phase.showStop = false ∧
    (after (.shst fromDesk) overridden).phase = overridden.phase ∧
    (after (.shrs fromDesk) overridden).phase.showStop = false ∧
    (after (.shrs fromDesk) (inAct .running 1)).phase = (inAct .running 1).phase ∧ phasesKept evacuated.phase ∧
    evacuated.zones.alarm.confirmed = [] ∧ (after (.evrs fromDesk) evacuated).phase.phase = .running ∧
    (after (.evrs fromDesk) evacuated).lights.k4 = false ∧
    (after (.evrs fromDesk) (inAct .running 1)).phase.phase = .running := by decide +kernel

/-- Meets the hypotheses of EndPerformanceCloses. -/
theorem test_performance_ends :
    (after (.enpf fromDesk) heldHouse).phase.phase = .closed ∧ (after (.enpf fromDesk) heldHouse).phase.curtainUp = 0 ∧
    (after (.enpf fromDesk) evacuated).phase.phase = .closed ∧
    (let s := (confirmed .alarm).onPhase fun p => { p with phase := .evacuating, saved := some .running }
     s.zones.alarm.confirmed ≠ [] ∧ (after (.enpf fromDesk) s).phase.phase = .evacuating) ∧
    resultOf (.enpf fromDesk) busyPort = some 3 := by decide +kernel

/-! ## Frames that pass through the part -/

/-- A frame of another node to all nodes. -/
def frameOf (source : Byte) (kind : Byte) (payload : List Byte) : Frame :=
  { dest := 127, source := source, kind := kind, payload := payload }

/-- The frame passes through the part at its last character. -/
def passesAt (f : Frame) (s : State) : Bool := passingFrame f (lastCharacter f) (beforeLast f s)

/-- What the last character of the frame leads to. -/
def passed (f : Frame) (s : State) : State := after (.frameCompletion (lastCharacter f)) (beforeLast f s)

/-- Meets the hypotheses of CompletedFrameIsDisposed on forwarding to a FREE port. -/
theorem test_forwarding :
    passesAt otherNotice State.reset ∧ State.reset.loop.sending = none ∧
    State.reset.loop.outDivisor = max 5 State.reset.command.profile.divisor ∧
    (passed otherNotice State.reset).loop.sending.map Sending.frame = some otherNotice ∧
    (passed otherNotice State.reset).loop.forwardRun = 1 ∧
    (let level := frameOf 5 kindLevel [0x10, 1, 255, 77]
     (passed level governed).loop.sending.map Sending.frame = some { level with payload := [0x10, 1, 255, 0] }) := by
  decide +kernel

/-- The last console level of a channel of segment 0 after a LEVEL frame. -/
def trackedAt (channel : Nat) (payload : List Byte) : Option Byte :=
  (findPolicy (passed (frameOf 5 kindLevel payload) governed) 0 channel).map PolicyEntry.lastLevel

/-- Meets the hypotheses of GovernedLevelsAreRewritten on tracking: both forms, the last of two pairs for one channel, and
rejected payloads. -/
theorem test_levels_tracked :
    passesAt (frameOf 5 kindLevel [0x00, 0, 1, 70, 71]) governed ∧
    [0, 1, 2, 511].map (fun n => trackedAt n [0x00, 0, 1, 70, 71]) = [some 90, some 70, some 71, some 90] ∧
    trackedAt 511 [0x10, 1, 255, 5, 1, 255, 6] = some 6 ∧ trackedAt 0 [0x01, 0, 0, 9] = some 90 ∧
    (findPolicy (passed (frameOf 5 kindLevel [0x00, 1, 255, 7]) { governed with clock := 40 }) 0 511).any
      (fun e => decide (e.lastConsole = some 40 ∧ e.silence = some { start := 40, length := 1000 })) ∧
    [[], [0x20, 0, 0, 5], [0x04, 0, 0, 5], [0x00, 0, 0], [0x10, 0, 0], [0x10, 0, 0, 5, 0]].all
      (fun payload => decide (trackedAt 0 payload = some 90)) := by decide +kernel

/-- The cue table holds the cue 999.9 of list 3 with these actions. -/
def withCue (actions : List CueAction) (s : State) : State :=
  { s with cues := { s.cues with table := [{ list := 3, cue := 9999, actions := actions }] } }

/-- A GO of that cue. -/
def goFrame : Frame := frameOf 5 kindCue [3, 0x27, 0x0F, 1]

/-- The data of the report's entries after that GO. -/
def goReport (actions : List CueAction) (s : State) : List (List Byte) :=
  (passed goFrame (withCue actions s)).phase.report.map ReportEntry.data

/-- Meets the hypotheses of CompletedFrameIsDisposed on cues: no match, marks, phases and refusals. -/
theorem test_cues :
    passesAt goFrame (withCue [] busyPort) ∧ findCue (withCue [] busyPort) 3 9999 ≠ none ∧ findCue busyPort 3 9999 = none ∧
    (passed goFrame busyPort).cues = busyPort.cues ∧
    (let other := frameOf 5 kindCue [3, 0x27, 0x0F, 2]
     (passed other (withCue [.mark 9] busyPort)).phase.report = []) ∧
    (passed (frameOf 5 kindCue [3, 0x27, 0x0F]) (withCue [.mark 9] busyPort)).phase.report = [] ∧
    goReport [.mark 9, .mark 8] busyPort = [[9, 3, 0x27, 0x0F], [8, 3, 0x27, 0x0F]] ∧
    goReport [.mark 9, .call 5, .phase .running 1] busyPort =
      [[9, 3, 0x27, 0x0F], [3, 0x27, 0x0F, 2, 4, 3], [3, 0x27, 0x0F, 3, 0, 3]] ∧
    goReport [.phase .held 0] (inPhase .running busyPort) = [[3, 0x27, 0x0F, 1, 0, 4]] ∧
    goReport [.phase .houseOpen 0] (inPhase .running busyPort) = [[3, 0x27, 0x0F, 1, 0, 3]] ∧
    goReport [.phase .egress 0] (inPhase .preshow busyPort) = [[3, 0x27, 0x0F, 1, 0, 3]] ∧
    (passed goFrame (withCue [.phase .interval 0] (inPhase .running busyPort))).phase.intervalLeft = 900 ∧
    goReport [.phase .interval 0] (inPhase .running busyPort) = [[5, 4, 0, 1, 0]] := by decide +kernel

/-- Meets the hypotheses of CompletedFrameIsDisposed on cues, the actions on groups, windows, calls and the demonstration. -/
theorem test_cue_actions :
    groupIs 7 (fun g => decide (g.level = 65535)) (passed goFrame (withCue [.hfade 7 65535 0] busyPort)) ∧
    goReport [.hfade 1 65535 0] (inPhase .preshow quietConsole) = [[3, 0x27, 0x0F, 1, 1, 3]] ∧
    (let s := withWindow false (withZone (zoneOf .stage .normal .clear))
     goReport [.wopen 15] s = [[79, 9, 8, 7]] ∧ windowOpen (passed goFrame (withCue [.wopen 15] s)) 15 ∧
     goReport [.wclose 15] s = []) ∧
    goReport [.wopen 14] (inPhase .running busyPort) = [[3, 0x27, 0x0F, 1, 2, 3]] ∧
    goReport [.wclose 15] (withWindow true (withZone (zoneOf .stage .normal .clear))) = [[79, 8, 9, 7]] ∧
    (let s := inPhase .running (sounding 2 playing callable)
     (passed goFrame (withCue [.call 5] s)).calls.queue.map (fun c => (c.id, c.source.code)) = [(5, 1)] ∧
     (passed goFrame (withCue [.call 31] s)).phase.report.map ReportEntry.kind = [.call, .cueRefused] ∧
     ((goReport [.call 31] s).drop 1) = [[3, 0x27, 0x0F, 1, 4, 3]]) ∧
    goReport [.demo] (inPhase .running (iron .stored)) = [[3, 0x27, 0x0F, 1, 5, 3]] ∧
    (let s := inPhase .houseOpen (iron .stored)
     (passed goFrame (withCue [.demo, .demo] s)).curtain.state = .lowering ∧
     (goReport [.demo, .demo] s).contains [3, 0x27, 0x0F, 2, 5, 3]) := by decide +kernel

/-- Zone 47 after a report of this condition. -/
def reported (code : Byte) (s : State) : State := passed (frameOf 5 kindZone [47, code]) s

/-- Zones 46 and 47 linked, in these states, zone 47 in window 15. -/
def linkedPair (a b : ZoneState) : State :=
  let s := withZone { zoneOf .house b .clear with defn := { side := .house, verification := 600, partner := some 46 } }
  let s := setZone 46 (some (zoneOf .house a .alarm)) s
  s.onZones fun m => { m with alarm := derivedAlarm s }

/-- Meets the hypotheses of ZoneTimersConfirmAndFault on ZONE frames. -/
theorem test_zone_frames :
    let normal := withZone (zoneOf .house .normal .clear)
    let now (s : State) : State := { s with clock := 50 }
    passesAt (frameOf 5 kindZone [47, 2]) normal ∧ recordDerived normal ∧ windowsClosedInAlarm normal ∧
    zoneTimersRun normal ∧ linked normal 47 46 = false ∧
    (zoneAt (reported 2 (now normal)) 47).any (fun z => decide
      (z.state = .verifying ∧ z.last = .alarm ∧ z.lastReport = 50 ∧ z.verifyTimer = some { start := 50, length := 60000 } ∧
        z.staleTimer = some { start := 50, length := 5000 })) ∧
    zoneIs (reported 1 normal) 47 .prealarm ∧ zoneIs (reported 3 normal) 47 .faultReported ∧
    isRaised .zoneFault (reported 255 normal) ∧ zoneIs (reported 0 (withZone (zoneOf .house .verifying .alarm))) 47 .normal ∧
    zoneIs (reported 0 (withZone (zoneOf .house .isolated .alarm))) 47 .isolated ∧
    zoneIs (reported 0 (confirmed .alarm)) 47 .confirmed ∧ isRaised .zoneFault (reported 3 (confirmed .alarm)) ∧
    isRaised .zoneFault (reported 3 (confirmed .fault)) = false ∧
    zoneIs (reported 2 (withWindow true normal)) 47 .masked ∧
    (let instant := withZone { zoneOf .house .normal .clear with
       defn := { side := .house, verification := 0, partner := none } }
     zoneIs (reported 2 instant) 47 .confirmed ∧ (reported 2 instant).phase.phase = .evacuating) ∧
    isRaised .unknownZone (passed (frameOf 5 kindZone [46, 2]) normal) ∧
    [[], [47], [47, 2, 47], List.replicate 50 47].all
      (fun payload => decide ((passed (frameOf 5 kindZone payload) normal).zones = normal.zones)) ∧
    zoneIs (passed (frameOf 5 kindZone [47, 2, 47, 0]) normal) 47 .normal ∧
    (passed (frameOf 5 kindZone [47, 2, 47, 0]) normal).phase.report.length = 5 := by decide +kernel

/-- Meets the hypotheses of ZoneTimersConfirmAndFault on coincidences, both ways. -/
theorem test_coincidences :
    (let s := withWindow true (linkedPair .verifying .normal)
     passesAt (frameOf 5 kindZone [47, 2]) s ∧ recordDerived s ∧ windowsClosedInAlarm s ∧ linked s 47 46 ∧
     ((reported 2 s).phase.report.take 2).map ReportEntry.data = [[47, 3, 0, 0], [47, 4, 3, 2]]) ∧
    (let s := setWindow 14 { defn := some { duration := 600, zones := BitVec.twoPow 48 46 }, isOpen := true, timer := some dueTimer }
       (linkedPair .masked .normal)
     passesAt (frameOf 5 kindZone [47, 2]) s ∧ recordDerived s ∧ windowsClosedInAlarm s ∧
     ((reported 2 s).phase.report.take 2).map ReportEntry.data = [[47, 2, 0, 0], [46, 4, 3, 2]]) := by decide +kernel

/-! ## Positions and the curtain's other forms -/

/-- A POS frame of the drive node. -/
def posFrame (value : Nat) (flags : Byte) : Frame := frameOf 126 kindPos (bytes2 value ++ [flags])

/-- The curtain after that POS. -/
def positioned (value : Nat) (flags : Byte) (s : State) : Curtain := (passed (posFrame value flags) s).curtain

/-- Meets the hypotheses of StalePositionReleasesIron on POS: not acted on, recorded, drive fault, local control. -/
theorem test_positions :
    passesAt (posFrame 9 0) (iron .stored) ∧ (iron .stored).command.profile.driveNode = 126 ∧
    (passed (frameOf 125 kindPos [0, 9, 0]) (iron .stored)).curtain = (iron .stored).curtain ∧
    (passed (frameOf 126 kindPos [0, 9]) (iron .stored)).curtain = (iron .stored).curtain ∧
    positioned 0x1234 3 (iron .stored) =
      { (iron .stored).curtain with
        position := 0x1234, reportTime := some 0
        flags := { movingDown := true, movingUp := true, driveFault := false, localControl := false } } ∧
    (positioned 9 0 (iron .raising)).staleTimer = some { start := 0, length := 250 } ∧
    (positioned 9 4 (iron .stopped)).cause = some .driveFault ∧ (positioned 9 4 (iron .deadTime)).state = .fault ∧
    (positioned 9 4 (iron .atFloor)).state = .atFloor ∧
    (let alarmed := (iron .stopped).onCurtain fun c => { c with stageAlarm := true }
     (positioned 9 4 alarmed).state = .released ∧ (positioned 9 8 alarmed).state = .released) ∧
    (positioned 9 9 (iron .stopped)).state = .lowering ∧ (positioned 9 10 (iron .raising)).state = .raising ∧
    (positioned 9 10 (iron .atFloor)).state = .raising ∧ (positioned 9 9 (localDrive (iron .stopped))).mode = .normal ∧
    (let d := (iron .lowering).onPhase fun p => { p with demoStatus := .lowering }
     (passed (posFrame 9 10) d).phase.demoStatus = .failed .fault) := by decide +kernel

/-- The lines C1 and C2 read so. -/
def limits (c1 c2 : Reading) (s : State) : State := withReading 1 c1 (withReading 2 c2 s)

/-- Meets the hypotheses of StalePositionReleasesIron on the derivation and the floor check, at the tolerances. -/
theorem test_derivations :
    (positioned 0 0 (limits .fault .fault (iron .unknown))).cause = some .inLine ∧
    (positioned 0 0 (limits .normal .fault (iron .unknown))).cause = some .outLine ∧
    (positioned 0 0 (limits .active .active (iron .unknown))).cause = some .limitConflict ∧
    (positioned 32 0 (limits .active .normal (iron .unknown))).state = .atFloor ∧
    (positioned 33 0 (limits .active .normal (iron .unknown))).cause = some .positionDisagree ∧
    (positioned 9968 0 (limits .normal .active (iron .unknown))).state = .stored ∧
    (positioned 9967 0 (limits .normal .active (iron .unknown))).cause = some .positionDisagree ∧
    (positioned 500 0 (limits .normal .normal (iron .unknown))).state = .stopped ∧
    (let rederiving (state : CurtainState) := (iron state).onCurtain fun c => { c with rederive := true }
     (positioned 0 0 (limits .fault .normal (rederiving .deadTime))).cause = some .inLine ∧
     (positioned 500 0 (limits .normal .normal (rederiving .fault))).state = .stopped ∧
     (positioned 500 0 (limits .normal .normal (rederiving .stored))).rederive = false) ∧
    (let checking := (withReading 1 .active (iron .atFloor)).onCurtain fun c => { c with floorCheck := true }
     (positioned 96 0 checking).state = .atFloor ∧ (positioned 96 0 checking).floorCheck = false ∧
     (positioned 97 0 checking).cause = some .positionDisagree ∧
     (let demo := checking.onPhase fun p => { p with demoStatus := .dwell }
      (passed (posFrame 97 0) demo).phase.demoStatus = .failed .fault)) := by decide +kernel

/-- A descent from reading 0 at 400 counts/s in a mode, with a late count. -/
def descent (clock : Time) (mode : Mode) (late : Nat) : State :=
  { ((iron .lowering).onCurtain fun c =>
      { c with
        mode := mode, descentStart := some 0
        estimator :=
          { Estimator.initial with
            running := true, refPosition := some 5080, refTime := some (clock - 200), speed := 6400, late := late } }) with
    clock := clock }

/-- The demonstration's descent, watching group 0 or none. -/
def watched (groups : BitVec 8) (s : State) : State :=
  (s.onPhase fun p => { p with demoStatus := .lowering }).onCommand fun c =>
    { c with profile := { c.profile with demoGroups := groups } }

/-- Meets the hypotheses of FloorArrivalMeasuresDescent on POS: 80 counts in 200 ms leave the speed at 6400 and predict
12500 ms from 5000, which is late when more than 17500 ms have passed. -/
theorem test_descents :
    (positioned 5000 0 (descent 17500 .normal 2)).estimator.predicted = 12500 ∧
    (positioned 5000 0 (descent 17500 .normal 2)).estimator.speed = 6400 ∧
    (positioned 5000 0 (descent 17500 .normal 2)).estimator.late = 0 ∧
    (positioned 5000 0 (descent 1999 .normal 2)).estimator.late = 2 ∧
    (positioned 5000 0 (descent 17501 .normal 1)).estimator.lateAction = false ∧
    (let t := passed (posFrame 5000 0) (descent 17501 .normal 2)
     t.curtain.estimator.lateAction ∧ t.curtain.state = .lowering ∧ isRaised .curtainFault t ∧
     t.phase.report.map ReportEntry.data = [[4, 3, 3, 0, 0x13, 0x88]]) ∧
    (let t := passed (posFrame 5000 0) (watched 0 (descent 17501 .demo 2))
     t.curtain.sequence.slow ∧ isRaised .curtainFault t = false ∧ t.curtain.sequence.posSeen ∧
     t.curtain.sequence.houseDark = false) ∧
    demonstrationFigure (watched 1 (descent 17500 .demo 0)) 0 < (descent 17500 .demo 0).command.profile.houseMinimum ∧
    (positioned 5000 0 (watched 1 (descent 17500 .demo 0))).sequence.houseDark ∧
    (positioned 5000 0 (watched 1 (descent 17500 .demo 0))).sequence.first = some .houseDark ∧
    (let s := passed (posFrame 5000 0) (descent 17501 .emergency 2)
     s.curtain.state = .released ∧ s.curtain.k5 ∧ isRaised .curtainFault s) ∧
    (positioned 0 0 (descent 17500 .normal 0)).estimator.predicted = 0 := by decide +kernel

/-- A dead time in a mode with a pending direction. -/
def waitingIn (mode : Mode) (pending : Pending) : State :=
  (keyed .deadTime).onCurtain fun c => { c with mode := mode, pending := some pending, deadTimer := some playing }

/-- Meets the hypotheses of CurtainLowersAndRaises and CurtainStopsAndClears in DEAD_TIME, in every mode. -/
theorem test_dead_time_requests :
    (after (.clwr fromDesk) (waitingIn .normal .raise)).curtain.pending = some .lower ∧
    (after (.crse fromDesk) (waitingIn .normal .none)).curtain.pending = some .raise ∧
    (after (.cstp fromDesk) (waitingIn .normal .lower)).curtain.pending = some .none ∧
    (let t := after (.crse fromDesk) (waitingIn .demo .lower)
     t.curtain.mode = .normal ∧ t.curtain.pending = some .raise ∧ t.curtain.deadTimer = some playing ∧
     t.phase.report.map ReportEntry.data = [[0, 6, 6, 0, 0, 0]]) ∧
    (after (.clwr fromDesk) (waitingIn .demo .raise)).curtain.mode = .normal ∧
    (after (.cstp fromDesk) (waitingIn .demo .lower)).curtain.mode = .normal ∧
    (after (.clwr fromDesk) (waitingIn .emergency .lower)).curtain.mode = .emergency ∧
    resultOf (.clwr fromDesk) (waitingIn .emergency .lower) = some 0 ∧
    resultOf (.crse fromDesk) (waitingIn .emergency .lower) = some 3 ∧
    resultOf (.cstp fromDesk) (waitingIn .emergency .lower) = some 3 ∧
    (let closed (s : State) : State := withReading 3 .active s
     resultOf (.clwr fromDesk) (closed (waitingIn .normal .raise)) = some 3 ∧
     resultOf (.clwr fromDesk) (closed (iron .raising)) = some 3) ∧
    resultOf (.crse fromDesk) (iron .deadTime) = some 3 := by decide +kernel

/-- Meets the hypotheses of CurtainLowersAndRaises and CurtainStopsAndClears in a demonstration, in local control and in the
states that refuse. -/
theorem test_curtain_forms :
    (let raising := (keyed .raising).onPhase fun p => { p with demoStatus := .raising }
     (after (.clwr fromDesk) raising).phase.demoStatus = .failed .stopped ∧
     isRaised .demoResult (after (.clwr fromDesk) raising) ∧
     (after (.cstp fromDesk) raising).phase.demoStatus = .failed .stopped) ∧
    (let lowering := (keyed .lowering).onPhase fun p => { p with demoStatus := .lowering }
     (after (.crse fromDesk) lowering).curtain.state = .deadTime ∧
     (after (.crse fromDesk) lowering).phase.demoStatus = .failed .stopped) ∧
    (let dwell := (keyed .atFloor).onPhase fun p => { p with demoStatus := .dwell }
     (after (.crse fromDesk) dwell).phase.demoStatus = .raising) ∧
    [.unknown, .released, .fault].all (fun x => decide (resultOf (.cstp fromDesk) (iron x) = some 3)) ∧
    [.atFloor, .stored, .stopped].all (fun x => decide (resultOf (.cstp fromDesk) (iron x) = some 0)) ∧
    [.unknown, .fault].all (fun x => decide (resultOf (.clwr fromDesk) (keyed x) = some 3)) ∧
    [.fault, .unknown, .released, .stored, .raising].all (fun x => decide (resultOf (.crse fromDesk) (keyed x) = some 3)) ∧
    resultOf (.cstp fromDesk) (localDrive (iron .raising)) = some 9 ∧
    resultOf (.cclr fromDesk) (localDrive (iron .fault)) = some 9 ∧
    resultOf (.crse fromDesk) (localDrive (keyed .atFloor)) = some 9 := by decide +kernel

/-! ## The other widened clauses -/

/-- A part with runtime state in every block. -/
def usedPart : State :=
  let s := withWindow false { (withZone (zoneOf .front .normal .prealarm)) with clock := 700 }
  let s := s.onLights fun l => { l with policy := governed.lights.policy }
  let s := s.onCalls fun c =>
    { c with
      defs := c.defs.setIfInBounds 5 (some { defn := (callEntry (withCall none 0 s) 5).elim topCall CallEntry.defn, fired := true })
      selectors := #v[.b, .b, .b] }
  (inPhase .closed s).onZones fun m => { m with panel := { state := .prealarm, last := .prealarm } }

/-- RestartKeepsTables and PowerCycleKeepsOnlyTheStore on the runtime fields of the tables. -/
theorem test_restart_fields :
    (after (.rstr fromDesk) usedPart).lights.policy = governed.lights.policy.map (fun e => PolicyEntry.initial e.defn) ∧
    (zoneAt (after (.rstr fromDesk) usedPart) 47).any (fun z => decide
      (z.last = .clear ∧ z.lastReport = 700 ∧ z.staleTimer = some { start := 700, length := 5000 })) ∧
    (after (.rstr fromDesk) usedPart).zones.panel = Panel.initial ∧
    (callEntry (after (.rstr fromDesk) usedPart) 5).any (fun e => !e.fired) ∧
    (after (.rstr fromDesk) usedPart).calls.selectors = Vector.replicate 3 .a ∧
    (let stored := (run [.sttb fromDesk, .storeCompletion, .powerLoss] usedPart).getD State.reset
     stored.powered = false ∧ stored.lights.policy = governed.lights.policy.map (fun e => PolicyEntry.initial e.defn) ∧
     (zoneAt stored 47).any (fun z => decide (z.lastReport = 0 ∧ z.staleTimer = some { start := 0, length := 5000 })) ∧
     (callEntry stored 5).any (fun e => !e.fired)) := by decide +kernel

/-- Meets the hypotheses of PlayerTimerAdvancesCall on the start of a sounding, and PatternDurationIsRunTime's second clause. -/
theorem test_sounding_starts :
    let copy : StartCopy := { copyOf7 with stations := [(30, 1), (31, 2)], pattern := some 3 }
    let s := (busyPort.onCalls fun c =>
        { c with player := .gap { instanceOf 7 busyPort with repeats := some (.count 1) } copy dueTimer }).onBells fun u =>
      { u with patterns := u.patterns.setIfInBounds 3 (some (twoByTwo 5).pattern) }
    s.numbered ∧ quietQueue s ∧ dueTimer.expired s.clock ∧ patternOf s 3 = some (twoByTwo 5).pattern ∧
    (after .playerTimerExpiry s).loop.origin =
      [queued s kindCall 30 [1, 7, 4, 0, 1] false, queued s kindCall 31 [1, 7, 4, 0, 2] false] ∧
    (after .playerTimerExpiry s).bells.generators[1]? =
      some (ringing { number := 3, pattern := (twoByTwo 5).pattern } 1 1 s) ∧
    (after .playerTimerExpiry s).bells.generators[0]? = some Generator.initial ∧
    (after .playerTimerExpiry s).calls.player =
      .sounding { instanceOf 7 s with repeats := some (.count 1) } copy playing := by decide +kernel

/-- A timer started with length 0 expires at once (R25), the gap of EVAC among them (log entry 8), and a refused CALX makes
no selection but its own refusal (log entry 44). -/
theorem test_zero_times :
    let p := { busyPort.command.profile with evacGap := 0 }
    let s := (inPhase .evacuating busyPort).onCommand fun c => { c with profile := p }
    let copy : StartCopy := { copyOf7 with repeats := .continuous, gap := 0 }
    let sounds := s.onCalls fun c =>
      { c with player := .sounding { newInstance s 62 .fire with repeats := some .continuous } copy dueTimer }
    (match (after .playerTimerExpiry sounds).calls.player with
      | .sounding call _ timer => decide (call.soundings = 1 ∧ timer = playing)
      | _ => false) = true ∧
    resultOf (.calx fromDesk 5) callable = some 3 := by decide +kernel

/-- The result, the held value and the clamped byte of one field's load. -/
def loads (code : Byte) (value : Nat) : Option Byte × Nat :=
  let c : Instr := .ldpf fromDesk (code :: bytes2 value)
  (resultOf c busyPort, (after c busyPort).command.profile.read code.toNat)

/-- Meets the hypotheses of ProfileLoadsAndTableClears at the ends of the ranges. -/
theorem test_profile_ranges :
    [loads 0x01 0, loads 0x01 1, loads 0x01 126, loads 0x01 127] =
      [(some 1, 1), (some 0, 1), (some 0, 126), (some 1, 126)] ∧
    [loads 0x41 0, loads 0x41 999, loads 0x41 65535] = [(some 4, 10000), (some 1, 1000), (some 0, 65535)] ∧
    [loads 0x46 0, loads 0x46 256, loads 0x46 257] = [(some 1, 1), (some 0, 256), (some 1, 256)] ∧
    [loads 0x1F 2, loads 0x1F 3] = [(some 0, 2), (some 1, 2)] ∧
    [loads 0x60 7, loads 0x60 8, loads 0x60 255] = [(some 0, 7), (some 1, 255), (some 0, 255)] ∧
    [loads 0x65 63, loads 0x65 64] = [(some 0, 63), (some 1, 255)] ∧ loads 0x4F 0x1FF = (some 0, 255) ∧
    resultOf (.ldpf fromDesk [0x51, 0, 1]) busyPort = some 4 ∧ resultOf (.ldpf fromDesk [0xFF, 0, 1]) busyPort = some 4 ∧
    (after (.ldpf fromDesk [0x02, 0, 9]) State.reset).loop.outDivisor = 9 ∧
    (after (.ldpf fromDesk [0x02, 0, 4]) State.reset).loop.inDivisor = 5 ∧
    (after (.ldpf fromDesk [0x02, 0, 9]) busyPort).loop.outDivisor = busyPort.loop.outDivisor := by decide +kernel

/-- The part answers PHSE, from a phase in an act, with this result. -/
def requested (from_ : Phase) (ran : Nat) (target act : Byte) (interval : BitVec 16) : Option Byte :=
  resultOf (.phse fromDesk target act interval) (busyPort.onPhase fun p => { p with phase := from_, act := ran })

/-- Meets the hypotheses of PhaseRequestsFollowTheTable on its refusals. -/
theorem test_phase_refusals :
    [requested .houseOpen 0 0 0 0, requested .houseOpen 0 7 0 0, requested .houseOpen 0 4 6 0] = [some 4, some 4, some 4] ∧
    [requested .preshow 0 2 1 0, requested .houseOpen 0 2 0 0] = [some 3, some 3] ∧
    [requested .running 1 4 2 0, requested .houseOpen 0 4 2 0, requested .egress 1 4 0 0, requested .interval 5 4 0 0,
      requested .interval 1 4 3 0] = List.replicate 5 (some 3) ∧
    [requested .running 2 5 1 0, requested .running 2 5 2 3601, requested .preshow 0 5 0 0] = [some 3, some 4, some 3] ∧
    [requested .interval 2 6 0 0, requested .running 2 6 1 0] = [some 3, some 3] := by decide +kernel

/-- Meets the hypotheses of EndPerformanceCloses on the entries it appends and on a demonstration in progress. -/
theorem test_end_entries :
    roomFor 19 heldHouse ∧ recordDerived heldHouse ∧
    (after (.enpf fromDesk) heldHouse).phase.report.map (fun e => (e.kind, e.data)) =
      [(.phase, [0, 3, 0, 0, 0]), (.hold, [1, 0, 0, 0])] ∧
    (let demo := dwelling
     demo.phase.demoStatus.inProgress ∧ (after (.enpf fromDesk) demo).phase.demoStatus = .failed .stopped ∧
     gains (entryNow demo .demo [5, 5, 0, 0, 0]) demo (after (.enpf fromDesk) demo) ∧
     (after (.enpf fromDesk) demo).curtain.sequence.dwellTimer = none) := by decide +kernel

/-- The data of the REPLY that the command offers. -/
def dataOf (c : Instr) (s : State) : List Byte :=
  (((after c s).loop.origin.head?.map fun q => q.frame.payload.drop 3)).getD []

/-- Meets the hypotheses of ReadsAnswerAndChangeNothing, replies written out from 11.9. -/
theorem test_read_layouts :
    dataOf (.rdzn fromDesk 1 0) (withWindow true busyPort) =
      [1, 0, 0, 0, 15, 9, 0, 0, 2, 0x58, 0x80, 0, 0, 0, 0, 0] ∧
    (dataOf (.rdzn fromDesk 0 47) (setZone 47 (some (zoneOf .stage .normal .clear)) busyPort)).take 15 =
      [0, 0, 0, 47, 47, 1, 0, 0, 0, 0, 0, 0, 0, 0, 0] ∧
    dataOf (.rdqu fromDesk) (sounding 2 playing busyPort) = [1, 0, 0, 0x13, 0x88, 7, 0, 2, 0, 2, 0] ∧
    dataOf (.rdtb fromDesk 5 0) { callable with clock := 3 } = [5, 0, 1, 0, 0, 1, 0, 0, 20, 0, 21, 255] ∧
    (dataOf (.rdst fromDesk 2) (iron .deadTime)).take 5 = [2, 6, 255, 0, 255] ∧
    (dataOf (.rdst fromDesk 4) busyPort) = [4] ++ (List.replicate 4 [0, 255, 1, 1]).flatten ++ [0, 0, 0] := by decide +kernel

/-! ## Clauses at the ends of their ranges -/

/-- Meets the hypotheses of GovernedLevelsAreRewritten on the run form, on several pairs, above channel 511, and on a LEVEL frame
that starts out: channel 511 of the governed part is an effect without its window, so 0, and channel 1 an aisle at its floor. -/
theorem test_levels_forms :
    rewriteLevels governed [0x00, 0, 0, 77, 78, 79, 80] = [0x00, 0, 0, 0, 100, 90, 80] ∧
    rewriteLevels governed [0x00, 1, 254, 9, 9, 9] = [0x00, 1, 254, 9, 0, 9] ∧
    rewriteLevels governed [0x10, 1, 255, 9, 2, 0, 9, 0, 1, 7] = [0x10, 1, 255, 0, 2, 0, 9, 0, 1, 100] ∧
    rewriteLevels governed [0x10] = [0x10] ∧ rewriteLevels governed [0x20, 0, 1, 7] = [0x20, 0, 1, 7] ∧
    (let runs := frameOf 5 kindLevel [0x00, 0, 0, 77, 78]
     let s := { governed with loop := (sent [runs] [] 0).loop }
     lineDue (s.loop.sending.map Sending.span) s.clock ∧
     started s = some { runs with payload := [0x00, 0, 0, 0, 100] } ∧
     (after .sendCompletion s).loop.sending.map Sending.crc =
       some (crc16 ({ runs with payload := [0x00, 0, 0, 0, 100] } : Frame).bytes) ∧
     (after .sendCompletion s).lights.policy.map PolicyEntry.lastOutput = [some 0, some 0, none, none]) ∧
    (let pairs := frameOf 2 kindLevel [0x10, 1, 255, 9, 2, 0, 9]
     let s := { governed with loop := (sent [] [{ frame := pairs, urgent := false }] 0).loop }
     started s = some { pairs with payload := [0x10, 1, 255, 0, 2, 0, 9] } ∧
     (after .sendCompletion s).lights.policy.map PolicyEntry.lastOutput = [none, none, none, some 0]) ∧
    (let rejected := frameOf 5 kindLevel [0x33, 1]
     let s := { governed with loop := (sent [rejected] [] 0).loop }
     started s = some rejected ∧ (after .sendCompletion s).lights.policy = s.lights.policy) := by decide +kernel

/-- The data of the report's entries after the acceptance of a line. -/
def acceptedData (line : Nat) (s : State) : List (List Byte) :=
  (after (.contactAcceptance line) s).phase.report.map ReportEntry.data

/-- Meets the hypotheses of AcceptanceStoresReading on PANEL and the limit lines. -/
theorem test_owner_acceptances :
    (let s := lineDueAs 0 .normal .normal .active (inPhase .running busyPort)
     recordDerived s ∧ roomFor 2 s ∧ (after (.contactAcceptance 0) s).zones.panel = { state := .confirmed, last := .alarm } ∧
     (after (.contactAcceptance 0) s).phase.phase = .evacuating ∧ (after (.contactAcceptance 0) s).curtain.k6 ∧
     (acceptedData 0 s).contains [48, 4, 0, 4]) ∧
    (let s := lineDueAs 0 .normal .normal .opened busyPort
     (after (.contactAcceptance 0) s).zones.panel.state = .faultReported ∧ isRaised .zoneFault (after (.contactAcceptance 0) s)) ∧
    (let s := lineDueAs 0 .active .active .normal busyPort
     recordDerived s ∧ windowsClosedInAlarm s ∧ (after (.contactAcceptance 0) s).zones.panel = { state := .normal, last := .clear }) ∧
    -- C1: IN from STOPPED, an arrival against a raise, both limits, IN left, a faulted limit.
    (after (.contactAcceptance 1) (lineDueAs 1 .normal .normal .active (iron .stopped))).curtain.state = .atFloor ∧
    (after (.contactAcceptance 1) (lineDueAs 1 .normal .normal .active (iron .lowering))).curtain.lastDescent = 0 ∧
    (after (.contactAcceptance 1) (lineDueAs 1 .normal .normal .active (iron .raising))).curtain.cause = some .positionDisagree ∧
    (after (.contactAcceptance 1) (lineDueAs 1 .normal .normal .active (withReading 2 .active (iron .stored)))).curtain.cause =
      some .limitConflict ∧
    (after (.contactAcceptance 1) (lineDueAs 1 .normal .normal .active (iron .unknown))).curtain = (iron .unknown).curtain ∧
    (after (.contactAcceptance 1) (lineDueAs 1 .active .active .normal (iron .atFloor))).curtain.state = .stopped ∧
    (after (.contactAcceptance 1) (lineDueAs 1 .normal .normal .shorted (iron .stored))).curtain.cause = some .inLine ∧
    (let alarmed := (iron .stopped).onCurtain fun c => { c with stageAlarm := true }
     lineReading alarmed 1 ≠ .active ∧
     (after (.contactAcceptance 2) (lineDueAs 2 .normal .normal .shorted alarmed)).curtain.state = .released) ∧
    (after (.contactAcceptance 1) (lineDueAs 1 .opened .fault .normal (iron .atFloor))).curtain = (iron .atFloor).curtain := by
  decide +kernel

/-- Meets the hypotheses of AcceptanceStoresReading on C2, with PASSED at the top, on C3 and on C7. -/
theorem test_further_acceptances :
    (let s := lineDueAs 2 .normal .normal .active ((iron .raising).onPhase fun p =>
       { p with phase := .houseOpen, demoStatus := .raising, demoTime := 9000 })
     roomFor 4 s ∧ (after (.contactAcceptance 2) s).curtain.state = .stored ∧
     (after (.contactAcceptance 2) s).phase.demoStatus = .passed ∧ isRaised .demoResult (after (.contactAcceptance 2) s) ∧
     (acceptedData 2 s).contains [4, 0xFF, 0x23, 0x28, 0]) ∧
    (after (.contactAcceptance 2) (lineDueAs 2 .normal .normal .active (iron .stopped))).curtain.state = .stored ∧
    (after (.contactAcceptance 2) (lineDueAs 2 .normal .normal .active (iron .lowering))).curtain.cause = some .positionDisagree ∧
    (after (.contactAcceptance 2) (lineDueAs 2 .normal .normal .active (iron .fault))).curtain.state = .fault ∧
    (after (.contactAcceptance 2) (lineDueAs 2 .active .active .normal (iron .stored))).curtain.state = .stopped ∧
    (after (.contactAcceptance 2) (lineDueAs 2 .normal .normal .shorted (iron .atFloor))).curtain.cause = some .outLine ∧
    (let s := lineDueAs 3 .normal .normal .active ((iron .lowering).onPhase fun p => { p with demoStatus := .lowering })
     (after (.contactAcceptance 3) s).curtain.state = .stopped ∧
     (after (.contactAcceptance 3) s).phase.demoStatus = .failed .obstructed) ∧
    (let s := lineDueAs 3 .normal .normal .active ((iron .lowering).onCurtain fun c => { c with mode := .emergency })
     (after (.contactAcceptance 3) s).curtain = s.curtain ∧ (acceptedData 3 s).contains [2, 3, 3, 2, 0, 0]) ∧
    (let s := lineDueAs 7 .active .active .normal ((iron .lowering).onCurtain fun c => { c with k6 := true })
     (after (.contactAcceptance 7) s).curtain.flowTimer = some { start := 0, length := 10000 } ∧
     (after (.contactAcceptance 7) (lineDueAs 7 .normal .normal .active
       (s.onCurtain fun c => { c with flowTimer := some playing }))).curtain.flowTimer = none) := by decide +kernel

/-- Meets the hypotheses of AcceptanceStoresReading on the entries of C5 and C6: show stop, a hold from PRESHOW with a pending
second, and its release to PRESHOW, whose decrement requests the call of that second. -/
theorem test_house_key :
    (let s := lineDueAs 5 .normal .normal .active (inPhase .running busyPort)
     roomFor 2 s ∧ acceptedData 5 s = [[5, 1, 0], [4, 4, 0, 2, 1]] ∧
     acceptedData 5 (s.onPhase fun p => { p with showStop := true }) = [[5, 1, 0]]) ∧
    acceptedData 6 (lineDueAs 6 .normal .normal .active (inPhase .preshow busyPort)) =
      [[6, 1, 0], [3, 1, 0, 2, 0], [0, 0, 0, 0]] ∧
    (let s := lineDueAs 6 .active .active .normal (heldHouse.onPhase fun p => { p with heldFrom := some .preshow })
     roomFor 3 s ∧ (after (.contactAcceptance 6) s).phase.phase = .preshow ∧
     (after (.contactAcceptance 6) s).phase.curtainUp = 59 ∧ acceptedData 6 s = [[6, 0, 1], [1, 3, 0, 2, 0], [1, 0, 59, 1]] ∧
     (callEntry (after (.contactAcceptance 6) (withCall (some .curtainUp) 59 s)) 5).any CallEntry.fired) := by decide +kernel

/-- A demonstration's descent of 9000 ms at its end. -/
def demoArriving (sequence : DemoSequence) (f : Profile → Profile) : State :=
  let s := (lineDueAs 1 .normal .normal .active (iron .lowering)).onCurtain fun c =>
    { c with mode := .demo, descentStart := some 0, sequence := sequence }
  { ((s.onPhase fun p => { p with phase := .houseOpen, demoStatus := .lowering }).onCommand fun c =>
    { c with profile := f c.profile }) with clock := 9000 }

/-- What the arrival makes of that demonstration. -/
def demoArrived (sequence : DemoSequence) (f : Profile → Profile) : DemoStatus × Nat × Option Timer :=
  let t := after (.contactAcceptance 1) (demoArriving sequence f)
  (t.phase.demoStatus, t.phase.demoTime, t.curtain.sequence.dwellTimer)

/-- Meets the hypotheses of FloorArrivalMeasuresDescent on a demonstration: FAILED by UNVERIFIED, by its first mark, by SLOW; in
its dwell of five seconds; and a dwell of 0 that ends at once, here without a raise. -/
theorem test_demo_arrival :
    let seen : DemoSequence := { DemoSequence.initial with posSeen := true }
    (demoArriving seen id).curtain.stageAlarm = false ∧ (demoArriving seen id).zones.alarm.confirmed = [] ∧
    roomFor 3 (demoArriving seen id) ∧
    demoArrived DemoSequence.initial id = (.failed .unverified, 9000, none) ∧
    demoArrived { seen with houseDark := true, first := some .houseDark } id = (.failed .houseDark, 9000, none) ∧
    demoArrived seen (fun p => { p with descentLimit := 8999 }) = (.failed .slow, 9000, none) ∧
    demoArrived seen (fun p => { p with descentLimit := 9000, demoDwell := 5 }) =
      (.dwell, 9000, some { start := 9000, length := 5000 }) ∧
    (demoArrived seen fun p => { p with demoDwell := 0 }).1 = .raising ∧
    (after (.contactAcceptance 1) (demoArriving seen fun p => { p with demoDwell := 0 })).curtain.state = .raising := by
  decide +kernel

/-- A full queue under a sounding call, its last instance of this priority. -/
def fullQueue (last : Nat) : State :=
  let s := sounding 2 playing callable
  s.onCalls fun c =>
    { c with queue := (List.range 16).map fun i => { instanceOf (8 + i) s with priority := if i < 15 then 2 else last } }

/-- Meets the hypotheses of CallsAreRequested on a full queue, call 5 having priority 1, and on an id above 31. -/
theorem test_full_queue :
    (let s := fullQueue 0
     callPriority s 5 = 1 ∧ playerBusy s ∧ roomFor 1 s ∧ (s.calls.queue.dropLast.length = 15) ∧
     (after (.caln fromDesk 5) s).calls.queue.map CallInstance.id = (List.range 15).map (· + 8) ++ [5] ∧
     isRaised .callLost (after (.caln fromDesk 5) s) ∧
     (after (.caln fromDesk 5) s).phase.report.map ReportEntry.data = [[23, 4, 2, 0, 0, 0xFF]]) ∧
    (let s := fullQueue 1
     (after (.caln fromDesk 5) s).calls = s.calls ∧ isRaised .callLost (after (.caln fromDesk 5) s) ∧
     resultOf (.caln fromDesk 5) s = some 5 ∧
     (after (.caln fromDesk 5) s).phase.report.map ReportEntry.data = [[5, 3, 2, 1, 0, 5]]) ∧
    resultOf (.caln fromDesk 32) (fullQueue 0) = some 4 := by decide +kernel

/-- Call 7 sounds with this priority and expiry time at reading 6000, with instances of these priorities in the queue; a first
prealarm of zone 47 requests STAFF, which area 0 takes at station 20. -/
def preempting (priority : Nat) (expiry : Option Time) (waiting : List Nat) : State :=
  let s := { (withZone (zoneOf .house .normal .clear)) with clock := 6000, loop := busyPort.loop }
  let s := s.onCalls fun c =>
    { c with
      areas := c.areas.setIfInBounds 0 (some
        { areaClass := .staff, inAuditorium := false, group := 0, stationA := 20, bellA := none, stationB := 21
          bellB := none }) }
  s.onCalls fun c =>
    { c with
      queue := waiting.zipIdx.map fun (p, i) => { newInstance s (8 + i) .command with priority := p }
      player := .sounding
        { newInstance s 7 .command with priority := priority, expiry := expiry, repeats := some (.count 2) } copyOf7
        { start := 5000, length := 5000 } }

/-- The queued ids, and the ids and outcomes of the CALL entries, once STAFF has taken the player. -/
def preempted (s : State) : List Nat × List (List Byte) :=
  let t := reported 1 s
  (t.calls.queue.map CallInstance.id,
    (t.phase.report.filter fun e => decide (e.kind = .call)).map fun e => e.data.take 2)

/-- Meets the hypotheses of CallsAreRequested on the pre-emption of a sounding call. -/
theorem test_preemption :
    (let s := preempting 2 (some 9000) [2, 1]
     passesAt (frameOf 5 kindZone [47, 1]) s ∧ recordDerived s ∧ s.zones.alarm.prealarm = false ∧
     s.zones.alarm.confirmed = [] ∧ playerBusy s ∧ s.command.profile.staffSlot.isSome ∧ 1 ≤ s.command.profile.staffMessage ∧
     routeStations s (effectiveAreas s 63) = [(20, 1)] ∧ s.numbered ∧ quietQueue s ∧ roomFor 4 s ∧
     (match (reported 1 s).calls.player with
       | .sounding call _ timer => decide (call.id = 63 ∧ timer.start = 6000)
       | _ => false) = true ∧
     ((reported 1 s).loop.origin.take 2).map (fun q => (q.frame.dest, q.frame.payload, q.urgent)) =
       [(30, [2, 7], false), (20, [1, 63, 1, 0, 1], true)] ∧
     (reported 1 s).calls.queue.head?.map CallInstance.timer = some (some { start := 6000, length := 3000 }) ∧
     preempted s = ([7, 8, 9], [])) ∧
    preempted (preempting 1 none [2, 1]) = ([8, 9], [[7, 6]]) ∧ isRaised .callLost (reported 1 (preempting 0 none [])) ∧
    preempted (preempting 2 (some 6000) []) = ([], [[7, 5]]) ∧
    preempted (preempting 2 (some 6001) []) = ([7], []) ∧
    preempted (preempting 2 none (List.replicate 15 1)) = (7 :: (List.range 14).map (· + 8), [[22, 4]]) ∧
    preempted (preempting 2 none (List.replicate 15 2)) = ((List.range 15).map (· + 8), [[7, 6]]) := by decide +kernel

/-- Meets the hypotheses of QueuedCallsAreCancelledAndLapse on a sounding call, on refusals, and on a lapse that is not due. -/
theorem test_call_stops :
    (let s := sounding 2 playing callable
     s.calls.queue = [] ∧ quietQueue s ∧ (after (.calx fromDesk 7) s).calls.player = .idle ∧
     (after (.calx fromDesk 7) s).phase.report.map ReportEntry.data = [[7, 8, 2, 0, 0, 0xFF]] ∧
     ((after (.calx fromDesk 7) s).loop.origin.head?.map fun q => q.frame.payload) = some [2, 7] ∧
     ((lapsed s).calls.queue.find? fun c => decide (c.id = 7)) = none ∧
     (after (.calx fromDesk 7) (lapsed s)).phase.report.map (fun e => e.data.take 2) = [[7, 8], [31, 7]] ∧
     callHeld s 31 = false ∧ resultOf (.calx fromDesk 31) s = some 3 ∧ resultOf (.calx fromDesk 32) s = some 4 ∧
     resultOf (.calx fromDesk 61) s = some 4 ∧ resultOf (.calx fromDesk 63) s = some 3 ∧
     resultOf (.calx fromDesk 62) (inPhase .evacuating s) = some 3 ∧
     playerBusy s ∧ after (.rpln fromDesk 0 1) s =
       replied fromDesk 0x4A (.plain .done) ((begin 0x4A fromDesk s).onCalls fun c => { c with selectors := #v[.b, .a, .a] })) ∧
    (let s := State.reset.onCalls fun c => { c with queue := [{ instanceOf 5 State.reset with timer := some playing }] }
     due playing s.clock = false ∧ after (.callLapse 5) s = s ∧ after (.callLapse 6) s = s) := by decide +kernel

/-- Meets the hypotheses of NoticeTimerSendsNotice on a part without a node number. -/
theorem test_unnumbered_notice :
    let s := { (State.reset.onLoop fun l => { l with node := 0 }).onCommand fun c =>
      { c with attention := 0x8001, newMarks := 0x8001 } with clock := 500 }
    s.command.noticeTimer.expired s.clock ∧ s.numbered = false ∧ (after .noticeTimerExpiry s).command.newMarks = 0 ∧
    (after .noticeTimerExpiry s).command.attention = 0x8001 ∧ (after .noticeTimerExpiry s).loop.origin = [] := by decide +kernel

/-- Meets the hypotheses of RefusedCommandsChangeNothing on argument lengths: one byte too many or too few, and loads that end
inside an entry or hold none. -/
theorem test_argument_lengths :
    [[0x04, 7, 0], [0x05, 7], [0x24, 7, 0, 1, 2], [0x38, 7, 2, 0x80, 0, 0], [0x4A, 7, 1]].all
      (fun payload => decide (resultOf (.unknownCommand 1 payload) busyPort = some 11)) ∧
    resultOf (.ldpo fromDesk []) busyPort = some 11 ∧ resultOf (.ldpo fromDesk (List.replicate 10 0)) busyPort = some 11 ∧
    resultOf (.ldcu fromDesk [0, 0, 5, 1]) busyPort = some 11 ∧ resultOf (.ldcu fromDesk [0, 0, 5]) busyPort = some 11 ∧
    resultOf (.ldzn fromDesk [2, 0, 0, 0, 0, 0]) busyPort = some 11 ∧ resultOf (.ldzn fromDesk [1, 0, 0, 0, 0, 0]) busyPort = some 11 ∧
    resultOf (.ldcl fromDesk (List.replicate 16 0)) busyPort = some 11 ∧
    resultOf (.ldpt fromDesk (List.replicate 9 0)) busyPort = some 11 ∧
    resultOf (.ldrt fromDesk (List.replicate 7 0)) busyPort = some 11 ∧
    resultOf (.ldpf fromDesk [0x06, 0]) busyPort = some 11 := by decide +kernel

/-- The result of a load and the data of its TABLE entry. -/
def loadOf (c : Instr) (s : State) : Option Byte × List (List Byte) :=
  (resultOf c s, (after c s).phase.report.map ReportEntry.data)

/-- Meets the hypotheses of PatternAreaAndCallLoadsDefine on deletions, on several entries and on loads that stop. -/
theorem test_call_table_loads :
    (let s := (sounding 2 playing busyPort).onBells fun u => { u with patterns := u.patterns.setIfInBounds 3 (some topPattern) }
     let two := topPattern.bytes 7 ++ [3, 9, 9, 9, 9, 9, 9, 0]
     loadOf (.ldpt fromDesk two) s = (some 0, [[4, 0, 0, 2]]) ∧ patternOf (after (.ldpt fromDesk two) s) 3 = none ∧
     patternOf (after (.ldpt fromDesk two) s) 7 = some topPattern ∧
     loadOf (.ldpt fromDesk (two ++ [0, 1, 1, 0, 1, 1, 0, 1, 0, 0, 0, 0, 0, 0, 0, 0])) s = (some 2, [[4, 0, 2, 2]]) ∧
     dataOf (.ldpt fromDesk (two ++ [0, 1, 1, 0, 1, 1, 0, 1])) s = [2, 4] ∧
     [[8, 0, 1, 0, 1, 1, 0, 0], [0, 0, 0, 0, 1, 1, 0, 1], [0, 0, 1, 0, 1, 17, 0, 1], [0, 0, 1, 0, 1, 1, 101, 1],
       [0, 0, 1, 0, 1, 1, 0, 9]].all (fun e => decide (loadOf (.ldpt fromDesk e) s = (some 4, [[4, 0, 4, 0]])))) ∧
    (let s := sounding 2 playing callable
     (after (.ldrt fromDesk [0, 0, 9, 9, 9, 9, 9, 9]) s).calls.areas[0]? = some none ∧
     loadOf (.ldrt fromDesk (topArea.bytes 11 ++ [12, 1, 0, 0, 0, 0, 0, 0])) s = (some 2, [[5, 0, 2, 1]]) ∧
     [[0, 3, 0, 0, 0, 0, 0, 0], [0, 1, 0, 3, 0, 0, 0, 0], [0, 1, 0, 0, 127, 0, 0, 0], [0, 1, 0, 0, 0, 4, 0, 0],
       [0, 1, 0, 0, 0, 0, 0, 254]].all (fun e => decide (loadOf (.ldrt fromDesk e) s = (some 4, [[5, 0, 4, 0]]))) ∧
     callEntry (after (.ldcl fromDesk (5 :: List.replicate 14 0)) s) 5 = none ∧
     [(0, 32), (3, 8), (4, 64), (5, 61), (6, 3), (8, 5), (9, 61), (10, 15), (12, 2), (13, 15)].all (fun change =>
       decide (loadOf (.ldcl fromDesk ((topCall.bytes 31).set change.1 change.2)) s = (some 4, [[3, 0, 4, 0]])))) := by decide +kernel

/-- Meets the hypotheses of PolicyCueAndZoneLoadsDefine on policy entries: a replacement keeps the runtime fields, a deletion of
the last sounding channel of a console group gives it to the part, a load stops, and the table is full. -/
theorem test_policy_loads :
    let table (entries : List PolicyEntry) : State :=
      busyPort.onLights fun l =>
        { l with
          policy := entries
          groups := mapTable (fun g => { g with owner := .console, fade := none, stepTimer := none }) l.groups }
    let silent : PolicyEntry := { channelOf 0 1 .house 1 with silence := none }
    let s := table [channelOf 0 0 .house 1, silent, channelOf 0 511 .effect 0]
    let d : PolicyDef := { (channelOf 0 0 .house 2).defn with merge := 2 }
    let bad : List Byte := [0, 2, 0, 1, 0, 0, 0, 0, 0]
    (let t := after (.ldpo fromDesk d.bytes) s
     findPolicy s 0 0 = some (channelOf 0 0 .house 1) ∧ findPolicy t 0 0 = some { channelOf 0 0 .house 1 with defn := d } ∧
     groupIs 1 (fun g => decide (g = { level := 257 * 90, owner := .part, fade := none, stepTimer := none })) t ∧
     groupIs 2 (fun g => decide (g.owner = .console)) t ∧ isRaised .consoleSilent t) ∧
    (let t := after (.ldpo fromDesk ([0, 0, 0, 0, 9, 9, 9, 9, 9] ++ bad)) s
     t.lights.policy = [silent, channelOf 0 511 .effect 0] ∧ groupIs 1 (fun g => decide (g.owner = .part)) t ∧
     loadOf (.ldpo fromDesk ([0, 0, 0, 0, 9, 9, 9, 9, 9] ++ bad)) s = (some 2, [[0, 0, 2, 1]]) ∧
     dataOf (.ldpo fromDesk ([0, 0, 0, 0, 9, 9, 9, 9, 9] ++ bad)) s = [1, 4]) ∧
    (after (.ldpo fromDesk [3, 1, 255, 0, 9, 9, 9, 9, 9]) s).lights = s.lights ∧
    [bad, [4, 0, 0, 0, 0, 0, 0, 0, 0], [0, 0, 0, 5, 0, 0, 0, 0, 0], [0, 0, 0, 1, 8, 0, 0, 0, 0], [0, 0, 0, 1, 0, 3, 0, 0, 0],
      [0, 0, 0, 4, 0, 0, 0, 16, 0]].all (fun e => decide (loadOf (.ldpo fromDesk e) s = (some 4, [[0, 0, 4, 0]]))) ∧
    (let full := table ((List.range 96).map fun i => channelOf 1 i .aisle 0)
     full.lights.policy.length = 96 ∧ findPolicy full 3 511 = none ∧
     loadOf (.ldpo fromDesk topChannel.bytes) full = (some 5, [[0, 0, 5, 0]])) := by decide +kernel

/-- Meets the hypotheses of PolicyCueAndZoneLoadsDefine on cues. -/
theorem test_cue_loads :
    let s := withCue [.demo] busyPort
    findCue (after (.ldcu fromDesk topCue.bytes) s) 3 9999 = some topCue ∧
    (after (.ldcu fromDesk topCue.bytes) s).cues.table = [topCue] ∧
    (after (.ldcu fromDesk [3, 0x27, 0x0F, 0]) s).cues.table = [] ∧
    (after (.ldcu fromDesk [2, 0x27, 0x0F, 0]) s).cues.table = s.cues.table ∧
    loadOf (.ldcu fromDesk (topCue.bytes ++ [3, 0x27, 0x10, 0])) s = (some 2, [[1, 0, 2, 1]]) ∧
    [[4, 0, 1, 0], [0, 0x27, 0x10, 0], 0 :: 0 :: 1 :: 5 :: List.replicate 30 0, [0, 0, 1, 1, 7, 0, 0, 0, 0, 0],
      [0, 0, 1, 1, 0, 8, 0, 0, 0, 0], [0, 0, 1, 1, 0, 1, 6, 0, 0, 0], [0, 0, 1, 1, 1, 8, 0, 0, 0, 0],
      [0, 0, 1, 1, 1, 0, 0, 0, 0x8C, 0xA1], [0, 0, 1, 1, 2, 16, 0, 0, 0, 0], [0, 0, 1, 1, 3, 16, 0, 0, 0, 0],
      [0, 0, 1, 1, 4, 32, 0, 0, 0, 0]].all (fun e => decide (loadOf (.ldcu fromDesk e) s = (some 4, [[1, 0, 4, 0]]))) ∧
    (let cues : List CueEntry := (List.range 256).map fun i => { list := 0, cue := i, actions := [.demo] }
     let full := { s with cues := { s.cues with table := cues } }
     full.cues.table.length = 256 ∧ loadOf (.ldcu fromDesk topCue.bytes) full = (some 5, [[1, 0, 5, 0]])) := by decide +kernel

/-- Meets the hypotheses of PolicyCueAndZoneLoadsDefine on zones and windows. -/
theorem test_zone_loads :
    let inState (zone : Zone) : State := { (inPhase .preshow (withZone zone)) with loop := busyPort.loop }
    let isolated := inState (zoneOf .house .isolated .alarm)
    let opened := { (inPhase .preshow (withWindow true (withZone (zoneOf .house .normal .clear)))) with loop := busyPort.loop }
    (recordDerived isolated ∧ windowsClosedInAlarm isolated ∧
     zoneAt (after (.ldzn fromDesk (topZone.bytes 47)) isolated) 47 = some { zoneOf .house .isolated .alarm with defn := topZone }) ∧
    zoneAt (after (.ldzn fromDesk [0, 47, 0, 9, 9, 9]) isolated) 47 = none ∧
    (after (.ldzn fromDesk [0, 46, 0, 9, 9, 9]) isolated).zones = isolated.zones ∧
    loadOf (.ldzn fromDesk ([0, 47, 0, 9, 9, 9] ++ [0, 48, 0, 0, 0, 0])) isolated = (some 2, [[2, 0, 2, 1]]) ∧
    [ZoneState.prealarm, .verifying, .confirmed, .faultReported, .faultStale, .masked].all (fun x => decide
      (loadOf (.ldzn fromDesk [0, 47, 0, 9, 9, 9]) (inState (zoneOf .house x .alarm)) = (some 3, [[2, 0, 3, 0]]) ∧
       loadOf (.ldzn fromDesk (topZone.bytes 47)) (inState (zoneOf .house x .alarm)) = (some 3, [[2, 0, 3, 0]]))) ∧
    (windowOpen opened 15 ∧ loadOf (.ldzn fromDesk (topWindow.bytes 15)) opened = (some 3, [[2, 0, 3, 0]]) ∧
     loadOf (.ldzn fromDesk [1, 15, 0, 0, 9, 9, 9, 9, 9, 9]) opened = (some 3, [[2, 0, 3, 0]])) ∧
    (let closed := { (inPhase .preshow (withWindow false (withZone (zoneOf .house .normal .clear)))) with loop := busyPort.loop }
     (after (.ldzn fromDesk [1, 15, 0, 0, 9, 9, 9, 9, 9, 9]) closed).zones.windows[15]? =
       some { defn := none, isOpen := false, timer := none }) ∧
    [[0, 48, 1, 0, 0, 255], [0, 47, 4, 0, 0, 255], [0, 47, 1, 0x02, 0x59, 255], [0, 47, 1, 0, 0, 47], [0, 47, 1, 0, 0, 48],
      [1, 16, 0, 0, 0, 0, 0, 0, 0, 0], [1, 15, 0x02, 0x59, 0, 0, 0, 0, 0, 0]].all
      (fun e => decide (loadOf (.ldzn fromDesk e) isolated = (some 4, [[2, 0, 4, 0]]))) := by decide +kernel

/-- Meets the hypotheses of CompletedFrameIsDisposed on the phase actions that are taken, and on a call to an idle player. -/
theorem test_cue_phases :
    (let s := inPhase .preshow busyPort
     relaysFollow s ∧ roomFor 1 s ∧ goReport [.phase .houseOpen 0] s = [[2, 1, 0, 1, 0]] ∧
     goReport [.phase .houseOpen 1] s = [[3, 0x27, 0x0F, 1, 0, 3]] ∧ goReport [.phase .running 0] s = [[3, 0x27, 0x0F, 1, 0, 3]]) ∧
    (let t := passed goFrame (withCue [.phase .running 1] (inPhase .houseOpen busyPort))
     t.phase.act = 1 ∧ t.phase.demoStatus = .missed ∧ isRaised .demoResult t ∧
     t.phase.report.map ReportEntry.data = [[4, 2, 1, 1, 0], [6, 0xFF, 0, 0, 0]]) ∧
    (let held := heldHouse.onPhase fun p => { p with demoStatus := .passed }
     (passed goFrame (withCue [.phase .running 0] held)).phase.record =
       { held.phase.record with phase := .running, act := 1, heldFrom := none, holdPending := false }) ∧
    (let s := busyPort.onPhase fun p => { p with phase := .interval, act := 4 }
     goReport [.phase .running 5] s = [[4, 5, 5, 1, 0]] ∧ goReport [.phase .running 4] s = [[3, 0x27, 0x0F, 1, 0, 3]] ∧
     goReport [.phase .running 0] (s.onPhase fun p => { p with act := 5 }) = [[3, 0x27, 0x0F, 1, 0, 3]]) ∧
    goReport [.phase .egress 5] (busyPort.onPhase fun p => { p with phase := .running, act := 5 }) = [[6, 4, 5, 1, 0]] ∧
    (let s := inPhase .running callable
     s.calls.queue = [] ∧ s.calls.player = .idle ∧ eligible s (newInstance s 5 .cue) ∧ callPriority s 5 ≤ 2 ∧
     routeStations s (effectiveAreas s 5) = [(20, 1)] ∧ s.numbered ∧ quietQueue s ∧
     (passed goFrame (withCue [.call 5] s)).loop.origin = [queued s kindCall 20 [1, 5, 3, 0, 1] false] ∧
     (match (passed goFrame (withCue [.call 5] s)).calls.player with
       | .sounding call _ timer => decide (call.source = .cue ∧ timer.start = 0 ∧ 5000 ≤ timer.length)
       | _ => false) = true) := by decide +kernel

/-- Meets the hypotheses of CompletedFrameIsDisposed on lists of several effective actions, and on the order of PHASE and DEMO. -/
theorem test_cue_lists :
    (let s := { (withWindow false (withZone (zoneOf .stage .normal .clear))) with
        calls := (sounding 2 playing callable).calls }
     let t := passed goFrame (withCue [.hfade 7 65535 36000, .wopen 15, .call 5, .mark 9] s)
     recordDerived s ∧ playerBusy s ∧ callHeld s 5 = false ∧ roomFor 2 s ∧
     groupIs 7 (fun g => decide (g.fade = some { start := 0, target := 65535, steps := 144000, index := 0 })) t ∧
     windowOpen t 15 ∧ t.calls.queue.map (fun c => (c.id, c.source.code)) = [(5, 1)] ∧
     t.phase.report.map ReportEntry.data = [[79, 9, 8, 7], [9, 3, 0x27, 0x0F]]) ∧
    (let s := inPhase .preshow (iron .stored)
     relaysFollow s ∧ roomFor 3 s ∧ lineReading s 3 ≠ .active ∧ s.phase.demoStatus = .notDone ∧
     (let t := passed goFrame (withCue [.phase .houseOpen 0, .demo] s)
      t.curtain.state = .lowering ∧ t.curtain.mode = .demo ∧
      t.phase.record = { s.phase.record with phase := .houseOpen, demoStatus := .lowering }) ∧
     (let t := passed goFrame (withCue [.demo, .phase .houseOpen 0] s)
      t.curtain = s.curtain ∧ t.phase.record = { s.phase.record with phase := .houseOpen } ∧
      t.phase.report.map ReportEntry.data = [[3, 0x27, 0x0F, 1, 5, 3], [2, 1, 0, 1, 0]])) := by decide +kernel

/-- Meets the hypotheses of EndPerformanceCloses and StepKeepsPerformanceRecord on a demonstration: it runs only with an empty
confirmed set, and an ENPF ends it STOPPED, or ALARM where a masked zone is confirmed by the closing windows. -/
theorem test_demo_outside_alarm :
    demoOutsideAlarm dwelling ∧ dwelling.phase.demoStatus.inProgress ∧
    demoOutsideAlarm (after (.enpf fromDesk) dwelling) ∧
    (let s := (inPhase .houseOpen (withWindow true (withZone (zoneOf .stage .masked .alarm)))).onPhase fun p =>
       { p with demoStatus := .raising }
     demoOutsideAlarm s ∧ (after (.enpf fromDesk) s).phase.demoStatus = .failed .alarm ∧
     isRaised .demoResult (after (.enpf fromDesk) s) ∧ demoOutsideAlarm (after (.enpf fromDesk) s)) ∧
    (let s := (withZone (zoneOf .stage .verifying .alarm)).onPhase fun p => { p with demoStatus := .raising }
     demoOutsideAlarm s ∧ (after (.verificationExpiry 47) s).zones.alarm.confirmed ≠ [] ∧
     demoOutsideAlarm (after (.verificationExpiry 47) s)) := by decide +kernel

/-! ## Invariants -/

/-- Meets the hypotheses of the StepKeeps statements: a state of every invariant, from which a step begins an evacuation. -/
theorem test_invariants_met :
    let s := withZone (zoneOf .house .verifying .alarm)
    (withinCapacities s ∧ relaysFollow s ∧ recordDerived s ∧ windowsClosedInAlarm s ∧ zoneTimersRun s ∧
      curtainLegal s.curtain ∧ descentInRange s ∧ raisesSafely s ∧ phasesKept s.phase ∧ countsInRange s.phase ∧
      demoOutsideAlarm s ∧ groupsLegal s ∧ generatorsLatched s ∧ storeInvalidWhileStoring s ∧ marksOnFlags s) ∧
    (let t := after (.verificationExpiry 47) s
     t.phase.phase = .evacuating ∧ relaysFollow t ∧ recordDerived t ∧ zoneTimersRun t ∧ phasesKept t.phase) := by
  decide +kernel

theorem test_invariants_step :
    ∃ t, step ((withZone (zoneOf .house .verifying .alarm)).withPending [.verificationExpiry 47]) = .next t ∧ t.pending = [] :=
  ⟨_, rfl, by decide +kernel⟩

/-- Meets the hypotheses of SafetyEntriesAreKept: a full report of safety entries keeps them and loses the new one. -/
theorem test_safety_entries :
    let e : ReportEntry := { time := 0, kind := .zone, data := [1, 4, 2, 1] }
    let s := (inAct .running 1).onPhase fun p => { p with report := List.replicate 128 e }
    mayEmptyReport (.shst fromDesk) s = false ∧ mayEmptyReport (.unknownCommand 1 [0x26, 7]) s = false ∧
    mayEmptyReport (.unknownCommand 1 [0x20, 7, 0, 1, 0, 0]) s ∧
    mayEmptyReport (.frameCompletion (lastCharacter otherNotice)) (beforeLast otherNotice s) = false ∧
    e.kind.safety ∧ s.phase.report.count e = 128 ∧
    (after (.shst fromDesk) s).phase.report.count e = 128 ∧ (after (.shst fromDesk) s).phase.lost = 1 := by decide +kernel

end Tests
end

section
/-! SUPPORT. What a countdown announcement does to the call definitions (R180), what a wrap of the prescaler and STCD do to the
countdowns (R51, R53), and the obligation O48 assembled from them. -/

namespace Sys2Proof.Machine

/-! ## The definitions of the calls stay while the Call Unit works -/

@[simp] theorem report_calls (kind : ReportKind) (data : List Byte) (s : State) :
    (report kind data s).calls = s.calls :=
  sameBut_calls (report_frame kind data s) (by decide)

@[simp] theorem setAttention_calls (flag : Flag) (s : State) : (setAttention flag s).calls = s.calls := rfl

@[simp] theorem offer_calls (kind dest : Byte) (payload : List Byte) (urgent : Bool) (s : State) :
    (offer kind dest payload urgent s).calls = s.calls :=
  sameBut_calls (offer_frame kind dest payload urgent s) (by decide)

@[simp] theorem stopRoutes_calls (copy : StartCopy) (s : State) : (stopRoutes copy s).calls = s.calls :=
  sameBut_calls (stopRoutes_frame copy s) (by decide)

@[simp] theorem setQueue_defs (queue : List CallInstance) (s : State) :
    (setQueue queue s).calls.defs = s.calls.defs := rfl

@[simp] theorem setPlayer_defs (player : Player) (s : State) : (setPlayer player s).calls.defs = s.calls.defs := rfl

@[simp] theorem reportCall_calls (call : CallInstance) (outcome : CallOutcome) (s : State) :
    (reportCall call outcome s).calls = s.calls := report_calls _ _ s

@[simp] theorem reportRequest_calls (id : Nat) (source : CallSource) (outcome : CallOutcome) (reason : Option Result)
    (s : State) : (reportRequest id source outcome reason s).calls = s.calls := report_calls _ _ s

/-- Changes that each leave the Call Unit leave it together. -/
theorem forEach_calls {α : Type} {f : α → State → State} (h : ∀ a t, (f a t).calls = t.calls) (items : List α)
    (s : State) : (forEach items f s).calls = s.calls :=
  forEach_induction (fun t => t.calls = s.calls) f items s (fun a _ t ht => (h a t).trans ht) rfl

@[simp] theorem offerStarts_calls (call : CallInstance) (copy : StartCopy) (stations : List (Nat × BitVec 12))
    (s : State) : (forEach stations (offerStart call copy) s).calls = s.calls :=
  forEach_calls (fun _ t => offer_calls _ _ _ _ t) stations s

@[simp] theorem offerStops_calls (call : CallInstance) (stations : List (Nat × BitVec 12)) (s : State) :
    (forEach stations (offerStop call) s).calls = s.calls :=
  forEach_calls (fun _ t => offer_calls _ _ _ _ t) stations s

@[simp] theorem startGenerators_calls (number : Nat) (p : Pattern) (bells : List Nat) (s : State) :
    (forEach bells (startGenerator number p) s).calls = s.calls :=
  forEach_calls (f := startGenerator number p) (fun _ _ => rfl) bells s

@[simp] theorem beginSounding_defs (call : CallInstance) (copy : StartCopy) (s : State) :
    (beginSounding call copy s).calls.defs = s.calls.defs := by
  simp only [beginSounding]
  split <;> simp

@[simp] theorem startCall_defs (call : CallInstance) (s : State) : (startCall call s).calls.defs = s.calls.defs := by
  simp only [startCall]
  split
  · simp
  · split_ifs <;> simp

@[simp] theorem walkQueue_defs (kept rest : List CallInstance) (s : State) :
    (walkQueue kept rest s).calls.defs = s.calls.defs := by
  induction rest generalizing kept s with
  | nil => rfl
  | cons call rest ih =>
    simp only [walkQueue]
    split_ifs <;> simp [ih]

@[simp] theorem playerExpires_defs (s : State) : (playerExpires s).calls.defs = s.calls.defs := by
  simp only [playerExpires]
  split
  · rfl
  · split_ifs <;> simp
  · simp

@[simp] theorem settlePlayer_defs (fuel : Nat) (s : State) : (settlePlayer fuel s).calls.defs = s.calls.defs := by
  induction fuel generalizing s with
  | zero => rfl
  | succ n ih =>
    simp only [settlePlayer]
    split_ifs <;> simp [ih]

@[simp] theorem selection_defs (s : State) : (selection s).calls.defs = s.calls.defs := settlePlayer_defs 256 s

@[simp] theorem displace_defs (victim : CallInstance) (s : State) : (displace victim s).calls.defs = s.calls.defs := by
  simp [displace]

@[simp] theorem abortSounding_defs (call : CallInstance) (copy : StartCopy) (s : State) :
    (abortSounding call copy s).calls.defs = s.calls.defs := by
  simp [abortSounding]

@[simp] theorem requeue_defs (call : CallInstance) (s : State) : (requeue call s).calls.defs = s.calls.defs := by
  simp only [requeue]
  split_ifs
  · simp
  · simp
  · split <;> simp

@[simp] theorem preempt_defs (priority : Nat) (s : State) : (preempt priority s).calls.defs = s.calls.defs := by
  simp only [preempt]
  split
  · split_ifs <;> simp
  · rfl

@[simp] theorem enqueueRequest_defs (id : Nat) (source : CallSource) (s : State) :
    (enqueueRequest id source s).calls.defs = s.calls.defs := by
  simp [enqueueRequest]

@[simp] theorem refuseRequest_defs (id : Nat) (source : CallSource) (reason : Result) (s : State) :
    (refuseRequest id source reason s).2.calls.defs = s.calls.defs := by
  simp only [refuseRequest]
  split_ifs <;> simp

/-- A request leaves the definitions of the calls, whatever comes of it (R174). -/
@[simp] theorem requestCall_defs (id : Nat) (source : CallSource) (s : State) :
    (requestCall id source s).2.calls.defs = s.calls.defs := by
  unfold requestCall
  split_ifs
  · simp
  · simp
  · simp
  · split <;> simp

/-! ## The fired marks of an announcement (R180) -/

/-- A definition after its anchor's announcement of a value: its fired mark is set where it is scheduled on both. -/
def CallEntry.announced (anchor : Anchor) (value : Nat) (e : CallEntry) : CallEntry :=
  { e with fired := e.fired || decide (e.defn.anchor = some anchor ∧ e.defn.offset = value) }

/-- An announcement met twice marks as one does. -/
@[simp] theorem CallEntry.announced_announced (anchor : Anchor) (value : Nat) (e : CallEntry) :
    (e.announced anchor value).announced anchor value = e.announced anchor value := by
  simp [CallEntry.announced]

/-- A definition that is scheduled on the announced value is marked. -/
theorem CallEntry.announced_fired {anchor : Anchor} {value : Nat} {e : CallEntry} (scheduled : e.defn.anchor = some anchor)
    (offset : e.defn.offset = value) : (e.announced anchor value).fired = true := by
  simp [CallEntry.announced, scheduled, offset]

/-- The definition of a call is read from the call table alone. -/
theorem callEntry_congr {s t : State} (h : s.calls.defs = t.calls.defs) (id : Nat) : callEntry s id = callEntry t id := by
  simp [callEntry, h]

@[simp] theorem callEntry_onPhase (f : PhaseUnit → PhaseUnit) (id : Nat) (s : State) :
    callEntry (s.onPhase f) id = callEntry s id := rfl

/-- A call id with a definition is a place of the call table. -/
theorem lt_of_callEntry {s : State} {id : Nat} {e : CallEntry} (h : callEntry s id = some e) : id < 32 := by
  by_contra outside
  simp [callEntry, Vector.getElem?_eq_none (Nat.le_of_not_lt outside)] at h

/-- Setting a fired mark replaces the definition's entry. -/
theorem setFired_of_callEntry {i : Nat} {e : CallEntry} {s : State} (h : callEntry s i = some e) (fired : Bool) :
    setFired fired i s =
      s.onCalls fun c => { c with defs := c.defs.setIfInBounds i (some { e with fired := fired }) } := by
  simp [setFired, h]

/-- Setting a fired mark changes the one definition. -/
theorem callEntry_setFired (fired : Bool) (i id : Nat) (s : State) :
    callEntry (setFired fired i s) id =
      if i = id then (callEntry s id).map fun e => { e with fired := fired } else callEntry s id := by
  cases hi : callEntry s i with
  | none =>
    by_cases same : i = id
    · subst same
      simp [setFired, hi]
    · simp [setFired, hi, same]
  | some e =>
    have place := lt_of_callEntry hi
    by_cases same : i = id
    · subst same
      rw [setFired_of_callEntry hi, if_pos rfl, hi]
      simp [callEntry, place]
    · rw [setFired_of_callEntry hi, if_neg same]
      simp [callEntry, same]

/-- One definition meets an announcement, and no other does. -/
theorem callEntry_fireSchedule (anchor : Anchor) (value i id : Nat) (s : State) :
    callEntry (fireSchedule anchor value i s) id =
      if i = id then (callEntry s id).map (CallEntry.announced anchor value) else callEntry s id := by
  have requested : callEntry (requestCall i .schedule s).2 id = callEntry s id :=
    callEntry_congr (requestCall_defs i .schedule s) id
  cases hi : callEntry s i with
  | none =>
    by_cases same : i = id
    · subst same
      simp [fireSchedule, hi]
    · simp [fireSchedule, hi, same]
  | some e =>
    by_cases fires : e.defn.scheduledOn anchor ∧ e.defn.offset = value ∧ ¬ e.fired
    · obtain ⟨scheduled, offset, fresh⟩ := fires
      have anchored : e.defn.anchor = some anchor := by simpa [CallDef.scheduledOn] using scheduled
      by_cases same : i = id
      · subst same
        simp [fireSchedule, hi, scheduled, offset, fresh, callEntry_setFired, requested, CallEntry.announced, anchored]
      · simp [fireSchedule, hi, scheduled, offset, fresh, callEntry_setFired, requested, same]
    · by_cases same : i = id
      · subst same
        have kept : e.announced anchor value = e := by
          cases e
          simp_all [CallEntry.announced, CallDef.scheduledOn]
        simp only [fireSchedule, hi, if_neg fires, if_pos, Option.map_some, kept]
      · simp only [fireSchedule, hi, if_neg fires, if_neg same]

/-- The definitions that a list of ids names meet the announcement. -/
theorem callEntry_forEach_fireSchedule (anchor : Anchor) (value id : Nat) (ids : List Nat) (s : State) :
    callEntry (forEach ids (fireSchedule anchor value) s) id =
      if id ∈ ids then (callEntry s id).map (CallEntry.announced anchor value) else callEntry s id := by
  induction ids generalizing s with
  | nil => rfl
  | cons i rest ih =>
    rw [forEach_cons, ih, callEntry_fireSchedule]
    by_cases first : i = id <;> by_cases later : id ∈ rest
    · simp [first, later, Function.comp_def]
    · simp [first, later]
    · simp [first, later]
    · simp [first, later, Ne.symm first]

/-- An announcement meets every definition of the call table (R180). -/
theorem callEntry_announce (anchor : Anchor) (value id : Nat) (s : State) :
    callEntry (announce anchor value s) id = (callEntry s id).map (CallEntry.announced anchor value) := by
  rw [announce, callEntry_forEach_fireSchedule]
  cases he : callEntry s id with
  | none => simp
  | some e => simp [lt_of_callEntry he]

/-- A call that is scheduled on the announced value has its fired mark set (R180). -/
theorem fired_announce {anchor : Anchor} {value id : Nat} {e : CallEntry} {s : State} (he : callEntry s id = some e)
    (scheduled : e.defn.anchor = some anchor) (offset : e.defn.offset = value) :
    (callEntry (announce anchor value s) id).any CallEntry.fired = true := by
  simp [callEntry_announce, he, CallEntry.announced_fired scheduled offset]

/-- An announcement leaves the performance record (R51). -/
theorem announce_record (anchor : Anchor) (value : Nat) (s : State) :
    (announce anchor value s).phase.record = s.phase.record :=
  sameBut_record (announce_frame anchor value s) (by decide)

@[simp] theorem announce_phase (anchor : Anchor) (value : Nat) (s : State) :
    (announce anchor value s).phase.phase = s.phase.phase := by
  simpa only [PhaseUnit.record] using congrArg PhaseUnit.phase (announce_record anchor value s)

@[simp] theorem announce_curtainUp (anchor : Anchor) (value : Nat) (s : State) :
    (announce anchor value s).phase.curtainUp = s.phase.curtainUp := by
  simpa only [PhaseUnit.record] using congrArg PhaseUnit.curtainUp (announce_record anchor value s)

@[simp] theorem announce_intervalLeft (anchor : Anchor) (value : Nat) (s : State) :
    (announce anchor value s).phase.intervalLeft = s.phase.intervalLeft := by
  simpa only [PhaseUnit.record] using congrArg PhaseUnit.intervalLeft (announce_record anchor value s)

/-! ## A wrap of the prescaler (R51, R52) -/

/-- A wrap that is due before the first act counts the curtain-up countdown down and announces it. -/
theorem prescalerWraps_curtainUp {s : State} {n : Nat} (wrap : s.phase.wrapDue = true)
    (h : s.phase.phase = .preshow ∨ s.phase.phase = .houseOpen) (counts : s.phase.curtainUp = n) (positive : 0 < n) :
    prescalerWraps s = announce .curtainUp (n - 1)
      (s.onPhase fun p => { p with wrapDue := false, curtainUp := n - 1 }) := by
  subst counts
  obtain h | h := h <;>
    simp only [prescalerWraps, if_pos wrap, wrapActs, State.onPhase_phase, h, if_pos positive] <;> rfl

/-- A wrap that is due in INTERVAL counts the interval countdown down and announces it. -/
theorem prescalerWraps_interval {s : State} {n : Nat} (wrap : s.phase.wrapDue = true) (h : s.phase.phase = .interval)
    (counts : s.phase.intervalLeft = n) (positive : 0 < n) :
    prescalerWraps s = announce .intervalEnd (n - 1)
      (s.onPhase fun p => { p with wrapDue := false, intervalLeft := n - 1 }) := by
  subst counts
  simp only [prescalerWraps, if_pos wrap, wrapActs, State.onPhase_phase, h, if_pos positive]
  rfl

/-- A wrap that is due in HELD sets the hold-pending second. -/
theorem prescalerWraps_held {s : State} (wrap : s.phase.wrapDue = true) (h : s.phase.phase = .held) :
    prescalerWraps s = s.onPhase fun p => { p with wrapDue := false, holdPending := true } := by
  simp only [prescalerWraps, if_pos wrap, wrapActs, State.onPhase_phase, h]
  rfl

theorem wrapActs_frame (s : State) : sameBut phaseParts s (wrapActs s) = true := by
  have counts (f : PhaseUnit → PhaseUnit) : sameBut phaseParts s (s.onPhase f) = true :=
    sameBut_mono (onPhase_frame s f) (by decide)
  have announces (anchor : Anchor) (value : Nat) (f : PhaseUnit → PhaseUnit) :
      sameBut phaseParts s (announce anchor value (s.onPhase f)) = true :=
    sameBut_trans (counts f) (sameBut_mono (announce_frame anchor value _) (by decide))
  unfold wrapActs
  split
  case h_1 | h_2 | h_4 =>
    split_ifs
    · exact announces _ _ _
    · exact sameBut_refl _ s
  case h_3 => exact counts _
  all_goals exact sameBut_refl _ s

/-- A wrap changes the performance record, and what its announcement can change (R51). -/
theorem prescalerWraps_frame (s : State) : sameBut phaseParts s (prescalerWraps s) = true := by
  unfold prescalerWraps
  split_ifs
  · exact sameBut_trans (sameBut_mono (onPhase_frame s _) (by decide)) (wrapActs_frame _)
  · exact sameBut_refl _ s

theorem wrapActs_phase (s : State) : (wrapActs s).phase.phase = s.phase.phase := by
  unfold wrapActs
  split
  case h_1 | h_2 | h_4 => split_ifs <;> simp
  all_goals rfl

/-- A wrap is no change of phase (R51). -/
@[simp] theorem prescalerWraps_phase (s : State) : (prescalerWraps s).phase.phase = s.phase.phase := by
  unfold prescalerWraps
  split_ifs
  · exact wrapActs_phase _
  · rfl

/-! ## An accepted command and its REPLY -/

/-- A command that is accepted stays so while the node, the profile and the supply stay (R10, R204). -/
theorem accepted_of_sameBut {changed : List Part} {s t : State} {h : CommandHeader} (same : sameBut changed s t = true)
    (receiver : Part.receiver ∉ changed) (command : Part.command ∉ changed) (powered : Part.powered ∉ changed)
    (a : accepted h s = true) : accepted h t = true := by
  have node : t.loop.node = s.loop.node := by
    simpa only [LoopPort.receiving] using congrArg LoopPort.node (sameBut_receiver same receiver)
  have profile : t.command.profile = s.command.profile := by
    simpa only [CommandUnit.managing] using congrArg CommandUnit.profile (sameBut_command same command)
  unfold accepted reachesUnit fromController State.numbered State.nodeByte at a ⊢
  rwa [node, profile, sameBut_powered same powered]

/-- A REPLY leaves the performance record (R205). -/
theorem replied_record (h : CommandHeader) (code : Byte) (answer : Answer) (t : State) :
    (replied h code answer t).phase.record = t.phase.record :=
  sameBut_record (replied_frame h code answer t) (by decide)

@[simp] theorem replied_phase (h : CommandHeader) (code : Byte) (answer : Answer) (t : State) :
    (replied h code answer t).phase.phase = t.phase.phase := by
  simpa only [PhaseUnit.record] using congrArg PhaseUnit.phase (replied_record h code answer t)

@[simp] theorem replied_curtainUp (h : CommandHeader) (code : Byte) (answer : Answer) (t : State) :
    (replied h code answer t).phase.curtainUp = t.phase.curtainUp := by
  simpa only [PhaseUnit.record] using congrArg PhaseUnit.curtainUp (replied_record h code answer t)

@[simp] theorem replied_intervalLeft (h : CommandHeader) (code : Byte) (answer : Answer) (t : State) :
    (replied h code answer t).phase.intervalLeft = t.phase.intervalLeft := by
  simpa only [PhaseUnit.record] using congrArg PhaseUnit.intervalLeft (replied_record h code answer t)

@[simp] theorem replied_wrapDue (h : CommandHeader) (code : Byte) (answer : Answer) (t : State) :
    (replied h code answer t).phase.wrapDue = t.phase.wrapDue := by
  simpa only [PhaseUnit.record] using congrArg PhaseUnit.wrapDue (replied_record h code answer t)

@[simp] theorem replied_calls (h : CommandHeader) (code : Byte) (answer : Answer) (t : State) :
    (replied h code answer t).calls = t.calls :=
  sameBut_calls (replied_frame h code answer t) (by decide)

@[simp] theorem replied_powered (h : CommandHeader) (code : Byte) (answer : Answer) (t : State) :
    (replied h code answer t).powered = t.powered :=
  sameBut_powered (replied_frame h code answer t) (by decide)

@[simp] theorem begin_phase (code : Byte) (h : CommandHeader) (s : State) : (begin code h s).phase = s.phase := rfl

@[simp] theorem begin_calls (code : Byte) (h : CommandHeader) (s : State) : (begin code h s).calls = s.calls := rfl

@[simp] theorem begin_powered (code : Byte) (h : CommandHeader) (s : State) : (begin code h s).powered = s.powered := rfl

theorem powered_of_accepted {h : CommandHeader} {s : State} (a : accepted h s = true) : s.powered = true := by
  simp only [accepted, Bool.and_eq_true] at a
  exact a.1.1

/-! ## The rows of STCD (R53) -/

section Rows

variable {value : Nat} {s : State}

theorem setCountdown_outOfRange (above : 7200 < value) : setCountdown value s = (.refusedRange, s.onPhase id) := by
  rw [setCountdown, if_pos above]
  rfl

theorem setCountdown_curtainUp (range : value ≤ 7200) (h : s.phase.phase = .preshow ∨ s.phase.phase = .houseOpen) :
    setCountdown value s = (.done, s.onPhase fun p => { p with curtainUp := value }) := by
  obtain h | h := h <;> simp [setCountdown, Nat.not_lt.2 range, h]

theorem setCountdown_held (range : value ≤ 7200) (h : s.phase.phase = .held) :
    setCountdown value s = (.done, s.onPhase fun p => { p with curtainUp := value, holdPending := false }) := by
  simp [setCountdown, Nat.not_lt.2 range, h]

theorem setCountdown_interval (range : value ≤ 3600) (h : s.phase.phase = .interval) :
    setCountdown value s = (.done, s.onPhase fun p => { p with intervalLeft := value }) := by
  have inRange : ¬ 7200 < value := by omega
  simp [setCountdown, inRange, h, range]

theorem setCountdown_intervalClamped (range : value ≤ 7200) (above : 3600 < value) (h : s.phase.phase = .interval) :
    setCountdown value s = (.doneClamped, s.onPhase fun p => { p with intervalLeft := 3600 }) := by
  simp [setCountdown, Nat.not_lt.2 range, h, Nat.not_le.2 above]

theorem setCountdown_noCountdown (range : value ≤ 7200)
    (h : s.phase.phase = .closed ∨ s.phase.phase = .running ∨ s.phase.phase = .egress ∨ s.phase.phase = .evacuating) :
    setCountdown value s = (.refusedState, s.onPhase id) := by
  obtain h | h | h | h := h <;> simp only [setCountdown, if_neg (Nat.not_lt.2 range), h] <;> rfl

end Rows

/-! ## STCD and a wrap taken close together (R53) -/

/-- The state that an STCD with this result and this change of the Phase Unit leaves. -/
def countdownSet (h : CommandHeader) (result : Result) (f : PhaseUnit → PhaseUnit) (s : State) : State :=
  replied h 0x24 (.plain result) ((begin 0x24 h s).onPhase f)

section Close

variable {h : CommandHeader} {s : State} {value : BitVec 16} {result : Result} {f : PhaseUnit → PhaseUnit}

/-- An accepted STCD makes the change of its row and is answered with its result. -/
theorem exec_stcd (a : accepted h s = true)
    (row : setCountdown value.toNat (begin 0x24 h s) = (result, (begin 0x24 h s).onPhase f)) :
    exec (.stcd h value) s = .next (countdownSet h result f s) := by
  have arm : exec (.stcd h value) s = whilePowered s (simple 0x24 h (setCountdown value.toNat)) := rfl
  rw [arm, whilePowered_of_powered (powered_of_accepted a), simple_accepted a, row]
  rfl

theorem exec_prescalerWrap (powered : s.powered = true) : exec .prescalerWrap s = .next (prescalerWraps s) :=
  whilePowered_of_powered powered prescalerWraps

@[simp] theorem callEntry_countdownSet (id : Nat) : callEntry (countdownSet h result f s) id = callEntry s id :=
  callEntry_congr (by simp [countdownSet]) id

/-- With the STCD first, the wrap acts on the countdown that it sets. -/
theorem run_stcd_wrap (a : accepted h s = true)
    (row : setCountdown value.toNat (begin 0x24 h s) = (result, (begin 0x24 h s).onPhase f)) :
    run [.stcd h value, .prescalerWrap] s = some (prescalerWraps (countdownSet h result f s)) := by
  have powered : (countdownSet h result f s).powered = true := by simpa [countdownSet] using powered_of_accepted a
  simp [run, exec_stcd a row, exec_prescalerWrap powered]

/-- With the wrap first, the STCD overwrites what the wrap has left. -/
theorem run_wrap_stcd (a : accepted h s = true)
    (row : setCountdown value.toNat (begin 0x24 h (prescalerWraps s)) =
      (result, (begin 0x24 h (prescalerWraps s)).onPhase f)) :
    run [.prescalerWrap, .stcd h value] s = some (countdownSet h result f (prescalerWraps s)) := by
  have still : accepted h (prescalerWraps s) = true :=
    accepted_of_sameBut (prescalerWraps_frame s) (by decide) (by decide) (by decide) a
  simp [run, exec_prescalerWrap (powered_of_accepted a), exec_stcd still row]

end Close

section Orders

variable {h : CommandHeader} {s : State} {value : BitVec 16}

/-- An STCD before the first act, and then the wrap: its value is decremented, and the new value announced. -/
theorem stcd_wrap_curtainUp (a : accepted h s = true) (wrap : s.phase.wrapDue = true) (positive : 0 < value.toNat)
    (range : value.toNat ≤ 7200) (phase : s.phase.phase = .preshow ∨ s.phase.phase = .houseOpen) :
    ∃ t, run [.stcd h value, .prescalerWrap] s = some t ∧ t.phase.curtainUp = value.toNat - 1 ∧
      ∀ id e, callEntry s id = some e → e.defn.anchor = some .curtainUp → e.defn.offset = value.toNat - 1 →
        (callEntry t id).any CallEntry.fired := by
  refine ⟨_, run_stcd_wrap a (setCountdown_curtainUp range phase), ?_⟩
  rw [prescalerWraps_curtainUp (n := value.toNat) (by simpa [countdownSet] using wrap)
    (by simpa [countdownSet] using phase) (by simp [countdownSet]) positive]
  exact ⟨by simp, fun id e he scheduled offset => fired_announce (by simpa using he) scheduled offset⟩

/-- An STCD in INTERVAL, and then the wrap: its value is decremented, and the new value announced. -/
theorem stcd_wrap_interval (a : accepted h s = true) (wrap : s.phase.wrapDue = true) (positive : 0 < value.toNat)
    (range : value.toNat ≤ 3600) (phase : s.phase.phase = .interval) :
    ∃ t, run [.stcd h value, .prescalerWrap] s = some t ∧ t.phase.intervalLeft = value.toNat - 1 ∧
      ∀ id e, callEntry s id = some e → e.defn.anchor = some .intervalEnd → e.defn.offset = value.toNat - 1 →
        (callEntry t id).any CallEntry.fired := by
  refine ⟨_, run_stcd_wrap a (setCountdown_interval range phase), ?_⟩
  rw [prescalerWraps_interval (n := value.toNat) (by simpa [countdownSet] using wrap)
    (by simpa [countdownSet] using phase) (by simp [countdownSet]) positive]
  exact ⟨by simp, fun id e he scheduled offset => fired_announce (by simpa using he) scheduled offset⟩

/-- An STCD in HELD, and then the wrap: the wrap sets the hold-pending second that the STCD cleared. -/
theorem stcd_wrap_held (a : accepted h s = true) (wrap : s.phase.wrapDue = true) (range : value.toNat ≤ 7200)
    (phase : s.phase.phase = .held) :
    ∃ t, run [.stcd h value, .prescalerWrap] s = some t ∧ t.phase.curtainUp = value.toNat ∧
      t.phase.holdPending = true := by
  refine ⟨_, run_stcd_wrap a (setCountdown_held range phase), ?_⟩
  rw [prescalerWraps_held (by simpa [countdownSet] using wrap) (by simpa [countdownSet] using phase)]
  simp [countdownSet]

/-- A wrap before the first act, and then the STCD: the countdown holds its value. -/
theorem wrap_stcd_curtainUp (a : accepted h s = true) (range : value.toNat ≤ 7200)
    (phase : s.phase.phase = .preshow ∨ s.phase.phase = .houseOpen) :
    ∃ t, run [.prescalerWrap, .stcd h value] s = some t ∧ t.phase.curtainUp = value.toNat :=
  ⟨_, run_wrap_stcd a (setCountdown_curtainUp range (by simpa using phase)), by simp [countdownSet]⟩

/-- A wrap in INTERVAL, and then the STCD: the countdown holds its value. -/
theorem wrap_stcd_interval (a : accepted h s = true) (range : value.toNat ≤ 3600) (phase : s.phase.phase = .interval) :
    ∃ t, run [.prescalerWrap, .stcd h value] s = some t ∧ t.phase.intervalLeft = value.toNat :=
  ⟨_, run_wrap_stcd a (setCountdown_interval range (by simpa using phase)), by simp [countdownSet]⟩

end Orders

/-! ## The obligation -/

/-- Settles O48: the rows of R53 by the equations of `setCountdown`, the orders of a wrap and an STCD by the runs of both. -/
theorem setCountdownFollowsItsTable : Obligations.SetCountdownFollowsItsTable := by
  intro h s value a
  refine ⟨fun above => exec_stcd a (setCountdown_outOfRange above), fun range => ⟨?_, ?_, ?_, ?_, ?_⟩,
    fun wrap positive range => ⟨fun phase => ⟨?_, ?_⟩, fun phase le => ⟨?_, ?_⟩, fun phase => ?_⟩⟩
  · exact fun phase => exec_stcd a (setCountdown_curtainUp range phase)
  · exact fun phase => exec_stcd a (setCountdown_held range phase)
  · exact fun phase le => exec_stcd a (setCountdown_interval le phase)
  · exact fun phase above => exec_stcd a (setCountdown_intervalClamped range above phase)
  · exact fun phase => exec_stcd a (setCountdown_noCountdown range phase)
  · exact stcd_wrap_curtainUp a wrap positive range phase
  · exact wrap_stcd_curtainUp a range phase
  · exact stcd_wrap_interval a wrap positive le phase
  · exact wrap_stcd_interval a le phase
  · exact stcd_wrap_held a wrap range phase

end Sys2Proof.Machine
end

section
/-! SUPPORT. The raw speed of a report and the prediction from it (R152, R154), case by case, and the obligation O31 assembled
from them. -/

namespace Sys2Proof.Machine

/-! ## The raw speed (R152) -/

theorem clampSpeed_nonpos {v : Int} (h : v ≤ 0) : clampSpeed v ≤ 0 := by
  simp only [clampSpeed]
  omega

theorem clampSpeed_neg {v : Int} (h : v < 0) : clampSpeed v < 0 := by
  simp only [clampSpeed]
  omega

/-- The quotient of a report above its reference: truncation toward zero is the floor of the rise, negated. -/
theorem tdiv_rising {dp : Int} (rising : dp < 0) (dt : Nat) :
    Int.tdiv (dp * 16000) dt = -((-dp * 16000) / dt) := by
  have rise : 0 ≤ -dp * 16000 := by omega
  rw [← Int.tdiv_eq_ediv_of_nonneg rise, ← Int.neg_tdiv, Int.neg_mul, Int.neg_neg]

theorem rawSpeed_nonpos {dp : Int} (rising : dp < 0) (dt : Nat) : rawSpeed dp dt ≤ 0 := by
  have rise : 0 ≤ (-dp * 16000) / (dt : Int) := Int.ediv_nonneg (by omega) (by omega)
  exact clampSpeed_nonpos (by rw [tdiv_rising rising]; omega)

/-- Within 16 s even a rise of one count is a whole unit of speed, so the truncation does not lose it. -/
theorem rawSpeed_neg {dp : Int} {dt : Nat} (rising : dp < 0) (positive : 1 ≤ dt) (soon : dt ≤ 16000) :
    rawSpeed dp dt < 0 := by
  have unit : 1 ≤ (-dp * 16000) / (dt : Int) := (Int.le_ediv_iff_mul_le (by omega)).2 (by omega)
  exact clampSpeed_neg (by rw [tdiv_rising rising]; omega)

@[simp] theorem rawSpeed_zero (dt : Nat) : rawSpeed 0 dt = 0 := by simp [rawSpeed, clampSpeed]

/-! ## The prediction (R154) -/

section Prediction
variable {minSpeed position : Nat} {e : Estimator}

theorem predict_floor (floor : position = 0) :
    predict minSpeed position e = { e with predicted := 0, noProgress := false } := if_pos floor

theorem predict_noProgress (above : position ≠ 0) (slow : e.speed ≤ minSpeed) :
    predict minSpeed position e = { e with predicted := 65535, noProgress := true } :=
  (if_neg above).trans (if_pos slow)

theorem predict_credible {v : Nat} (above : position ≠ 0) (speed : e.speed = v) (credible : minSpeed < v) :
    predict minSpeed position e = { e with predicted := min 65535 (position * 16000 / v), noProgress := false } := by
  have fast : ¬ e.speed ≤ minSpeed := by omega
  have exact_speed : e.speed.toNat = v := by omega
  rw [predict, if_neg above, if_neg fast, exact_speed]

/-- No descent limit in range reaches a saturated prediction, so past the start grace the report is LATE. -/
theorem isLate_of_saturated {p : Profile} {elapsed : Nat} (limit : p.descentLimit ≤ 60000)
    (grace : p.startGrace ≤ elapsed) (saturated : e.predicted = 65535) : isLate p elapsed e = true :=
  decide_eq_true ⟨grace, by omega⟩

end Prediction

/-! ## The obligation -/

/-- Settles O31: the cases of R152 from the sign of the exact quotient, those of R154 by the equations of `predict`. -/
theorem estimatorSpeedAndPrediction : Obligations.EstimatorSpeedAndPrediction := by
  refine ⟨fun dp dt low high positive => ⟨rfl, by omega, by omega, ?_, ?_, rawSpeed_zero dt⟩, by decide,
    fun minSpeed position e _ range => ⟨by omega, predict_floor, predict_noProgress, ?_, ?_⟩⟩
  · exact fun rising => rawSpeed_nonpos rising dt
  · exact fun rising soon => rawSpeed_neg rising positive soon
  · exact fun p elapsed limit grace saturated => isLate_of_saturated limit grace saturated
  · exact fun v above speed credible => predict_credible above speed credible

end Sys2Proof.Machine
end

section
/-! SUPPORT. What ACKA does to the attention set, flag by flag (R216), and the obligation O41 assembled from it. -/

namespace Sys2Proof.Machine

/-! ## The clearing of a mask (R216) -/

/-- A flag that is set survives exactly when the mask does not name it or its new mark is set. -/
theorem getLsbD_clearAcknowledged (mask : BitVec 16) (s : State) {i : Nat} (range : i < 16) :
    (clearAcknowledged mask s).command.attention.getLsbD i =
      (s.command.attention.getLsbD i && !(mask.getLsbD i && !s.command.newMarks.getLsbD i)) := by
  simp [clearAcknowledged, range]

/-- The clearing and the report after it change the flags and the new marks alone. -/
theorem reportAttention_clearAcknowledged (mask : BitVec 16) (s : State) :
    reportAttention (clearAcknowledged mask s) =
      s.onCommand fun c =>
        { c with attention := (clearAcknowledged mask s).command.attention, newMarks := 0 } := rfl

/-! ## The command -/

/-- The command in progress has no part in the clearing. -/
theorem clearAcknowledged_attention_begin (code : Byte) (h : CommandHeader) (mask : BitVec 16) (s : State) :
    (clearAcknowledged mask (begin code h s)).command.attention = (clearAcknowledged mask s).command.attention := rfl

/-- An accepted ACKA clears, answers with the set that is left, and clears every new mark. -/
theorem runAcka_accepted {h : CommandHeader} {s : State} (mask : BitVec 16) (a : accepted h s = true) :
    runAcka h mask s =
      replied h 0x02 { result := .done, data := bytes2 (clearAcknowledged mask s).command.attention.toNat }
        (reportAttention (clearAcknowledged mask (begin 0x02 h s))) := by
  rw [← clearAcknowledged_attention_begin 0x02 h mask s]
  exact execute_accepted a rfl (by simp [Checks.plain]) (by simp [Checks.plain])

theorem exec_acka {h : CommandHeader} {s : State} (mask : BitVec 16) (powered : s.powered = true) :
    exec (.acka h mask) s = .next (runAcka h mask s) :=
  whilePowered_of_powered powered (runAcka h mask)

/-! ## The obligation -/

/-- Settles O41: the set that is left is the one of `clearAcknowledged`, read bit by bit. -/
theorem ackaClearsReportedFlags : Obligations.AckaClearsReportedFlags := by
  intro h s mask a
  refine ⟨(clearAcknowledged mask s).command.attention, fun i range => getLsbD_clearAcknowledged mask s range, ?_⟩
  rw [exec_acka mask (powered_of_accepted a), runAcka_accepted mask a, reportAttention_clearAcknowledged,
    clearAcknowledged_attention_begin]

end Sys2Proof.Machine
end

section
/-! SUPPORT. What a command can do to the state, said once. Every command is a chain of small changes, each of one kind and each
within the bounds that its block keeps; an invariant of every kind of change is then one of every command. -/

namespace Sys2Proof.Machine

/-! ## The small changes -/

/-- The kinds of small change. -/
inductive Kind where
  /-- The Loop Port Unit. -/
  | loop
  | lines
  /-- The phase, its held-from and saved phases, and the act. -/
  | place
  /-- The countdowns, the prescaler, the hold-pending second and show stop. -/
  | counts
  /-- The demonstration's status and descent time. -/
  | demo
  | report
  /-- The record as BGPF leaves it, its report empty. -/
  | emptied
  | cues
  /-- The House Light Unit but for K4. -/
  | lights
  | k4
  /-- The Zone Monitor but for the alarm condition record. -/
  | zones
  /-- The alarm condition record. -/
  | alarm
  /-- The Curtain Supervisor but for the position report and the stage-side value. -/
  | curtain
  /-- The report of a POS frame. -/
  | position
  /-- The stage-side value, K6 and the flow timer. -/
  | stage
  | calls
  | bells
  /-- The attention set, but for its acknowledgement. -/
  | attention
  /-- The acknowledgement of flags. -/
  | acked
  /-- The Command Unit but for the attention set and the store. -/
  | command
  | store
  | clock
  deriving DecidableEq

/-- What a change of the Loop Port Unit keeps: a queue or a count grows within its capacity alone, and K7 follows the ring
state (R9, R13, R14, R18, R21). -/
structure LoopStep (l m : LoopPort) : Prop where
  badFrames : m.badFrames ≤ max 8 l.badFrames
  forward : m.forward.length ≤ max 8 l.forward.length
  origin : m.origin.length ≤ max 16 l.origin.length
  forwardRun : m.forwardRun ≤ max 4 l.forwardRun
  healthy : (m.ring = l.ring ∧ m.k7 = l.k7) ∨ m.k7 = decide (m.ring = .ok)

/-- What a change of the countdowns keeps: the place in the performance, the demonstration and the report, and the ranges of
the counts; show stop is not set in CLOSED (R36, R50, R54). -/
structure CountsStep (p q : PhaseUnit) : Prop where
  place : q.phase = p.phase ∧ q.heldFrom = p.heldFrom ∧ q.saved = p.saved ∧ q.act = p.act
  demo : q.demoStatus = p.demoStatus ∧ q.demoTime = p.demoTime
  report : q.report = p.report ∧ q.lost = p.lost
  curtainUp : q.curtainUp ≤ max 7200 p.curtainUp
  intervalLeft : q.intervalLeft ≤ max 3600 p.intervalLeft
  prescaler : q.prescaler ≤ max 999 p.prescaler
  showStop : q.showStop = true → p.showStop = true ∨ p.phase ≠ .closed

/-- What a change of the place in the performance keeps: the demonstration, the report and the prescaler. -/
structure PlaceStep (p q : PhaseUnit) : Prop where
  demo : q.demoStatus = p.demoStatus ∧ q.demoTime = p.demoTime
  report : q.report = p.report ∧ q.lost = p.lost
  prescaler : q.prescaler = p.prescaler

/-- What a change of the report keeps: no entry of a safety kind is lost, and it grows within its capacity alone (R57). -/
structure ReportStep (p q : PhaseUnit) : Prop where
  record : q.record = p.record
  safety : ∀ e : ReportEntry, e.kind.safety = true → p.report.count e ≤ q.report.count e
  length : q.report.length ≤ max 128 p.report.length
  lost : q.lost ≤ max 255 p.lost

/-- The record that BGPF leaves in CLOSED (R38). -/
def PhaseUnit.begun (number countdown : Nat) (p : PhaseUnit) : PhaseUnit :=
  { p with
    report := []
    lost := 0
    fullMarker := false
    number := number
    act := 0
    curtainUp := countdown
    intervalLeft := 0
    demoStatus := .notDone
    demoTime := 0 }

/-- The estimator's fields are within their ranges (R149). -/
def Estimator.inRange (e : Estimator) : Prop :=
  -32768 ≤ e.speed ∧ e.speed ≤ 32767 ∧ e.predicted ≤ 65535 ∧ e.late ≤ 8

/-- The estimator's fields and the last descent time are within their ranges (R125, R149). -/
def Curtain.inRange (c : Curtain) : Prop := c.estimator.inRange ∧ c.lastDescent ≤ 65535

/-- What a change of the curtain record keeps, the demonstration's raise and the alarm's included: the stage-side value, the
drive flags, the legal combinations and ranges, K5, and a raise driven by the part is begun only where R137 allows it. -/
structure CurtainStep (s : State) (c d : Curtain) : Prop where
  stage : d.stageAlarm = c.stageAlarm ∧ d.k6 = c.k6
  flags : d.flags = c.flags
  legal : curtainLegal c = true → curtainLegal d = true
  range : c.inRange → d.inRange
  k5 : (d.state = c.state ∧ d.k5 = c.k5) ∨ d.k5 = decide (d.state = .released)
  raising : d.state = .raising →
    c.state = .raising ∨ c.flags.localControl = true ∨ (c.stageAlarm = false ∧ s.phase.phase ≠ .evacuating)

/-- A generator's relay is energised in RING alone, and it holds a pattern exactly while it is not IDLE (R194, R196). -/
def Generator.sound (g : Generator) : Prop :=
  g.relay = decide (g.state = .ring) ∧ g.latched.isSome = decide (g.state ≠ .idle)

/-- A generator is the one it was, or a sound one. -/
def BellsStep (b c : Bells) : Prop :=
  ∀ (i : Nat) (g : Generator), c.generators[i]? = some g → b.generators[i]? = some g ∨ g.sound

/-- A group is the one it was, or legal if the one before was (R81). -/
structure LightsStep (l m : HouseLights) : Prop where
  k4 : m.k4 = l.k4
  groups : ∀ (i : Nat) (g : Group), m.groups[i]? = some g → ∃ h : Group, l.groups[i]? = some h ∧
    (h.legal = true → g.legal = true)

/-- A small change of a kind. -/
inductive Micro : Kind → State → State → Prop
  | loop {s : State} {f : LoopPort → LoopPort} (h : LoopStep s.loop (f s.loop)) : Micro .loop s (s.onLoop f)
  | lines (s : State) (f : Vector Line 8 → Vector Line 8) : Micro .lines s (s.onLines f)
  | place {s : State} {f : PhaseUnit → PhaseUnit} (h : PlaceStep s.phase (f s.phase)) : Micro .place s (s.onPhase f)
  | counts {s : State} {f : PhaseUnit → PhaseUnit} (h : CountsStep s.phase (f s.phase)) : Micro .counts s (s.onPhase f)
  | demoStatus {s : State} {status : DemoStatus}
      (h : status.inProgress = true → s.phase.demoStatus.inProgress = true ∨ s.zones.alarm.confirmed = []) :
      Micro .demo s (setDemoStatus status s)
  | demoTime (s : State) : Micro .demo s (s.onPhase fun p => { p with demoTime := s.curtain.lastDescent })
  | report {s : State} {f : PhaseUnit → PhaseUnit} (h : ReportStep s.phase (f s.phase)) : Micro .report s (s.onPhase f)
  | emptied {s : State} (number : Nat) {countdown : Nat} (h : countdown ≤ 7200) :
      Micro .emptied s (s.onPhase (PhaseUnit.begun number countdown))
  | cues (s : State) (f : CueUnit → CueUnit) : Micro .cues s (s.onCues f)
  | lights {s : State} {f : HouseLights → HouseLights} (h : LightsStep s.lights (f s.lights)) : Micro .lights s (s.onLights f)
  | k4 (s : State) : Micro .k4 s (deriveK4 s)
  | zones {s : State} {f : ZoneMonitor → ZoneMonitor} (alarm : (f s.zones).alarm = s.zones.alarm)
      (timers : zoneTimersRun s = true → zoneTimersRun (s.onZones f) = true) : Micro .zones s (s.onZones f)
  | alarm (s : State) (a : AlarmRecord) : Micro .alarm s (s.onZones fun m => { m with alarm := a })
  | curtain {s : State} {f : Curtain → Curtain} (h : CurtainStep s s.curtain (f s.curtain)) : Micro .curtain s (s.onCurtain f)
  | position (position : Nat) (flags : DriveFlags) (s : State) : Micro .position s (takePosition position flags s)
  | stage (value : Bool) (timer : Option Timer) (s : State) :
      Micro .stage s (s.onCurtain fun c => { c with stageAlarm := value, k6 := value, flowTimer := timer })
  | calls {s : State} {f : CallUnit → CallUnit} (h : (f s.calls).queue.length ≤ max 16 s.calls.queue.length) :
      Micro .calls s (s.onCalls f)
  | bells {s : State} {f : Bells → Bells} (h : BellsStep s.bells (f s.bells)) : Micro .bells s (s.onBells f)
  | attention {s : State} {f : CommandUnit → CommandUnit} (same : (f s.command).managing = s.command.managing)
      (marks : marksOnFlags s = true → marksOnFlags (s.onCommand f) = true)
      (grows : ∀ i, s.command.attention.getLsbD i = true → (f s.command).attention.getLsbD i = true) :
      Micro .attention s (s.onCommand f)
  | acknowledged (mask : BitVec 16) (s : State) : Micro .acked s (clearAcknowledged mask s)
  | command {s : State} {f : CommandUnit → CommandUnit} (attention : (f s.command).attention = s.command.attention)
      (marks : (f s.command).newMarks = s.command.newMarks) (store : (f s.command).store = s.command.store) :
      Micro .command s (s.onCommand f)
  | storeBegun (h : CommandHeader) (s : State) : Micro .store s (startStore h s)
  | storeDone (image : StoredImage) (s : State) :
      Micro .store s { s.onCommand fun c => { c with store := none } with stored := some image }
  | clock (s : State) : Micro .clock s { s with clock := s.clock + 1 }

/-! ## Chains -/

/-- A chain of small changes of these kinds. -/
def Chain (kinds : List Kind) : State → State → Prop :=
  Relation.ReflTransGen fun s t => ∃ k ∈ kinds, Micro k s t

variable {kinds : List Kind} {s t u : State}

@[refl] theorem Chain.refl (s : State) : Chain kinds s s := Relation.ReflTransGen.refl

theorem Chain.trans (h : Chain kinds s t) (k : Chain kinds t u) : Chain kinds s u := Relation.ReflTransGen.trans h k

theorem Chain.one {k : Kind} (h : Micro k s t) (hk : k ∈ kinds) : Chain kinds s t :=
  Relation.ReflTransGen.single ⟨k, hk, h⟩

theorem Chain.mono {more : List Kind} (h : Chain kinds s t) (sub : kinds ⊆ more) : Chain more s t :=
  Relation.ReflTransGen.mono (fun _ _ ⟨k, hk, step⟩ => ⟨k, sub hk, step⟩) _ _ h

/-- What every small change of these kinds keeps, a chain of them keeps. -/
theorem Chain.keeps {P : State → Prop} (h : Chain kinds s t) (step : ∀ k ∈ kinds, ∀ s t, Micro k s t → P s → P t) (hs : P s) :
    P t := by
  induction h with
  | refl => exact hs
  | tail _ last ih =>
    obtain ⟨k, hk, micro⟩ := last
    exact step k hk _ _ micro ih

/-- A chain for each element is one for them all. -/
theorem forEach_chain {α : Type} {f : α → State → State} (items : List α) (h : ∀ a ∈ items, ∀ t, Chain kinds t (f a t))
    (s : State) : Chain kinds s (forEach items f s) :=
  forEach_induction (Chain kinds s) f items s (fun a ha t ht => ht.trans (h a ha t)) (Chain.refl s)

/-- The kinds of change but for those of the countdowns, the lines, the store and the clock, of a change of phase, of a zone or
the alarm condition, and of a position report. -/
def calm : List Kind := [.loop, .demo, .report, .cues, .lights, .curtain, .calls, .bells, .attention, .command]

/-- The kinds of change in a zone's or a window's record. -/
def zoneKinds : List Kind := [.zones, .report, .attention]

/-- The calm kinds, and the countdowns. -/
def routine : List Kind := .counts :: calm

/-- The kinds of change of the lines, the store and the clock, and the acknowledgement of flags. -/
def apartKinds : List Kind := [.lines, .store, .clock, .acked]

/-- The kinds of change of a command that leaves the report's entries. -/
def usual : List Kind := routine ++ apartKinds ++ [.place, .k4, .zones, .alarm, .position, .stage]

/-- Every kind of change. -/
def whole : List Kind := .emptied :: usual

end Sys2Proof.Machine
end

section
/-! SUPPORT. The shared operations as chains of small changes: the attention set, the report, frames offered, the Call Unit and the
Bell Generators (chapters 1, 3, 9, 10 and 11). -/

namespace Sys2Proof.Machine

variable {kinds : List Kind}

/-! ## The attention set (R215, R216) -/

/-- New marks stand on set flags alone, bit by bit. -/
theorem marksOnFlags_iff {s : State} :
    marksOnFlags s = true ↔
      ∀ i, s.command.newMarks.getLsbD i = true → s.command.attention.getLsbD i = true := by
  simp only [marksOnFlags, decide_eq_true_eq]
  constructor
  · intro h i hi
    have bit := congrArg (fun x => BitVec.getLsbD x i) h
    have := BitVec.lt_of_getLsbD hi
    simpa [hi, this] using bit
  · intro h
    refine BitVec.eq_of_getLsbD_eq fun i hi => ?_
    have := h i
    cases hn : s.command.newMarks.getLsbD i <;> simp_all

theorem setAttention_chain (hk : .attention ∈ kinds) (flag : Flag) (s : State) : Chain kinds s (setAttention flag s) := by
  refine .one (.attention rfl (fun h => ?_) fun i set_ => ?_) hk
  · rw [marksOnFlags_iff] at h ⊢
    intro i
    have := h i
    simp only [State.onCommand_command, BitVec.getLsbD_or, Bool.or_eq_true]
    exact Or.imp_left this
  · rw [BitVec.getLsbD_or, set_, Bool.true_or]

theorem reportAttention_chain (s : State) : Chain calm s (reportAttention s) :=
  .one (.attention rfl (fun _ => by simp [marksOnFlags]) fun _ => id) (by decide)

/-- A flag that is cleared has no new mark. -/
theorem clearAcknowledged_marks (mask : BitVec 16) {s : State} (h : marksOnFlags s = true) :
    marksOnFlags (clearAcknowledged mask s) = true := by
  rw [marksOnFlags_iff] at h ⊢
  intro i hi
  have marked : s.command.newMarks.getLsbD i = true := hi
  have := BitVec.lt_of_getLsbD marked
  simp [clearAcknowledged, h i marked, marked, this]

/-! ## The report (R57, R58) -/

/-- Dropping the oldest entry that is of no safety kind leaves every safety entry. -/
theorem count_dropOldestOther {e : ReportEntry} (safe : e.kind.safety = true) (entries : List ReportEntry) :
    (dropOldestOther entries).count e = entries.count e := by
  induction entries with
  | nil => rfl
  | cons x rest ih =>
    by_cases hx : x.kind.safety = true
    · have keep : dropOldestOther (x :: rest) = x :: dropOldestOther rest := by simp [dropOldestOther, hx]
      rw [keep, List.count_cons, List.count_cons, ih]
    · have drop : dropOldestOther (x :: rest) = rest := by simp [dropOldestOther, hx]
      have other : x ≠ e := fun h => hx (h ▸ safe)
      simp [drop, other]

/-- Where the report holds an entry of no safety kind, dropping the oldest one takes one entry away. -/
theorem length_dropOldestOther {entries : List ReportEntry} (h : entries.any (fun e => !e.kind.safety) = true) :
    (dropOldestOther entries).length + 1 = entries.length := by
  obtain ⟨e, he, other⟩ := List.any_eq_true.1 h
  have one : (dropOldestOther entries).length = entries.length - 1 := List.length_eraseP_of_mem he other
  have := List.length_pos_of_mem he
  omega

theorem markFull_chain (hr : .report ∈ kinds) (ha : .attention ∈ kinds) (s : State) : Chain kinds s (markFull s) := by
  unfold markFull
  split_ifs
  · exact .refl s
  · have marked : ReportStep s.phase { s.phase with fullMarker := true } :=
      ⟨rfl, fun _ _ => Nat.le_refl _, Nat.le_max_right _ _, Nat.le_max_right _ _⟩
    exact (Chain.one (.report (f := fun p => { p with fullMarker := true }) marked) hr).trans
      (setAttention_chain ha _ _)

theorem appendEntry_chain (hr : .report ∈ kinds) (ha : .attention ∈ kinds) (entry : ReportEntry) (s : State) :
    Chain kinds s (appendEntry entry s) := by
  unfold appendEntry
  split_ifs with room other
  · refine .one (.report ⟨rfl, fun e _ => by simp, ?_, Nat.le_max_right _ _⟩) hr
    simp only [Config.reportCapacity] at room
    simp only [List.length_append, List.length_singleton]
    omega
  · refine (Chain.one (.report ⟨rfl, fun e safe => ?_, ?_, Nat.le_max_right _ _⟩) hr).trans (markFull_chain hr ha _)
    · simp [count_dropOldestOther safe]
    · have := length_dropOldestOther (Bool.and_eq_true_iff.1 other).2
      simp only [List.length_append, List.length_singleton]
      omega
  · refine (Chain.one (.report ⟨rfl, fun _ _ => Nat.le_refl _, Nat.le_max_right _ _, ?_⟩) hr).trans
      (markFull_chain hr ha _)
    change min 255 (s.phase.lost + 1) ≤ _
    omega

theorem report_chain (hr : .report ∈ kinds) (ha : .attention ∈ kinds) (kind : ReportKind) (data : List Byte) (s : State) :
    Chain kinds s (report kind data s) := appendEntry_chain hr ha _ s

/-- An entry offered is a calm change. -/
theorem report_calm (kind : ReportKind) (data : List Byte) (s : State) : Chain calm s (report kind data s) :=
  report_chain (by decide) (by decide) kind data s

theorem setAttention_calm (flag : Flag) (s : State) : Chain calm s (setAttention flag s) :=
  setAttention_chain (by decide) flag s

/-! ## Frames offered (R13 to R19) -/

/-- The policy table alone changes. -/
theorem policy_chain (s : State) (f : List PolicyEntry → List PolicyEntry) :
    Chain calm s (s.onLights fun l => { l with policy := f l.policy }) :=
  .one (.lights ⟨rfl, fun _ g hg => ⟨g, hg, id⟩⟩) (by decide)

theorem noteOutputs_chain (payload : List Byte) (s : State) : Chain calm s (noteOutputs payload s) := by
  unfold noteOutputs
  split
  · exact .refl s
  · exact policy_chain s _

/-- What the arbiter selects leaves its queue, and the forward-run count is at most 4 (R18). -/
theorem select_bounds {l : LoopPort} {sel : Selection} (h : select l = some sel) :
    sel.forward.length ≤ l.forward.length ∧ sel.origin.length ≤ l.origin.length ∧ sel.run ≤ 4 := by
  unfold select at h
  split at h <;> simp_all only [Option.some.injEq, reduceCtorEq]
  · subst h
    exact ⟨Nat.le_refl _, List.length_eraseP_le, Nat.zero_le _⟩
  · subst h
    simp
  · split at h <;> (simp only [Option.some.injEq] at h; subst h; simp <;> omega)
  · subst h
    simp

theorem sendOutputs_chain (frame : Frame) (s : State) : Chain calm s (sendOutputs frame s) := by
  unfold sendOutputs
  split_ifs
  · exact noteOutputs_chain _ s
  · exact .refl s

theorem startSend_chain {sel : Selection} {s : State} (h : select s.loop = some sel) : Chain calm s (startSend sel s) := by
  obtain ⟨forward, origin, run⟩ := select_bounds h
  exact Chain.trans
    (.one (.loop ⟨Nat.le_max_right _ _, le_trans forward (Nat.le_max_right _ _), le_trans origin (Nat.le_max_right _ _),
      le_trans run (Nat.le_max_left _ _), .inl ⟨rfl, rfl⟩⟩) (by decide))
    (sendOutputs_chain sel.frame _)

theorem arbitrate_chain (s : State) : Chain calm s (arbitrate s) := by
  unfold arbitrate
  split
  · exact .refl s
  · split
    · exact .refl s
    · next h => exact startSend_chain h

theorem sendCompletion_chain (s : State) : Chain calm s (sendCompletion s) := by
  unfold sendCompletion
  split_ifs
  · exact (Chain.one (.loop ⟨Nat.le_max_right _ _, Nat.le_max_right _ _, Nat.le_max_right _ _, Nat.le_max_right _ _,
      .inl ⟨rfl, rfl⟩⟩) (by decide)).trans (arbitrate_chain _)
  · exact .refl s

@[simp] theorem length_coalesce (offered : OriginFrame) (queue : List OriginFrame) :
    (coalesce offered queue).length = queue.length := by
  induction queue with
  | nil => rfl
  | cons q rest ih =>
    unfold coalesce
    split_ifs <;> simp [ih]

/-- A new origin queue within the capacity. -/
theorem origin_chain {s : State} {f : LoopPort → List OriginFrame}
    (h : (f s.loop).length ≤ max 16 s.loop.origin.length) :
    Chain calm s (s.onLoop fun l => { l with origin := f l }) :=
  .one (.loop ⟨Nat.le_max_right _ _, Nat.le_max_right _ _, h, Nat.le_max_right _ _, .inl ⟨rfl, rfl⟩⟩) (by decide)

theorem joinOrigin_chain (offered : OriginFrame) (s : State) : Chain calm s (joinOrigin offered s) := by
  unfold joinOrigin
  split_ifs with _ room plain
  · exact origin_chain (by simp)
  · refine origin_chain ?_
    simp only [Config.originCapacity] at room
    simp only [List.length_append, List.length_singleton]
    omega
  · refine (origin_chain ?_).trans (setAttention_calm _ _)
    obtain ⟨q, hq, other⟩ := List.any_eq_true.1 plain
    have one := List.length_eraseP_of_mem (p := fun q => !q.urgent) hq other
    have := List.length_pos_of_mem hq
    simp only [List.length_append, List.length_singleton]
    omega
  · exact setAttention_calm _ s

theorem offer_chain (kind dest : Byte) (payload : List Byte) (urgent : Bool) (s : State) :
    Chain calm s (offer kind dest payload urgent s) := by
  unfold offer
  split_ifs
  · exact (joinOrigin_chain _ s).trans (arbitrate_chain _)
  · exact .refl s

theorem notice_chain (urgent : Bool) (s : State) : Chain calm s (notice urgent s) :=
  (reportAttention_chain s).trans (offer_chain _ _ _ _ _)

theorem offerForward_chain (frame : Frame) (s : State) : Chain calm s (offerForward frame s) := by
  unfold offerForward
  split_ifs with room
  · refine (Chain.one (.loop ⟨Nat.le_max_right _ _, ?_, Nat.le_max_right _ _, Nat.le_max_right _ _, .inl ⟨rfl, rfl⟩⟩)
      (by decide)).trans (arbitrate_chain _)
    simp only [Config.forwardCapacity] at room
    simp only [List.length_append, List.length_singleton]
    omega
  · exact setAttention_calm _ s

/-- A change of the Command Unit that leaves the attention set and the store. -/
theorem command_chain {s : State} {f : CommandUnit → CommandUnit} (attention : (f s.command).attention = s.command.attention)
    (marks : (f s.command).newMarks = s.command.newMarks) (store : (f s.command).store = s.command.store) :
    Chain calm s (s.onCommand f) := .one (.command attention marks store) (by decide)

theorem noticeExpiry_chain (s : State) : Chain calm s (noticeExpiry s) := by
  unfold noticeExpiry
  split_ifs
  · exact (command_chain rfl rfl rfl).trans (notice_chain _ _)
  · exact .refl s

theorem refreshSegment_chain (segment : Nat) (s : State) : Chain calm s (refreshSegment segment s) := by
  unfold refreshSegment
  split
  · exact .refl s
  · exact offer_chain _ _ _ _ s

theorem refreshCheck_chain (s : State) : Chain calm s (refreshCheck s) := by
  unfold refreshCheck
  split_ifs
  · exact (Chain.one (.lights ⟨rfl, fun _ g hg => ⟨g, hg, id⟩⟩) (by decide)).trans
      (forEach_chain _ (fun a _ t => refreshSegment_chain a t) _)
  · exact .refl s

/-! ## The Bell Generators (R195 to R197) -/

theorem setGenerator_chain {g : Generator} (sound : g.sound) (b : Nat) (s : State) : Chain calm s (setGenerator b g s) := by
  refine .one (.bells fun i h hi => ?_) (by decide)
  by_cases same : b = i
  · subst same
    have : b < 4 := by
      by_contra out
      simp [out] at hi
    simp [this] at hi
    exact .inr (hi ▸ sound)
  · simp [same] at hi
    exact .inl hi

theorem sound_initial : Generator.initial.sound := ⟨rfl, rfl⟩

theorem sound_ringing (latched : Latched) (r k : Nat) (s : State) : (ringing latched r k s).sound := ⟨rfl, rfl⟩

theorem startGenerator_chain (number : Nat) (pattern : Pattern) (b : Nat) (s : State) :
    Chain calm s (startGenerator number pattern b s) := setGenerator_chain (sound_ringing _ _ _ s) b s

theorem stopGenerator_chain (b : Nat) (s : State) : Chain calm s (stopGenerator b s) := setGenerator_chain sound_initial b s

/-- The segment after a sound generator's is sound; an IDLE one stays as it is. -/
theorem sound_nextSegment {g : Generator} {latched : Latched} (h : g.latched = some latched) (busy : g.state ≠ .idle)
    (s : State) : (nextSegment g latched s).sound := by
  unfold nextSegment
  cases state : g.state with
  | idle => exact absurd state busy
  | ring =>
    dsimp only
    split_ifs
    · exact ⟨by simp, by simp [h]⟩
    · exact ⟨by simp, by simp [h]⟩
    · exact sound_ringing _ _ _ s
    · exact sound_initial
  | gap => exact sound_ringing _ _ _ s
  | burstGap => exact sound_ringing _ _ _ s

/-- A generator put back as it was is no change. -/
theorem setGenerator_self {b : Nat} {g : Generator} {s : State} (h : s.bells.generators[b]? = some g) :
    setGenerator b g s = s := by
  obtain ⟨hb, rfl⟩ := Vector.getElem?_eq_some_iff.1 h
  have same : s.bells.generators.setIfInBounds b s.bells.generators[b] = s.bells.generators := by
    ext i hi
    simp [Vector.getElem_setIfInBounds]
    rintro rfl
    rfl
  simp [setGenerator, State.onBells, same]

theorem segmentExpiry_chain (b : Nat) (s : State) : Chain calm s (segmentExpiry b s) := by
  unfold segmentExpiry
  split
  · exact .refl s
  · next g hg =>
    split
    · exact .refl s
    · next latched hl =>
      split_ifs
      · by_cases idle : g.state = .idle
        · have same : nextSegment g latched s = g := by simp [nextSegment, idle]
          rw [same, setGenerator_self hg]
        · exact setGenerator_chain (sound_nextSegment hl idle s) b s
      · exact .refl s

theorem applyPattern_chain (load : PatternLoad) (s : State) : Chain calm s (applyPattern load s) := by
  have patterns (f : Vector (Option Pattern) 8 → Vector (Option Pattern) 8) :
      Chain calm s (s.onBells fun u => { u with patterns := f u.patterns }) := .one (.bells fun _ _ => .inl) (by decide)
  cases load with
  | delete number => exact patterns fun table => table.setIfInBounds number none
  | set number p => exact patterns fun table => table.setIfInBounds number (some p)

end Sys2Proof.Machine
end

section
/-! SUPPORT. The Call Unit's events as chains of small changes; the call queue grows within its capacity alone (chapter 9,
R175). -/

namespace Sys2Proof.Machine

/-! ## The queue and the player -/

/-- A new queue within the capacity. -/
theorem setQueue_chain {queue : List CallInstance} {s : State} (h : queue.length ≤ max 16 s.calls.queue.length) :
    Chain calm s (setQueue queue s) := .one (.calls h) (by decide)

/-- A queue that is no longer than the one before. -/
theorem setQueue_shorter {queue : List CallInstance} {s : State} (h : queue.length ≤ s.calls.queue.length) :
    Chain calm s (setQueue queue s) := setQueue_chain (le_trans h (Nat.le_max_right _ _))

/-- A change of the Call Unit that leaves its queue. -/
theorem calls_chain {s : State} {f : CallUnit → CallUnit} (h : (f s.calls).queue = s.calls.queue) :
    Chain calm s (s.onCalls f) := .one (.calls (by rw [h]; exact Nat.le_max_right _ _)) (by decide)

theorem setPlayer_chain (player : Player) (s : State) : Chain calm s (setPlayer player s) := calls_chain rfl

theorem reportCall_chain (call : CallInstance) (outcome : CallOutcome) (s : State) :
    Chain calm s (reportCall call outcome s) := report_calm _ _ s

theorem reportRequest_chain (id : Nat) (source : CallSource) (outcome : CallOutcome) (reason : Option Result) (s : State) :
    Chain calm s (reportRequest id source outcome reason s) := report_calm _ _ s

theorem reportCall_queue (call : CallInstance) (outcome : CallOutcome) (s : State) :
    (reportCall call outcome s).calls.queue = s.calls.queue := by
  rw [reportCall, report_calls]

/-- The full marker and a change of the Call Unit are independent of each other. -/
theorem markFull_onCalls (f : CallUnit → CallUnit) (s : State) : (markFull s).onCalls f = markFull (s.onCalls f) := by
  unfold markFull
  rw [State.onCalls_phase]
  cases s.phase.fullMarker <;> rfl

/-- Offering an entry and a change of the Call Unit are independent of each other. -/
theorem report_onCalls (kind : ReportKind) (data : List Byte) (f : CallUnit → CallUnit) (s : State) :
    (report kind data s).onCalls f = report kind data (s.onCalls f) := by
  unfold report appendEntry
  rw [State.onCalls_phase, State.onCalls_clock]
  split_ifs
  · rfl
  · rw [markFull_onCalls]
    rfl
  · rw [markFull_onCalls]
    rfl

/-- A queue that replaces the one a displacement leaves might have replaced the one before it. -/
theorem setQueue_displace (queue : List CallInstance) (victim : CallInstance) (s : State) :
    setQueue queue (displace victim s) =
      setAttention .callLost (reportCall victim .displaced (setQueue queue s)) := by
  calc setQueue queue (displace victim s)
      = setAttention .callLost (setQueue queue (reportCall victim .displaced (setQueue s.calls.queue.dropLast s))) := rfl
    _ = setAttention .callLost (reportCall victim .displaced (setQueue queue (setQueue s.calls.queue.dropLast s))) := by
        exact congrArg (setAttention .callLost) (report_onCalls _ _ _ _)
    _ = setAttention .callLost (reportCall victim .displaced (setQueue queue s)) := rfl

theorem displace_queue (victim : CallInstance) (s : State) :
    (displace victim s).calls.queue = s.calls.queue.dropLast := by
  rw [displace, setAttention_calls, reportCall_queue]
  rfl

@[simp] theorem length_insertCall (call : CallInstance) (queue : List CallInstance) :
    (insertCall call queue).length = queue.length + 1 := by
  induction queue with
  | nil => rfl
  | cons c rest ih =>
    unfold insertCall
    split_ifs <;> simp [ih]

@[simp] theorem length_requeueCall (call : CallInstance) (queue : List CallInstance) :
    (requeueCall call queue).length = queue.length + 1 := by
  induction queue with
  | nil => rfl
  | cons c rest ih =>
    unfold requeueCall
    split_ifs <;> simp [ih]

theorem queue_ne_nil_of_displaceable {p : Nat} {queue : List CallInstance} {victim : CallInstance}
    (h : displaceable p queue = some victim) : queue ≠ [] := by
  rintro rfl
  simp [displaceable] at h

/-- A displacement followed by a queue no longer than the one before it. -/
theorem displaced_chain {victim : CallInstance} {queue : List CallInstance} {s : State}
    (h : queue.length ≤ s.calls.queue.length) : Chain calm s (setQueue queue (displace victim s)) := by
  rw [setQueue_displace]
  exact ((setQueue_shorter h).trans (reportCall_chain _ _ _)).trans (setAttention_calm _ _)

/-! ## Soundings (R184) -/

theorem offerStarts_chain (call : CallInstance) (copy : StartCopy) (stations : List (Nat × BitVec 12)) (s : State) :
    Chain calm s (forEach stations (offerStart call copy) s) :=
  forEach_chain _ (fun _ _ t => offer_chain _ _ _ _ t) s

theorem offerStops_chain (call : CallInstance) (stations : List (Nat × BitVec 12)) (s : State) :
    Chain calm s (forEach stations (offerStop call) s) :=
  forEach_chain _ (fun _ _ t => offer_chain _ _ _ _ t) s

theorem stopRoutes_chain (copy : StartCopy) (s : State) : Chain calm s (stopRoutes copy s) :=
  forEach_chain _ (fun b _ t => stopGenerator_chain b t) s

theorem beginSounding_chain (call : CallInstance) (copy : StartCopy) (s : State) :
    Chain calm s (beginSounding call copy s) := by
  have starts := (setPlayer_chain (.sounding call copy (s.timerOf (soundingTime s copy))) s).trans
    (offerStarts_chain call copy copy.stations _)
  unfold beginSounding
  dsimp only
  split
  · exact starts
  · exact starts.trans (forEach_chain _ (fun b _ t => startGenerator_chain _ _ b t) _)

theorem beginSounding_queue (call : CallInstance) (copy : StartCopy) (s : State) :
    (beginSounding call copy s).calls.queue = s.calls.queue := by
  unfold beginSounding
  dsimp only
  split <;> simp [setPlayer]

theorem startCall_chain (call : CallInstance) (s : State) : Chain calm s (startCall call s) := by
  unfold startCall
  split
  · exact reportCall_chain _ _ s
  · dsimp only
    split_ifs
    · exact reportCall_chain _ _ s
    · exact beginSounding_chain _ _ s

theorem startCall_queue (call : CallInstance) (s : State) : (startCall call s).calls.queue = s.calls.queue := by
  unfold startCall
  split
  · exact reportCall_queue _ _ s
  · dsimp only
    split_ifs
    · exact reportCall_queue _ _ s
    · exact beginSounding_queue _ _ s

/-! ## Selection (R183) -/

/-- A walk of the queue leaves instances out of it and starts at most one (R183). -/
theorem walkQueue_chain (kept rest : List CallInstance) (s : State) (h : s.calls.queue.length = (kept ++ rest).length) :
    Chain calm s (walkQueue kept rest s) := by
  induction rest generalizing kept s with
  | nil => exact .refl s
  | cons call rest ih =>
    have shorter : (kept ++ rest).length ≤ s.calls.queue.length := by
      rw [h]
      simp only [List.length_append, List.length_cons]
      omega
    unfold walkQueue
    split_ifs with undefined eligible
    · exact ((setQueue_shorter shorter).trans (reportCall_chain _ _ _)).trans
        (ih _ _ (by rw [reportCall_queue]; rfl))
    · have started := (setQueue_shorter shorter).trans (startCall_chain call _)
      dsimp only
      split_ifs
      · exact started.trans (ih _ _ (by rw [startCall_queue]; rfl))
      · exact started
    · exact ih _ _ (by simpa using h)

theorem playerExpires_chain (s : State) : Chain calm s (playerExpires s) := by
  unfold playerExpires
  split
  · exact .refl s
  · dsimp only
    split_ifs
    · exact ((stopRoutes_chain _ s).trans (setPlayer_chain _ _)).trans (reportCall_chain _ _ _)
    · exact (stopRoutes_chain _ s).trans (setPlayer_chain _ _)
  · exact beginSounding_chain _ _ s

theorem settlePlayer_chain (fuel : Nat) (s : State) : Chain calm s (settlePlayer fuel s) := by
  induction fuel generalizing s with
  | zero => exact .refl s
  | succ fuel ih =>
    unfold settlePlayer
    dsimp only
    split_ifs
    · exact walkQueue_chain _ _ s rfl
    · exact (walkQueue_chain _ _ s rfl).trans (ih _)
    · exact (playerExpires_chain s).trans (ih _)
    · exact .refl s

theorem selection_chain (s : State) : Chain calm s (selection s) := settlePlayer_chain 256 s

theorem playerExpiry_chain (s : State) : Chain calm s (playerExpiry s) := by
  have expires : Chain calm s (selection (playerExpires s)) := (playerExpires_chain s).trans (selection_chain _)
  unfold playerExpiry
  split
  · exact .refl s
  · split_ifs
    · exact expires
    · exact .refl s
  · split_ifs
    · exact expires
    · exact .refl s

/-! ## Interruptions and requests (R174 to R178, R186 to R189) -/

theorem abortSounding_chain (call : CallInstance) (copy : StartCopy) (s : State) :
    Chain calm s (abortSounding call copy s) :=
  ((stopRoutes_chain copy s).trans (offerStops_chain call _ _)).trans (setPlayer_chain _ _)

theorem requeue_chain (call : CallInstance) (s : State) : Chain calm s (requeue call s) := by
  unfold requeue
  dsimp only
  split_ifs with lapsed room
  · exact reportCall_chain _ _ s
  · refine setQueue_chain ?_
    simp only [Config.callCapacity] at room
    rw [length_requeueCall]
    omega
  · split
    · next h =>
      refine displaced_chain ?_
      have := List.length_pos_of_ne_nil (queue_ne_nil_of_displaceable h)
      rw [length_requeueCall, displace_queue, List.length_dropLast]
      omega
    · exact (reportCall_chain _ _ s).trans (setAttention_calm _ _)

theorem preempt_chain (priority : Nat) (s : State) : Chain calm s (preempt priority s) := by
  unfold preempt
  split
  · dsimp only
    split_ifs
    · exact (abortSounding_chain _ _ s).trans (requeue_chain _ _)
    · exact ((abortSounding_chain _ _ s).trans (reportCall_chain _ _ _)).trans (setAttention_calm _ _)
    · exact .refl s
  · exact .refl s

/-- A request is queued where the insertion keeps the capacity (R174 steps 4 to 6). -/
theorem enqueueRequest_chain {s t : State} (id : Nat) (source : CallSource)
    (h : Chain calm s (setQueue (insertCall (newInstance t id source) t.calls.queue) t)) :
    Chain calm s (enqueueRequest id source t) := (h.trans (preempt_chain _ _)).trans (selection_chain _)

theorem refuseRequest_chain (id : Nat) (source : CallSource) (reason : Result) (s : State) :
    Chain calm s (refuseRequest id source reason s).2 := by
  unfold refuseRequest
  dsimp only
  split_ifs
  · exact ((reportRequest_chain _ _ _ _ s).trans (setAttention_calm _ _)).trans (selection_chain _)
  · exact (reportRequest_chain _ _ _ _ s).trans (selection_chain _)

theorem requestCall_chain (id : Nat) (source : CallSource) (s : State) : Chain calm s (requestCall id source s).2 := by
  unfold requestCall
  split_ifs with undefined held room
  · exact refuseRequest_chain _ _ _ s
  · exact (reportRequest_chain _ _ _ _ s).trans (selection_chain _)
  · refine enqueueRequest_chain id source (setQueue_chain ?_)
    simp only [Config.callCapacity] at room
    rw [length_insertCall]
    omega
  · split
    · next h =>
      refine enqueueRequest_chain id source (displaced_chain ?_)
      have := List.length_pos_of_ne_nil (queue_ne_nil_of_displaceable h)
      rw [length_insertCall, displace_queue, List.length_dropLast]
      omega
    · exact refuseRequest_chain _ _ _ s

theorem callNow_chain (id : Nat) (s : State) : Chain calm s (callNow id s).2 := by
  unfold callNow
  split_ifs
  · exact refuseRequest_chain _ _ _ s
  · exact requestCall_chain _ _ s

/-- An instance leaves the queue with its entry (R178, R188, R189). -/
theorem leaveQueue_chain (call : CallInstance) (outcome : CallOutcome) (p : CallInstance → Bool) (s : State) :
    Chain calm s (reportCall call outcome (setQueue (s.calls.queue.eraseP p) s)) :=
  (setQueue_shorter List.length_eraseP_le).trans (reportCall_chain _ _ _)

theorem cancelCall_chain (id : Nat) (s : State) : Chain calm s (cancelCall id s).2 := by
  unfold cancelCall
  split
  · exact .refl s
  split
  · exact .refl s
  · split
    · exact (leaveQueue_chain _ _ _ s).trans (selection_chain _)
    · split
      · split_ifs
        · exact ((abortSounding_chain _ _ s).trans (reportCall_chain _ _ _)).trans (selection_chain _)
        · exact .refl s
      · exact .refl s

theorem lapseCall_chain (id : Nat) (s : State) : Chain calm s (lapseCall id s) := by
  unfold lapseCall
  split
  · exact .refl s
  · split_ifs
    · exact (leaveQueue_chain _ _ _ s).trans (selection_chain _)
    · exact .refl s

theorem endEvac_chain (s : State) : Chain calm s (endEvac s) := by
  unfold endEvac
  split
  · exact leaveQueue_chain _ _ _ s
  · split
    · split_ifs
      · exact (abortSounding_chain _ _ s).trans (reportCall_chain _ _ _)
      · exact .refl s
    · exact .refl s

theorem callsToldPhase_chain (new previous : Phase) (s : State) : Chain calm s (callsToldPhase new previous s) := by
  unfold callsToldPhase
  split_ifs
  · exact requestCall_chain _ _ s
  · exact (endEvac_chain s).trans (selection_chain _)
  · exact requestCall_chain _ _ s
  · exact selection_chain s

theorem callsToldAlarm_chain (before : AlarmRecord) (s : State) : Chain calm s (callsToldAlarm before s) := by
  unfold callsToldAlarm
  split_ifs
  · exact requestCall_chain _ _ s
  · exact selection_chain s

theorem staffRequest_chain (before after : AlarmRecord) (s : State) : Chain calm s (staffRequest before after s) := by
  unfold staffRequest
  split_ifs
  · exact requestCall_chain _ _ s
  · exact .refl s

/-! ## Schedules and loads (R169, R170, R172, R180, R181) -/

theorem setFired_chain (fired : Bool) (id : Nat) (s : State) : Chain calm s (setFired fired id s) := by
  unfold setFired
  split
  · exact .refl s
  · exact calls_chain rfl

theorem fireSchedule_chain (anchor : Anchor) (value id : Nat) (s : State) :
    Chain calm s (fireSchedule anchor value id s) := by
  unfold fireSchedule
  split
  · exact .refl s
  · split_ifs
    · exact (requestCall_chain _ _ s).trans (setFired_chain _ _ _)
    · exact .refl s

theorem announce_chain (anchor : Anchor) (value : Nat) (s : State) : Chain calm s (announce anchor value s) :=
  forEach_chain _ (fun id _ t => fireSchedule_chain anchor value id t) s

theorem clearFired_chain (s : State) : Chain calm s (clearFired s) :=
  forEach_chain _ (fun id _ t => setFired_chain false id t) s

theorem clearIntervalFired_chain (s : State) : Chain calm s (clearIntervalFired s) := by
  refine forEach_chain _ (fun id _ t => ?_) s
  split
  · exact .refl t
  · split_ifs
    · exact setFired_chain false id t
    · exact .refl t

theorem applyCall_chain (load : CallLoad) (s : State) : Chain calm s (applyCall load s) := by
  cases load with
  | delete id => exact calls_chain (f := fun c => { c with defs := c.defs.setIfInBounds id none }) rfl
  | set id d => exact calls_chain (f := fun c => { c with defs := c.defs.setIfInBounds id (some _) }) rfl

theorem applyArea_chain (load : AreaLoad) (s : State) : Chain calm s (applyArea load s) := by
  cases load with
  | delete area => exact calls_chain (f := fun c => { c with areas := c.areas.setIfInBounds area none }) rfl
  | set area d => exact calls_chain (f := fun c => { c with areas := c.areas.setIfInBounds area (some d) }) rfl

theorem routePlan_chain (group plan : Nat) (s : State) : Chain calm s (routePlan group plan s).2 := by
  unfold routePlan
  split
  · exact .refl s
  · split_ifs
    · exact .refl s
    · exact (calls_chain (f := fun c => { c with selectors := c.selectors.setIfInBounds group _ }) rfl).trans
        (selection_chain _)

end Sys2Proof.Machine
end

section
/-! SUPPORT. The Curtain Supervisor's events as chains of small changes: every move it makes is a legal one, a raise is begun only
where R137 allows it, and the estimator stays within its ranges (chapters 7 and 8). -/

namespace Sys2Proof.Machine

/-! ## The estimator (8.1, 8.2) -/

theorem clampSpeed_bounds (v : Int) : -32768 ≤ clampSpeed v ∧ clampSpeed v ≤ 32767 := by
  unfold clampSpeed
  omega

theorem inRange_predict {e : Estimator} (h : e.inRange) (minSpeed position : Nat) : (predict minSpeed position e).inRange := by
  obtain ⟨low, high, _, late⟩ := h
  unfold predict
  split_ifs
  · exact ⟨low, high, Nat.zero_le _, late⟩
  · exact ⟨low, high, Nat.le_refl _, late⟩
  · exact ⟨low, high, Nat.min_le_left _ _, late⟩

theorem inRange_seeded (p : Profile) (c : Curtain) : (seeded p c).inRange := by
  obtain ⟨low, high⟩ := clampSpeed_bounds (p.travel * 16000 / p.descentLimit : Nat)
  unfold seeded
  dsimp only
  split
  · exact ⟨low, high, Nat.le_refl _, Nat.zero_le _⟩
  · exact inRange_predict ⟨low, high, Nat.le_refl _, Nat.zero_le _⟩ _ _

theorem inRange_takeReference {e : Estimator} (h : e.inRange) (p : Profile) (position : Nat) (t : Time) :
    (takeReference p position t e).inRange := by
  obtain ⟨low, high, predicted, late⟩ := h
  unfold takeReference
  dsimp only
  split
  · split_ifs
    · exact ⟨low, high, predicted, late⟩
    · obtain ⟨low', high'⟩ := clampSpeed_bounds (e.speed + Int.fdiv
        ((rawSpeed ((_ : Nat) - position) _ - e.speed) * p.filterWeight + 128) 256)
      exact ⟨low', high', predicted, late⟩
  · exact ⟨low, high, predicted, late⟩

theorem inRange_judgeReport {e : Estimator} (h : e.inRange) (p : Profile) (elapsed : Nat) :
    (judgeReport p elapsed e).inRange := by
  obtain ⟨low, high, predicted, late⟩ := h
  unfold judgeReport
  split_ifs
  · exact ⟨low, high, predicted, late⟩
  · exact ⟨low, high, predicted, Nat.min_le_left _ _⟩
  · exact ⟨low, high, predicted, Nat.zero_le _⟩

theorem inRange_estimate {e : Estimator} (h : e.inRange) (p : Profile) (position : Nat) (t start : Time) :
    (estimate p position t start e).inRange :=
  inRange_judgeReport (inRange_predict (inRange_takeReference h p position t) _ _) p _

/-! ## The record (R125, R126) -/

/-- The combination of state, cause, mode and pending direction that a move gives is a legal one (R125). -/
def Move.legal (next : Move) : Bool :=
  curtainLegal { Curtain.initial with state := next.state, cause := next.cause, mode := next.mode, pending := next.pending }

@[simp] theorem curtainLegal_moved (next : Move) (s : State) (c : Curtain) : curtainLegal (moved next s c) = next.legal := rfl

/-- A change of the curtain record that leaves its state, mode, cause and pending direction, its flags and relays. -/
theorem aside_chain {s : State} {f : Curtain → Curtain}
    (same : (f s.curtain).state = s.curtain.state ∧ (f s.curtain).mode = s.curtain.mode ∧
      (f s.curtain).cause = s.curtain.cause ∧ (f s.curtain).pending = s.curtain.pending)
    (stage : (f s.curtain).stageAlarm = s.curtain.stageAlarm ∧ (f s.curtain).k6 = s.curtain.k6)
    (flags : (f s.curtain).flags = s.curtain.flags) (k5 : (f s.curtain).k5 = s.curtain.k5)
    (range : s.curtain.inRange → (f s.curtain).inRange) : Chain calm s (s.onCurtain f) := by
  obtain ⟨state, mode, cause, pending⟩ := same
  refine .one (.curtain ⟨stage, flags, fun h => ?_, range, .inl ⟨state, k5⟩, fun h => .inl (state ▸ h)⟩) (by decide)
  simpa only [curtainLegal, state, mode, cause, pending] using h

/-- A raise of the part may be in this state: it stands already, under local control, or where R137 allows it. -/
def raiseAllowed (s : State) : Prop :=
  s.curtain.state = .raising ∨ s.curtain.flags.localControl = true ∨
    (s.curtain.stageAlarm = false ∧ s.phase.phase ≠ .evacuating)

/-- The record after a move is within what a change of the curtain keeps. -/
theorem moved_step {next : Move} {s : State} (legal : curtainLegal s.curtain = true → next.legal = true)
    (raising : next.state = .raising → raiseAllowed s) : CurtainStep s s.curtain (moved next s s.curtain) where
  stage := ⟨rfl, rfl⟩
  flags := rfl
  legal := legal
  range h := ⟨h.1, h.2⟩
  k5 := .inr rfl
  raising := raising

theorem offerDrive_chain (command : DriveCommand) (s : State) : Chain calm s (offerDrive command s) := by
  unfold offerDrive
  split_ifs
  · exact .refl s
  · exact offer_chain _ _ _ _ s

theorem offerStateDrive_chain (s : State) : Chain calm s (offerStateDrive s) := by
  unfold offerStateDrive
  split
  · exact .refl s
  · split_ifs
    · exact .refl s
    · exact offerDrive_chain _ s

theorem reportCurtain_chain (event new previous : Byte) (value : Nat) (s : State) :
    Chain calm s (reportCurtain event new previous value s) := report_calm _ _ s

theorem reportStanding_chain (event : Byte) (value : Nat) (s : State) : Chain calm s (reportStanding event value s) :=
  reportCurtain_chain _ _ _ _ s

theorem curtainAttention_chain (s : State) : Chain calm s (curtainAttention s) := by
  unfold curtainAttention
  split_ifs
  · exact setAttention_calm _ s
  · exact .refl s

/-- A change of state is a chain where the record it begins with is one (R126). -/
theorem changeCurtain_chain_from {next : Move} {s u : State} (h : Chain calm s (u.onCurtain (moved next u))) :
    Chain calm s (changeCurtain next u) :=
  (((h.trans (offerStateDrive_chain _)).trans (reportCurtain_chain _ _ _ _ _)).trans (curtainAttention_chain _)).trans
    (notice_chain _ _)

theorem changeCurtain_chain {next : Move} {s : State} (legal : curtainLegal s.curtain = true → next.legal = true)
    (raising : next.state = .raising → raiseAllowed s) : Chain calm s (changeCurtain next s) :=
  changeCurtain_chain_from (.one (.curtain (moved_step legal raising)) (by decide))

/-- A legal move that begins no raise. -/
theorem changeCurtain_chain_still {next : Move} (legal : next.legal = true) (still : next.state ≠ .raising) (s : State) :
    Chain calm s (changeCurtain next s) := changeCurtain_chain (fun _ => legal) fun h => absurd h still

theorem legal_faulted (cause : FaultCause) : (Move.faulted cause).legal = true := rfl

theorem legal_lowering (mode : Mode) : (Move.moving .lowering mode).legal = true := rfl

theorem legal_pausingLower (mode : Mode) : (Move.pausing .lower mode).legal = true := rfl

theorem legal_pausingRaise {mode : Mode} (h : mode ≠ .emergency) : (Move.pausing .raise mode).legal = true := by
  cases mode with
  | normal => rfl
  | demo => rfl
  | emergency => exact absurd rfl h

theorem legal_raising {mode : Mode} (h : mode ≠ .emergency) : (Move.moving .raising mode).legal = true := by
  cases mode with
  | normal => rfl
  | demo => rfl
  | emergency => exact absurd rfl h

/-! ## The demonstration's results (R157, R166) -/

theorem stopDwell_chain (s : State) : Chain calm s (stopDwell s) :=
  aside_chain ⟨rfl, rfl, rfl, rfl⟩ ⟨rfl, rfl⟩ rfl rfl id

theorem markDemo_chain (reason : DemoReason) (s : State) : Chain calm s (markDemo reason s) :=
  aside_chain ⟨rfl, rfl, rfl, rfl⟩ ⟨rfl, rfl⟩ rfl rfl id

/-- A status that begins no demonstration may be set anywhere. -/
theorem setDemoStatus_chain {status : DemoStatus} {s : State}
    (h : status.inProgress = true → s.phase.demoStatus.inProgress = true ∨ s.zones.alarm.confirmed = []) :
    Chain calm s (setDemoStatus status s) := .one (.demoStatus h) (by decide)

theorem recordDemo_chain {status : DemoStatus} (h : status.inProgress = false) (s : State) :
    Chain calm s (recordDemo status s) :=
  (((stopDwell_chain s).trans (setDemoStatus_chain fun k => absurd (h.symm.trans k) (by decide))).trans
    (report_calm _ _ _)).trans (setAttention_calm _ _)

theorem failDemo_chain (reason : DemoReason) (s : State) : Chain calm s (failDemo reason s) := by
  unfold failDemo
  split_ifs
  · exact recordDemo_chain rfl s
  · exact .refl s

/-! ## Descents, the release, arrivals (R134, R140, R145) -/

/-- The estimator and the record's times are set beside a descent. -/
theorem seedEstimator_chain (s : State) : Chain calm s (seedEstimator s) :=
  aside_chain ⟨rfl, rfl, rfl, rfl⟩ ⟨rfl, rfl⟩ rfl rfl fun h => ⟨inRange_seeded _ _, h.2⟩

theorem startDescent_chain (mode : Mode) (s : State) : Chain calm s (startDescent mode s) :=
  ((seedEstimator_chain s).trans (aside_chain
    (f := fun c => { c with descentStart := some s.clock, floorCheck := false })
    ⟨rfl, rfl, rfl, rfl⟩ ⟨rfl, rfl⟩ rfl rfl id)).trans
    (changeCurtain_chain_still (legal_lowering mode) (by simp [Move.moving]) _)

theorem arrive_chain (s : State) : Chain calm s (arrive s) := by
  have arrived : Chain calm s (changeCurtain (.plain .atFloor) (s.onCurtain fun c =>
      { c with
        lastDescent := (s.curtain.descentStart.map fun start => min 65535 (duration s.clock start)).getD c.lastDescent
        floorCheck := true })) := by
    refine (aside_chain ⟨rfl, rfl, rfl, rfl⟩ ⟨rfl, rfl⟩ rfl rfl fun h => ⟨h.1, ?_⟩).trans
      (changeCurtain_chain_still rfl (by simp [Move.plain]) _)
    cases s.curtain.descentStart with
    | none => exact h.2
    | some start => exact Nat.min_le_left _ _
  unfold arrive
  dsimp only
  split
  · exact arrived
  · exact arrived.trans (reportCurtain_chain _ _ _ _ _)

theorem enterReleased_chain (cause : Option FaultCause) (s : State) : Chain calm s (enterReleased cause s) := by
  have released (u : State) : Chain calm u (changeCurtain { state := .released, cause := cause, mode := .emergency, pending := none }
      (u.onCurtain fun c => { c with descentStart := some (c.descentStart.getD u.clock) })) :=
    (aside_chain ⟨rfl, rfl, rfl, rfl⟩ ⟨rfl, rfl⟩ rfl rfl id).trans (changeCurtain_chain_still rfl (by simp) _)
  unfold enterReleased
  dsimp only
  split_ifs
  · exact released s
  · exact (seedEstimator_chain s).trans (released _)

theorem release_chain (cause : Option FaultCause) (s : State) : Chain calm s (release cause s) := by
  have failed := (enterReleased_chain cause s).trans (failDemo_chain .fault _)
  unfold release
  dsimp only
  split_ifs
  · exact failed.trans (arrive_chain _)
  · exact failed

theorem alarmAtRest_chain (s : State) : Chain calm s (alarmAtRest s) := by
  unfold alarmAtRest
  split_ifs
  · exact release_chain none s
  · exact startDescent_chain .emergency s
  · exact .refl s

/-- A change by a rule is a chain where the change and what the rule adds are (R126, R144). -/
theorem moveCurtain_chain {next : Move} {after : State → State} {s u : State} (moves : Chain calm s (changeCurtain next u))
    (adds : ∀ t, Chain calm t (after t)) : Chain calm s (moveCurtain next after u) :=
  (moves.trans (adds _)).trans (alarmAtRest_chain _)

/-- A legal move by a rule that begins no raise. -/
theorem moveCurtain_chain_still {next : Move} (legal : next.legal = true) (still : next.state ≠ .raising)
    {after : State → State} (adds : ∀ t, Chain calm t (after t)) (s : State) : Chain calm s (moveCurtain next after s) :=
  moveCurtain_chain (changeCurtain_chain_still legal still s) adds

theorem faultCurtain_chain (cause : FaultCause) (s : State) : Chain calm s (faultCurtain cause s) := by
  unfold faultCurtain
  split_ifs
  · exact .refl s
  · exact release_chain _ s
  · exact moveCurtain_chain_still (legal_faulted cause) (by simp [Move.faulted]) (failDemo_chain .fault) s

/-! ## Requests (R133 to R139, R147, R158) -/

theorem setPending_chain {pending : Pending} {mode : Mode} {s : State} (paused : s.curtain.state = .deadTime)
    (legal : (Move.pausing pending mode).legal = true) : Chain calm s (setPending pending mode s) := by
  unfold setPending
  split_ifs with same
  · refine .one (.curtain ⟨⟨rfl, rfl⟩, rfl, fun h => ?_, id, .inl ⟨rfl, rfl⟩, .inl⟩) (by decide)
    have cause : s.curtain.cause = none := by simp [curtainLegal, paused] at h; exact h.1
    change Move.legal { state := s.curtain.state, cause := s.curtain.cause, mode := s.curtain.mode, pending := some pending } = true
    rw [paused, cause, same]
    exact legal
  · exact changeCurtain_chain_still legal (by simp [Move.pausing]) s

theorem lowerRequest_chain (mode : Mode) (s : State) : Chain calm s (lowerRequest mode s).2 := by
  unfold lowerRequest
  split
  · exact .refl s
  · split
    · exact .refl s
    · split_ifs
      · exact .refl s
      · exact startDescent_chain mode s
    · split_ifs
      · exact .refl s
      · exact startDescent_chain mode s
    · exact .refl s
    · split_ifs
      · exact .refl s
      · exact moveCurtain_chain_still (legal_pausingLower mode) (by simp [Move.pausing]) (failDemo_chain .stopped) s
    · next paused =>
      split_ifs
      · exact .refl s
      · exact .refl s
      · exact setPending_chain paused (legal_pausingLower mode)
    · exact .refl s
    · exact .refl s
    · exact .refl s

/-- Where nothing bars a raise, one is allowed (R137). -/
theorem raiseAllowed_of_unbarred {waiveKey : Bool} {s : State} (h : raiseBarred waiveKey s = none) : raiseAllowed s := by
  unfold raiseBarred at h
  split_ifs at h with localControl state evacuating stage
  exact .inr (.inr ⟨by simpa using stage, evacuating⟩)

theorem raiseRequest_chain {mode : Mode} (plain : mode ≠ .emergency) (waiveKey : Bool) (s : State) :
    Chain calm s (raiseRequest mode waiveKey s).2 := by
  unfold raiseRequest
  split
  · exact .refl s
  · next unbarred =>
    have raises : Chain calm s (changeCurtain (.moving .raising mode) s) :=
      changeCurtain_chain (fun _ => legal_raising plain) fun _ => raiseAllowed_of_unbarred unbarred
    split
    · exact raises
    · exact raises
    · next paused =>
      split_ifs
      · exact .refl s
      · exact setPending_chain paused (legal_pausingRaise plain)
    · split_ifs
      · exact .refl s
      · exact moveCurtain_chain_still (legal_pausingRaise plain) (by simp [Move.pausing]) (failDemo_chain .stopped) s
    all_goals exact .refl s

/-- Offering an entry and the demonstration's raise are independent of each other. -/
theorem demoRaises_report (kind : ReportKind) (data : List Byte) (s : State) :
    demoRaises (report kind data s) = report kind data (demoRaises s) := by
  have full (t : State) : demoRaises (markFull t) = markFull (demoRaises t) := by
    unfold markFull
    have marker : (demoRaises t).phase.fullMarker = t.phase.fullMarker := rfl
    rw [marker]
    cases t.phase.fullMarker <;> rfl
  have same : (demoRaises s).phase.report = s.phase.report := rfl
  have clock : (demoRaises s).clock = s.clock := rfl
  unfold report appendEntry
  rw [same, clock]
  split_ifs
  · rfl
  · rw [full]
    rfl
  · rw [full]
    rfl

/-- The raise of a demonstration whose failure was recorded just before: the failure's entry stands, its status does not. -/
theorem demoRaises_recordDemo (status : DemoStatus) (s : State) :
    demoRaises (recordDemo status s) =
      setAttention .demoResult
        (report .demo
          ([byte status.code, optionByte (status.reason.map DemoReason.code)] ++ bytes2 s.phase.demoTime ++
            [s.curtain.sequence.markByte]) (demoRaises s)) := by
  calc demoRaises (recordDemo status s)
      = setAttention .demoResult (demoRaises (report .demo
          ([byte status.code, optionByte (status.reason.map DemoReason.code)] ++ bytes2 s.phase.demoTime ++
            [s.curtain.sequence.markByte]) (setDemoStatus status (stopDwell s)))) := rfl
    _ = _ := by rw [demoRaises_report]; rfl

theorem demoRaises_chain {s : State} (h : s.phase.demoStatus.inProgress = true) : Chain calm s (demoRaises s) :=
  (stopDwell_chain s).trans (setDemoStatus_chain fun _ => .inl h)

theorem changeCurtain_demoStatus (next : Move) (s : State) :
    (changeCurtain next s).phase.demoStatus = s.phase.demoStatus :=
  (congrArg PhaseUnit.demoStatus (sameBut_record (changeCurtain_frame next s) (by decide)) :)

theorem setPending_demoStatus (pending : Pending) (mode : Mode) (s : State) :
    (setPending pending mode s).phase.demoStatus = s.phase.demoStatus := by
  unfold setPending
  split_ifs
  · rfl
  · exact changeCurtain_demoStatus _ s

/-- A raise that a demonstration in progress takes sets its status (R162); where the raise has just stopped its descent, the
failure's entry is appended all the same. -/
theorem demoRaises_raiseRequest_chain {mode : Mode} (plain : mode ≠ .emergency) (waiveKey : Bool) {s : State}
    (progress : s.phase.demoStatus.inProgress = true) (taken : (raiseRequest mode waiveKey s).1 = .done) :
    Chain calm s (demoRaises (raiseRequest mode waiveKey s).2) := by
  have moves := raiseRequest_chain plain waiveKey s
  revert moves taken
  unfold raiseRequest
  split
  · next refusal barred =>
    intro taken
    unfold raiseBarred at barred
    split_ifs at barred <;> simp_all
  · split
    · exact fun _ moves => moves.trans (demoRaises_chain (by rw [changeCurtain_demoStatus]; exact progress))
    · exact fun _ moves => moves.trans (demoRaises_chain (by rw [changeCurtain_demoStatus]; exact progress))
    · split_ifs
      · exact fun taken => nomatch taken
      · exact fun _ moves => moves.trans (demoRaises_chain (by rw [setPending_demoStatus]; exact progress))
    · split_ifs
      · exact fun taken => nomatch taken
      · intro _ _
        have standing : (changeCurtain (.pausing .raise mode) s).phase.demoStatus.inProgress = true := by
          rw [changeCurtain_demoStatus]
          exact progress
        have failed : failDemo .stopped (changeCurtain (.pausing .raise mode) s) =
            recordDemo (.failed .stopped) (changeCurtain (.pausing .raise mode) s) := if_pos standing
        have resting : alarmAtRest (recordDemo (.failed .stopped) (changeCurtain (.pausing .raise mode) s)) =
            recordDemo (.failed .stopped) (changeCurtain (.pausing .raise mode) s) := by
          have state : (recordDemo (.failed .stopped) (changeCurtain (.pausing .raise mode) s)).curtain.state = .deadTime := by
            have kept : (recordDemo (.failed .stopped) (changeCurtain (.pausing .raise mode) s)).curtain =
                (stopDwell (changeCurtain (.pausing .raise mode) s)).curtain :=
              sameBut_curtain (sameBut_trans (setDemoStatus_frame _ _ |> (sameBut_mono · (by decide)))
                (sameBut_trans (report_frame _ _ _ |> (sameBut_mono · (by decide)))
                  (setAttention_frame _ _ |> (sameBut_mono · (by decide))) :
                    sameBut [.record, .report, .attention] _ _ = true)) (by decide)
            rw [kept]
            simp [stopDwell, moved, Move.pausing]
          unfold alarmAtRest
          simp [state]
        change Chain calm s (demoRaises (alarmAtRest (failDemo .stopped (changeCurtain (.pausing .raise mode) s))))
        rw [failed, resting, demoRaises_recordDemo]
        exact (((changeCurtain_chain_still (legal_pausingRaise plain) (by simp [Move.pausing]) s).trans
          (demoRaises_chain standing)).trans (report_calm _ _ _)).trans (setAttention_calm _ _)
    all_goals exact fun taken => nomatch taken

theorem raiseCurtain_chain (s : State) : Chain calm s (raiseCurtain s).2 := by
  unfold raiseCurtain
  dsimp only
  split_ifs with dwell
  · exact demoRaises_raiseRequest_chain (by decide) false (by rw [dwell.1]; rfl) dwell.2
  · exact raiseRequest_chain (by decide) false s

theorem dwellEnds_chain {s : State} (h : s.phase.demoStatus.inProgress = true) : Chain calm s (dwellEnds s) := by
  unfold dwellEnds
  dsimp only
  split_ifs with taken
  · exact (stopDwell_chain s).trans
      (demoRaises_raiseRequest_chain (mode := .demo) (s := stopDwell s) (by decide) true h taken)
  · exact (stopDwell_chain s).trans (recordDemo_chain rfl _)

theorem judgeDescent_chain (s : State) : Chain calm s (judgeDescent s) := by
  unfold judgeDescent
  split
  · exact .refl s
  · next lowering =>
    rw [not_not] at lowering
    have timed : Chain calm s (s.onPhase fun p => { p with demoTime := s.curtain.lastDescent }) :=
      .one (.demoTime s) (by decide)
    dsimp only
    split
    · exact timed.trans (recordDemo_chain rfl _)
    · split
      · exact timed.trans (recordDemo_chain rfl _)
      · have dwells (u : State) (h : u.phase.demoStatus = .lowering) (timer : Option Timer) :
            Chain calm u (setDemoStatus .dwell
              (u.onCurtain fun c => { c with sequence := { c.sequence with dwellTimer := timer } })) :=
          (aside_chain ⟨rfl, rfl, rfl, rfl⟩ ⟨rfl, rfl⟩ rfl rfl id).trans
            (setDemoStatus_chain fun _ => .inl (by change u.phase.demoStatus.inProgress = true; rw [h]; rfl))
        split_ifs
        · exact timed.trans (recordDemo_chain rfl _)
        · refine (timed.trans (dwells _ ?_ _)).trans (dwellEnds_chain rfl)
          exact lowering
        · refine timed.trans (dwells _ ?_ _)
          exact lowering

theorem releaseInAlarm_chain (cause : Option FaultCause) (s : State) : Chain calm s (releaseInAlarm cause s) := by
  unfold releaseInAlarm
  dsimp only
  split_ifs
  · exact ((enterReleased_chain cause s).trans (arrive_chain _)).trans (judgeDescent_chain _)
  · exact enterReleased_chain cause s

theorem stopCurtain_chain (s : State) : Chain calm s (stopCurtain s).2 := by
  have stops : Chain calm s (moveCurtain (.plain .stopped) (failDemo .stopped) s) :=
    moveCurtain_chain_still rfl (by simp [Move.plain]) (failDemo_chain .stopped) s
  unfold stopCurtain
  split
  · exact .refl s
  · split
    · split_ifs
      · exact .refl s
      · exact stops
    · exact stops
    · next paused =>
      split_ifs
      · exact .refl s
      · exact setPending_chain paused rfl
    all_goals exact .refl s

theorem clearCurtainFault_chain (s : State) : Chain calm s (clearCurtainFault s).2 := by
  unfold clearCurtainFault
  split_ifs
  · exact .refl s
  · exact (aside_chain (f := fun c => { c with rederive := true }) ⟨rfl, rfl, rfl, rfl⟩ ⟨rfl, rfl⟩ rfl rfl id).trans
      (moveCurtain_chain_still rfl (by simp [Move.plain]) (fun t => .refl t) _)
  · exact .refl s

theorem startDemo_chain (s : State) : Chain calm s (startDemo s).2 := by
  unfold startDemo
  split_ifs with _ _ _ clear
  any_goals exact .refl s
  refine Chain.trans (aside_chain (f := fun c => { c with sequence := .initial }) ⟨rfl, rfl, rfl, rfl⟩ ⟨rfl, rfl⟩ rfl rfl id)
    (Chain.trans (setDemoStatus_chain fun _ => .inr ?_) (startDescent_chain .demo _))
  exact not_not.1 clear

/-! ## Timers (R128, R131, R135, R138, R148, R162) -/

theorem deadTimeExpiry_chain (s : State) : Chain calm s (deadTimeExpiry s) := by
  have rests : Chain calm s (moveCurtain (.plain .stopped) id s) :=
    moveCurtain_chain_still rfl (by simp [Move.plain]) (fun t => .refl t) s
  unfold deadTimeExpiry
  split
  · next expires =>
    split
    · exact startDescent_chain _ s
    · next pending =>
      split_ifs with unbarred
      · refine changeCurtain_chain (fun h => ?_) fun _ => raiseAllowed_of_unbarred (Option.isNone_iff_eq_none.1 unbarred)
        simp [curtainLegal, expires.1, pending] at h
        exact legal_raising h.2
      · exact rests
    · exact rests
    · exact rests
  · exact .refl s

theorem driveRepeatExpiry_chain (s : State) : Chain calm s (driveRepeatExpiry s) := by
  unfold driveRepeatExpiry
  split_ifs
  · exact (aside_chain ⟨rfl, rfl, rfl, rfl⟩ ⟨rfl, rfl⟩ rfl rfl id).trans (offerStateDrive_chain _)
  · exact .refl s

theorem raiseTimerExpiry_chain (s : State) : Chain calm s (raiseTimerExpiry s) := by
  unfold raiseTimerExpiry
  split_ifs
  · exact (aside_chain ⟨rfl, rfl, rfl, rfl⟩ ⟨rfl, rfl⟩ rfl rfl id).trans (faultCurtain_chain _ _)
  · exact .refl s

theorem startEmergencyStale_chain (s : State) : Chain calm s (startEmergencyStale s) := by
  unfold startEmergencyStale
  split_ifs
  · exact aside_chain ⟨rfl, rfl, rfl, rfl⟩ ⟨rfl, rfl⟩ rfl rfl id
  · exact .refl s

theorem positionStaleExpiry_chain (s : State) : Chain calm s (positionStaleExpiry s) := by
  unfold positionStaleExpiry
  split_ifs
  · have stale : Chain calm s (startEmergencyStale (reportStanding 3 s.curtain.position
        (s.onCurtain fun c => { c with stale := true, staleTimer := none }))) :=
      ((aside_chain ⟨rfl, rfl, rfl, rfl⟩ ⟨rfl, rfl⟩ rfl rfl id).trans (reportStanding_chain _ _ _)).trans
        (startEmergencyStale_chain _)
    dsimp only
    split_ifs
    · exact stale.trans (markDemo_chain _ _)
    · exact stale
  · exact .refl s

theorem emergencyStaleExpiry_chain (s : State) : Chain calm s (emergencyStaleExpiry s) := by
  unfold emergencyStaleExpiry
  split_ifs
  · have stopped : Chain calm s (s.onCurtain fun c => { c with emergencyTimer := none }) :=
      aside_chain ⟨rfl, rfl, rfl, rfl⟩ ⟨rfl, rfl⟩ rfl rfl id
    dsimp only
    split_ifs
    · exact stopped
    · exact stopped.trans (release_chain none _)
  · exact .refl s

theorem flowTimerExpiry_chain (s : State) : Chain calm s (flowTimerExpiry s) := by
  unfold flowTimerExpiry
  split_ifs
  · exact ((aside_chain ⟨rfl, rfl, rfl, rfl⟩ ⟨rfl, rfl⟩ rfl rfl id).trans (setAttention_calm _ _)).trans
      (reportStanding_chain _ _ _)
  · exact .refl s

theorem dwellExpiry_chain (s : State) : Chain calm s (dwellExpiry s) := by
  unfold dwellExpiry
  split_ifs with dwell
  · exact dwellEnds_chain (by rw [dwell.1]; rfl)
  · exact .refl s

/-! ## POS frames (7.4) -/

theorem failMoved_chain (s : State) : Chain calm s (failMoved s) := by
  unfold failMoved
  split_ifs
  · exact .refl s
  · exact failDemo_chain _ s

/-- A derivation gives FAULT with its cause, or IN, OUT or STOPPED (R132). -/
theorem derivedMove_cases (s : State) :
    (∃ cause, derivedMove s = .faulted cause) ∨ derivedMove s = .plain .atFloor ∨ derivedMove s = .plain .stored ∨
      derivedMove s = .plain .stopped := by
  unfold derivedMove
  dsimp only
  split_ifs <;> simp

/-- A derivation gives a legal move that begins no raise and no pause. -/
theorem derivedMove_legal (s : State) :
    (derivedMove s).legal = true ∧ (derivedMove s).state ≠ .raising ∧ (derivedMove s).state ≠ .deadTime := by
  obtain ⟨cause, h⟩ | h | h | h := derivedMove_cases s <;> rw [h]
  · exact ⟨rfl, by simp [Move.faulted], by simp [Move.faulted]⟩
  all_goals exact ⟨rfl, by simp [Move.plain], by simp [Move.plain]⟩

/-- Motion under local control gives a legal move into a movement or a derivation. -/
theorem localMove_legal (s : State) : (localMove s).legal = true ∧ (localMove s).state ≠ .deadTime := by
  obtain ⟨legal, _, still⟩ := derivedMove_legal s
  unfold localMove
  split
  · exact ⟨rfl, by simp [Move.moving]⟩
  · exact ⟨rfl, by simp [Move.moving]⟩
  · exact ⟨legal, still⟩
  · split_ifs <;> exact ⟨rfl, by simp [Move.moving]⟩

theorem followMove_chain {next : Move} {s : State} (legal : next.legal = true)
    (raising : next.state = .raising → raiseAllowed s) : Chain calm s (followMove next s) := by
  unfold followMove
  split
  · exact faultCurtain_chain _ s
  · split_ifs
    · exact .refl s
    · exact moveCurtain_chain (changeCurtain_chain (fun _ => legal) raising) failMoved_chain

theorem deriveState_chain (s : State) : Chain calm s (deriveState s) := by
  obtain ⟨legal, still, _⟩ := derivedMove_legal s
  unfold deriveState
  split_ifs
  · exact .refl s
  · exact followMove_chain legal fun h => absurd h still

/-- The end of the part's drive leaves a legal record but in DEAD_TIME, whose pending direction it removes. -/
theorem endDrive_chain {s : State} (moving : s.curtain.state ≠ .deadTime) : Chain calm s (endDrive s) := by
  refine .one (.curtain ⟨⟨rfl, rfl⟩, rfl, fun h => ?_, id, .inl ⟨rfl, rfl⟩, .inl⟩) (by decide)
  simp only [curtainLegal] at h ⊢
  cases state : s.curtain.state <;> simp_all

/-- The end of the part's drive and the move that the local flag makes are one change of the record. -/
theorem changeCurtain_endDrive_chain {next : Move} {s : State} (legal : next.legal = true)
    (raising : next.state = .raising → raiseAllowed s) : Chain calm s (changeCurtain next (endDrive s)) := by
  refine changeCurtain_chain_from (u := endDrive s) (.one (.curtain (f := fun c => moved next (endDrive s)
    { c with
      repeatTimer := none
      raiseTimer := none
      deadTimer := none
      pending := none
      descentStart := none
      estimator := { c.estimator with running := false } }) ?_) (by decide))
  exact ⟨⟨rfl, rfl⟩, rfl, fun _ => legal, fun h => ⟨h.1, h.2⟩, .inr rfl, raising⟩

theorem faultCurtain_of_quiet {cause : FaultCause} {s : State} (standing : s.curtain.state ≠ .released ∧ s.curtain.state ≠ .fault)
    (quiet : s.curtain.stageAlarm = false) : faultCurtain cause s = moveCurtain (.faulted cause) (failDemo .fault) s := by
  unfold faultCurtain
  simp [standing, quiet]

/-- The local flag appears: the part's drive ends and the motion flags give the state (R130). -/
theorem followMove_endDrive_chain {s : State} (standing : s.curtain.state ≠ .released ∧ s.curtain.state ≠ .fault)
    (quiet : s.curtain.stageAlarm = false) (flag : s.curtain.flags.localControl = true) :
    Chain calm s (followMove (localMove s) (endDrive s)) := by
  obtain ⟨legal, still⟩ := localMove_legal s
  by_cases paused : s.curtain.state = .deadTime
  · unfold followMove
    split
    · rw [faultCurtain_of_quiet (s := endDrive s) standing quiet]
      exact moveCurtain_chain (changeCurtain_endDrive_chain (legal_faulted _) (by simp [Move.faulted])) (failDemo_chain .fault)
    · have moves : ¬ ((localMove s).state = (endDrive s).curtain.state ∧ (localMove s).mode = (endDrive s).curtain.mode) :=
        fun h => still (h.1.trans paused)
      rw [if_neg moves]
      exact moveCurtain_chain (changeCurtain_endDrive_chain legal fun _ => .inr (.inl flag)) failMoved_chain
  · exact (endDrive_chain paused).trans (followMove_chain legal fun _ => .inr (.inl flag))

theorem applyLocal_chain (appears : Bool) {s : State} (flag : s.curtain.flags.localControl = true) :
    Chain calm s (applyLocal appears s) := by
  unfold applyLocal
  split
  · exact .refl s
  next standing =>
  split
  · split_ifs
    · exact .refl s
    · exact release_chain none s
  · next stage =>
    have standing : s.curtain.state ≠ .released ∧ s.curtain.state ≠ .fault := ⟨fun h => standing (.inr h), fun h => standing (.inl h)⟩
    have quiet : s.curtain.stageAlarm = false := by simpa using stage
    cases appears with
    | true => exact (followMove_endDrive_chain standing quiet flag).trans (failMoved_chain _)
    | false => exact followMove_chain (localMove_legal s).1 fun _ => .inr (.inl flag)

theorem applyLocalCleared_chain (s : State) : Chain calm s (applyLocalCleared s) := by
  unfold applyLocalCleared
  dsimp only
  split_ifs
  · exact (deriveState_chain s).trans (offerDrive_chain _ _)
  · exact deriveState_chain s

theorem applyLocalFlag_chain (wasLocal : Bool) (s : State) : Chain calm s (applyLocalFlag wasLocal s) := by
  unfold applyLocalFlag
  split_ifs with flag
  · exact applyLocal_chain _ flag
  · exact applyLocalCleared_chain s
  · exact .refl s

theorem applyDriveFault_chain (s : State) : Chain calm s (applyDriveFault s) := by
  unfold applyDriveFault
  split_ifs
  · exact faultCurtain_chain _ s
  · exact .refl s

theorem applyDerivation_chain (s : State) : Chain calm s (applyDerivation s) := by
  unfold applyDerivation
  split_ifs
  · exact (aside_chain ⟨rfl, rfl, rfl, rfl⟩ ⟨rfl, rfl⟩ rfl rfl id).trans (deriveState_chain _)
  · exact .refl s

theorem applyFloorCheck_chain (s : State) : Chain calm s (applyFloorCheck s) := by
  unfold applyFloorCheck
  split_ifs
  · have cleared : Chain calm s (s.onCurtain fun c => { c with floorCheck := false }) :=
      aside_chain ⟨rfl, rfl, rfl, rfl⟩ ⟨rfl, rfl⟩ rfl rfl id
    dsimp only
    split_ifs
    · exact cleared.trans (faultCurtain_chain _ _)
    · exact cleared
  · exact .refl s

theorem lateAction_chain (s : State) : Chain calm s (lateAction s) := by
  unfold lateAction
  dsimp only
  split_ifs
  · exact (release_chain none s).trans (reportStanding_chain _ _ _)
  · exact reportStanding_chain _ _ s
  · exact (reportStanding_chain _ _ s).trans (markDemo_chain _ _)
  · exact (reportStanding_chain _ _ s).trans (setAttention_calm _ _)

theorem estimatorReport_chain (s : State) : Chain calm s (estimatorReport s) := by
  have estimated : Chain calm s (s.onCurtain fun c =>
      { c with
        estimator := estimate s.command.profile c.position s.clock (s.curtain.descentStart.getD s.clock) c.estimator }) :=
    aside_chain ⟨rfl, rfl, rfl, rfl⟩ ⟨rfl, rfl⟩ rfl rfl fun h => ⟨inRange_estimate h.1 _ _ _ _, h.2⟩
  unfold estimatorReport
  dsimp only
  split_ifs
  · exact (estimated.trans (lateAction_chain _)).trans (aside_chain ⟨rfl, rfl, rfl, rfl⟩ ⟨rfl, rfl⟩ rfl rfl id)
  · exact estimated

theorem demoChecks_chain (s : State) : Chain calm s (demoChecks s) := by
  unfold demoChecks
  split_ifs
  · have seen : Chain calm s (s.onCurtain fun c => { c with sequence := { c.sequence with posSeen := true } }) :=
      aside_chain ⟨rfl, rfl, rfl, rfl⟩ ⟨rfl, rfl⟩ rfl rfl id
    dsimp only
    split_ifs
    · exact seen.trans (markDemo_chain _ _)
    · exact seen
  · exact .refl s

theorem applyEstimator_chain (s : State) : Chain calm s (applyEstimator s) := by
  unfold applyEstimator
  split_ifs
  · exact (estimatorReport_chain s).trans (demoChecks_chain _)
  · exact .refl s

/-! ## The lines and what the unit is told (7.7 to 7.9) -/

theorem floorReached_chain (s : State) : Chain calm s (floorReached s) := by
  have floor : Chain calm s (moveCurtain (.plain .atFloor) id s) :=
    moveCurtain_chain_still rfl (by simp [Move.plain]) (fun t => .refl t) s
  unfold floorReached
  split
  · exact (arrive_chain s).trans (judgeDescent_chain _)
  · exact (arrive_chain s).trans (judgeDescent_chain _)
  · exact floor
  · exact floor
  · exact faultCurtain_chain _ s
  · exact faultCurtain_chain _ s
  all_goals exact .refl s

theorem topReached_chain (s : State) : Chain calm s (topReached s) := by
  have top : Chain calm s (moveCurtain (.plain .stored) id s) :=
    moveCurtain_chain_still rfl (by simp [Move.plain]) (fun t => .refl t) s
  unfold topReached
  split
  · refine moveCurtain_chain_still rfl (by simp [Move.plain]) (fun t => ?_) s
    split_ifs
    · exact recordDemo_chain rfl t
    · exact .refl t
  · exact top
  · exact top
  · exact faultCurtain_chain _ s
  · exact faultCurtain_chain _ s
  all_goals exact .refl s

theorem limitFaulted_chain (cause : FaultCause) (s : State) : Chain calm s (limitFaulted cause s) := by
  unfold limitFaulted
  split_ifs
  · exact .refl s
  · exact faultCurtain_chain _ s

theorem handC1_chain (previous new : Reading) (s : State) : Chain calm s (handC1 previous new s) := by
  unfold handC1
  split
  any_goals exact .refl s
  · exact floorReached_chain s
  · exact limitFaulted_chain _ s
  · split_ifs
    · exact moveCurtain_chain_still rfl (by simp [Move.plain]) (failDemo_chain .fault) s
    · exact .refl s

theorem handC2_chain (previous new : Reading) (s : State) : Chain calm s (handC2 previous new s) := by
  unfold handC2
  split
  any_goals exact .refl s
  · exact topReached_chain s
  · exact limitFaulted_chain _ s
  · split_ifs
    · exact moveCurtain_chain_still rfl (by simp [Move.plain]) (fun t => .refl t) s
    · exact .refl s

theorem handC3_chain (previous new : Reading) (s : State) : Chain calm s (handC3 previous new s) := by
  unfold handC3
  split_ifs
  · exact reportStanding_chain _ _ s
  · exact moveCurtain_chain_still rfl (by simp [Move.plain])
      (fun t => (reportCurtain_chain _ _ _ _ t).trans (failDemo_chain _ _)) s
  · exact .refl s

theorem startFlow_chain (s : State) : Chain calm s (startFlow s) :=
  aside_chain ⟨rfl, rfl, rfl, rfl⟩ ⟨rfl, rfl⟩ rfl rfl id

theorem handC7_chain (previous new : Reading) (s : State) : Chain calm s (handC7 previous new s) := by
  unfold handC7
  split_ifs
  · exact aside_chain ⟨rfl, rfl, rfl, rfl⟩ ⟨rfl, rfl⟩ rfl rfl id
  · exact startFlow_chain s
  · exact .refl s

theorem stageAlarmRow_chain (s : State) : Chain calm s (stageAlarmRow s) := by
  unfold stageAlarmRow
  split
  · exact .refl s
  · exact .refl s
  · exact releaseInAlarm_chain _ s
  · exact releaseInAlarm_chain _ s
  · split_ifs with _ raising paused
    · exact releaseInAlarm_chain none s
    · exact changeCurtain_chain_still (legal_pausingLower .emergency) (by simp [Move.pausing]) s
    · exact setPending_chain paused rfl
    · exact .refl s
    · exact changeCurtain_chain_still (legal_lowering .emergency) (by simp [Move.moving]) s
    · exact startDescent_chain .emergency s

theorem curtainToldRing_chain (ring : RingState) (s : State) : Chain calm s (curtainToldRing ring s) := by
  have told : Chain calm s (s.onCurtain fun c => { c with ring := ring }) :=
    aside_chain ⟨rfl, rfl, rfl, rfl⟩ ⟨rfl, rfl⟩ rfl rfl id
  unfold curtainToldRing
  dsimp only
  split_ifs
  · exact told.trans (release_chain _ _)
  · exact told.trans (release_chain _ _)
  · exact told

theorem curtainToldPhase_chain (new : Phase) (s : State) : Chain calm s (curtainToldPhase new s) := by
  unfold curtainToldPhase
  split
  · split
    · exact moveCurtain_chain_still rfl (by simp [Move.plain]) (failDemo_chain .alarm) s
    · next paused =>
      split_ifs
      · exact setPending_chain paused rfl
      · exact .refl s
    all_goals exact .refl s
  · split_ifs
    · exact failDemo_chain .stopped s
    · exact .refl s

end Sys2Proof.Machine
end

section
/-! SUPPORT. The events of the house lights, the zones, the lines' filter and the phases as chains of small changes (chapters 2, 3, 5
and 6). -/

namespace Sys2Proof.Machine

variable {kinds : List Kind}

/-! ## House groups (5.4) -/

/-- One group's record is replaced by one that is legal if it was. -/
theorem setGroup_chain {g : Nat} {old new : Group} {s : State} (h : s.lights.groups[g]? = some old)
    (legal : old.legal = true → new.legal = true) : Chain calm s (setGroup g new s) := by
  refine .one (.lights ⟨rfl, fun i x hx => ?_⟩) (by decide)
  by_cases same : g = i
  · subst same
    have hg : g < 8 := (Vector.getElem?_eq_some_iff.1 h).1
    simp [hg] at hx
    exact ⟨old, h, hx ▸ legal⟩
  · simp [same] at hx
    exact ⟨x, hx, id⟩

theorem legal_of_noFade {g : Group} (h : g.fade = none) : g.legal = true := by
  simp [Group.legal, h]

theorem legal_fading {g : Group} {fade : Fade} (h : g.fade = some fade) :
    g.legal = true ↔ g.owner = .part ∧ min fade.start fade.target ≤ g.level ∧ g.level ≤ max fade.start fade.target := by
  simp [Group.legal, h]

/-- A step of a fade keeps its level between its start and its target (R83). -/
theorem levelAt_between (fade : Fade) {i : Nat} (h : i < fade.steps) :
    min fade.start fade.target ≤ fade.levelAt i ∧ fade.levelAt i ≤ max fade.start fade.target := by
  have share (a : Nat) : a * i / fade.steps ≤ a := by
    calc a * i / fade.steps ≤ a * fade.steps / fade.steps := Nat.div_le_div_right (Nat.mul_le_mul_left a h.le)
      _ = a := Nat.mul_div_cancel a (Nat.zero_lt_of_lt h)
  obtain ⟨d, hd⟩ | ⟨d, hd⟩ : (∃ d, fade.target = fade.start + d) ∨ ∃ d, fade.start = fade.target + d := by
    rcases Nat.le_total fade.start fade.target with le | le
    · exact .inl (Nat.exists_eq_add_of_le le)
    · exact .inr (Nat.exists_eq_add_of_le le)
  · have part : Int.tdiv (((fade.target : Int) - fade.start) * i) fade.steps = ((d * i / fade.steps : Nat) : Int) := by
      rw [hd]
      push_cast
      rw [add_sub_cancel_left, ← Int.natCast_mul, ← Int.ofNat_tdiv]
      rfl
    have := share d
    simp only [Fade.levelAt, part]
    generalize d * i / fade.steps = q at this
    omega
  · have part : Int.tdiv (((fade.target : Int) - fade.start) * i) fade.steps = -((d * i / fade.steps : Nat) : Int) := by
      have diff : ((fade.target : Int) - fade.start) * i = -((d * i : Nat) : Int) := by
        rw [hd]
        push_cast
        ring
      rw [diff, Int.neg_tdiv, ← Int.ofNat_tdiv]
    have := share d
    simp only [Fade.levelAt, part]
    generalize d * i / fade.steps = q at this
    omega

theorem houseFade_chain (g level time : Nat) (s : State) : Chain calm s (houseFade g level time s).2 := by
  unfold houseFade
  split
  · exact .refl s
  · next group hg =>
    split
    · exact .refl s
    split
    · exact .refl s
    · next owner =>
      split
      · exact setGroup_chain hg fun _ => legal_of_noFade rfl
      · refine setGroup_chain hg fun _ => (legal_fading rfl).2 ⟨?_, Nat.min_le_left _ _, Nat.le_max_left _ _⟩
        cases h : group.owner with
        | part => rfl
        | console => exact absurd h owner

theorem fadeStep_chain (g : Nat) (s : State) : Chain calm s (fadeStep g s) := by
  unfold fadeStep
  split
  · exact .refl s
  · next group hg =>
    split
    · exact .refl s
    · next fade hf =>
      split
      · split
        · next short =>
          refine setGroup_chain hg fun h => (legal_fading rfl).2 ?_
          exact ⟨((legal_fading hf).1 h).1, levelAt_between fade short⟩
        · exact setGroup_chain hg fun _ => legal_of_noFade rfl
      · exact .refl s

theorem releaseGroup_chain (g : Nat) (s : State) : Chain calm s (releaseGroup g s).2 := by
  unfold releaseGroup
  split
  · exact .refl s
  · next hg =>
    split
    · exact .refl s
    split
    · exact .refl s
    · exact setGroup_chain hg fun _ => legal_of_noFade rfl

theorem takeGroup_chain (g : Nat) (s : State) : Chain calm s (takeGroup g s).2 := by
  unfold takeGroup
  split
  · exact .refl s
  · next hg =>
    split
    · exact .refl s
    · exact setGroup_chain hg fun _ => legal_of_noFade rfl

theorem takeBackCheck_chain (g : Nat) (s : State) : Chain calm s (takeBackCheck g s) := by
  unfold takeBackCheck
  split
  · exact .refl s
  · next hg =>
    split
    · exact (setGroup_chain hg fun _ => legal_of_noFade rfl).trans (setAttention_calm _ _)
    · exact .refl s

theorem silenceExpiry_chain (segment channel : Nat) (s : State) : Chain calm s (silenceExpiry segment channel s) := by
  have silenced : Chain calm s (s.onLights fun l =>
      { l with
        policy := l.policy.map fun e => if e.defn.hasKey segment channel then { e with silence := none } else e }) :=
    policy_chain s fun policy => policy.map fun e => if e.defn.hasKey segment channel then { e with silence := none } else e
  unfold silenceExpiry
  split
  · exact .refl s
  · split
    · dsimp only
      split
      · exact silenced.trans (takeBackCheck_chain _ _)
      · exact silenced
    · exact .refl s

theorem trackLevels_chain (payload : List Byte) (s : State) : Chain calm s (trackLevels payload s) := by
  unfold trackLevels
  split
  · exact .refl s
  · next segment items _ =>
    refine forEach_chain _ (fun item _ t => ?_) s
    unfold trackChannel
    split
    · exact .refl t
    · exact policy_chain t fun policy => policy.map fun e => if e.defn.hasKey segment item.1 then
        { e with lastLevel := item.2, lastConsole := some t.clock, silence := some (t.timerOf t.command.profile.refreshLimit) }
        else e

theorem membershipChecks_chain (before after : Option Nat) (s : State) : Chain calm s (membershipChecks before after s) := by
  have check (group : Option Nat) (t : State) : Chain calm t (match group with
      | none => t
      | some g => takeBackCheck g t) := by
    split
    · exact .refl t
    · exact takeBackCheck_chain _ t
  unfold membershipChecks
  split
  · exact .refl s
  · exact (check before s).trans (check after _)

theorem applyPolicy_chain (load : PolicyLoad) (s : State) : Chain calm s (applyPolicy load s).2 := by
  unfold applyPolicy
  split
  · next segment channel =>
    split
    · exact .refl s
    · exact (policy_chain s fun policy => policy.filter fun e => !e.defn.hasKey segment channel).trans
        (membershipChecks_chain _ _ _)
  · next d =>
    split
    · exact (policy_chain s fun policy =>
        policy.map fun e => if e.defn.hasKey d.segment d.channel then { e with defn := d } else e).trans
        (membershipChecks_chain _ _ _)
    · split
      · exact (policy_chain s fun policy => insertPolicy
          { defn := d, lastLevel := 0, lastConsole := none, silence := none, lastOutput := none } policy).trans
          (membershipChecks_chain _ _ _)
      · exact .refl s

/-! ## Zones and windows (chapter 6) -/

/-- The verification timer runs exactly in VERIFYING (R107). -/
def Zone.timed (zone : Zone) : Prop := zone.verifyTimer.isSome = decide (zone.state = .verifying)

/-- The timer runs exactly while the window is OPEN (R116). -/
def Window.timed (window : Window) : Prop := window.timer.isSome = window.isOpen

theorem zoneTimersRun_iff {s : State} :
    zoneTimersRun s = true ↔ (∀ z zone, zoneAt s z = some zone → zone.timed) ∧
      ∀ (w : Nat) (window : Window), s.zones.windows[w]? = some window → window.timed := by
  have zone_mem (o : Option Zone) : o ∈ s.zones.zones.toList ↔ ∃ z : Nat, s.zones.zones[z]? = some o := by
    simp [Vector.mem_iff_getElem?]
  have window_mem (w : Window) : w ∈ s.zones.windows.toList ↔ ∃ i : Nat, s.zones.windows[i]? = some w := by
    simp [Vector.mem_iff_getElem?]
  simp only [zoneTimersRun, Bool.and_eq_true, List.all_eq_true, zone_mem, window_mem, decide_eq_true_eq,
    forall_exists_index]
  refine and_congr ⟨fun h z zone hz => ?_, fun h o z hz => ?_⟩ ⟨fun h w window hw => h window w hw, fun h window w hw => h w window hw⟩
  · have := h (some zone) z (by simpa [zoneAt, Option.join_eq_some_iff] using hz)
    simpa [Zone.timed] using this
  · cases o with
    | none => rfl
    | some zone => simpa [Zone.timed] using h z zone (by simp [zoneAt, hz])

theorem zoneAt_setZone (z i : Nat) (zone : Option Zone) (s : State) :
    zoneAt (setZone z zone s) i = if z = i ∧ z < 48 then zone else zoneAt s i := by
  by_cases same : z = i
  · subst same
    by_cases range : z < 48
    · simp [zoneAt, setZone, range]
    · simp [zoneAt, setZone, range]
  · simp [zoneAt, setZone, same]

theorem lt_of_zoneAt {s : State} {z : Nat} {zone : Zone} (h : zoneAt s z = some zone) : z < 48 := by
  unfold zoneAt at h
  by_contra out
  rw [Vector.getElem?_eq_none (by omega)] at h
  simp at h

theorem windows_setWindow (w i : Nat) (window : Window) (s : State) :
    (setWindow w window s).zones.windows[i]? = if w = i ∧ w < 16 then some window else s.zones.windows[i]? := by
  by_cases same : w = i
  · subst same
    by_cases range : w < 16
    · simp [setWindow, range]
    · simp [setWindow, range]
  · simp [setWindow, same]

/-- A zone's record is replaced by one whose timer is right if every timer was. -/
theorem setZone_chain (hk : .zones ∈ kinds) {z : Nat} {new : Option Zone} {s : State}
    (timed : zoneTimersRun s = true → ∀ zone, new = some zone → zone.timed) : Chain kinds s (setZone z new s) := by
  refine .one (.zones rfl fun h => ?_) hk
  have zones := zoneTimersRun_iff.1 h
  refine (zoneTimersRun_iff (s := setZone z new s)).2 ⟨fun i zone hi => ?_, zones.2⟩
  rw [zoneAt_setZone] at hi
  split at hi
  · exact timed h zone hi
  · exact zones.1 i zone hi

/-- A window's record is replaced by one whose timer is right. -/
theorem setWindow_chain (hk : .zones ∈ kinds) {window : Window} (timed : window.timed) (w : Nat) (s : State) :
    Chain kinds s (setWindow w window s) := by
  refine .one (.zones rfl fun h => ?_) hk
  have zones := zoneTimersRun_iff.1 h
  refine (zoneTimersRun_iff (s := setWindow w window s)).2 ⟨zones.1, fun i x hi => ?_⟩
  rw [windows_setWindow] at hi
  split at hi
  · exact Option.some.inj hi ▸ timed
  · exact zones.2 i x hi

theorem reportZone_chain (z : Nat) (new previous : ZoneState) (cause : ZoneCause) (s : State) :
    Chain zoneKinds s (reportZone z new previous cause s) := report_chain (by decide) (by decide) _ _ s

theorem reportWindow_chain (w : Nat) (new previous : Bool) (cause : ZoneCause) (s : State) :
    Chain zoneKinds s (reportWindow w new previous cause s) := report_chain (by decide) (by decide) _ _ s

theorem setAttention_zone (flag : Flag) (s : State) : Chain zoneKinds s (setAttention flag s) :=
  setAttention_chain (by decide) flag s

theorem zoneFaultAttention_chain (previous new : ZoneState) (s : State) :
    Chain zoneKinds s (zoneFaultAttention previous new s) := by
  unfold zoneFaultAttention
  split
  · exact setAttention_zone _ s
  · exact .refl s

section Moves

variable {new : ZoneState} {verify : Option Timer} (timed : verify.isSome = decide (new = .verifying))
include timed

theorem moveZone_chain (z : Nat) (cause : ZoneCause) (s : State) : Chain zoneKinds s (moveZone z new verify cause s) := by
  unfold moveZone
  split
  · exact .refl s
  · split
    · exact .refl s
    · exact ((setZone_chain (by decide) fun _ _ h => by cases h; exact timed).trans (reportZone_chain _ _ _ _ _)).trans
        (zoneFaultAttention_chain _ _ _)

end Moves

theorem coincideLoop_chain (fuel : Nat) (work : List Nat) (s : State) : Chain zoneKinds s (coincideLoop fuel work s) := by
  induction fuel generalizing work s with
  | zero => exact .refl s
  | succ fuel ih =>
    cases work with
    | nil => exact .refl s
    | cons z work =>
      have partners : Chain zoneKinds s
          (forEach (linkedMasked s z) (fun p => moveZone p .confirmed none .coincidence) s) :=
        forEach_chain _ (fun p _ t => moveZone_chain rfl p .coincidence t) s
      unfold coincideLoop
      dsimp only
      split
      · exact (partners.trans (moveZone_chain rfl z .coincidence _)).trans (ih _ _)
      · exact partners.trans (ih _ _)

theorem enterZone_chain {new : ZoneState} {verify : Option Timer} (timed : verify.isSome = decide (new = .verifying)) (z : Nat)
    (cause : ZoneCause) (s : State) : Chain zoneKinds s (enterZone z new verify cause s) := by
  unfold enterZone
  split
  · exact .refl s
  · dsimp only
    split
    · exact (moveZone_chain timed z cause s).trans (coincideLoop_chain _ _ _)
    · exact moveZone_chain timed z cause s

theorem closeWindow_chain (cause : ZoneCause) (w : Nat) (s : State) : Chain zoneKinds s (closeWindow cause w s) := by
  unfold closeWindow
  split
  · exact .refl s
  · split
    · exact (setWindow_chain (by decide) (by rfl) w s).trans (reportWindow_chain _ _ _ _ _)
    · exact .refl s

theorem resolveAlarm_chain (z : Nat) (s : State) : Chain zoneKinds s (resolveAlarm z s) := by
  unfold resolveAlarm
  split
  · exact .refl s
  · split
    · exact enterZone_chain rfl z _ s
    · exact .refl s

theorem resolveClear_chain (z : Nat) (s : State) : Chain zoneKinds s (resolveClear z s) := by
  unfold resolveClear
  split
  · exact enterZone_chain rfl z _ s
  · exact .refl s

theorem closeWindows_chain (windows : List Nat) (cause : ZoneCause) (s : State) :
    Chain zoneKinds s (closeWindows windows cause s) :=
  ((forEach_chain _ (fun w _ t => closeWindow_chain cause w t) s).trans
    (forEach_chain _ (fun z _ t => resolveAlarm_chain z t) _)).trans
    (forEach_chain _ (fun z _ t => resolveClear_chain z t) _)

theorem alarmClosure_chain (s : State) : Chain zoneKinds s (alarmClosure s) := by
  unfold alarmClosure
  split
  · exact closeWindows_chain _ _ s
  · exact .refl s

/-! ## The changes of the steps (R102) -/

theorem confirmedFault_chain (z : Nat) (state : ZoneState) (last new : Condition) (cause : ZoneCause) (s : State) :
    Chain zoneKinds s (confirmedFault z state last new cause s) := by
  unfold confirmedFault
  split
  · exact (reportZone_chain _ _ _ _ s).trans (setAttention_zone _ _)
  · exact .refl s

theorem zoneReport_chain (z : Nat) (condition : Condition) (s : State) : Chain zoneKinds s (zoneReport z condition s) := by
  unfold zoneReport
  split
  · exact setAttention_zone _ s
  · next zone hz =>
    refine ((setZone_chain (by decide) fun h x hx => ?_).trans (enterZone_chain ?_ z _ _)).trans (confirmedFault_chain _ _ _ _ _ _)
    · exact Option.some.inj hx ▸ (zoneTimersRun_iff.1 h).1 z zone hz
    · split <;> simp_all

theorem zoneStale_chain (z : Nat) (s : State) : Chain zoneKinds s (zoneStale z s) := by
  unfold zoneStale
  split
  · exact .refl s
  · next zone hz =>
    have stale : Chain zoneKinds s (setZone z (some { zone with stale := true, staleTimer := none }) s) :=
      setZone_chain (by decide) fun h x hx => Option.some.inj hx ▸ (zoneTimersRun_iff.1 h).1 z zone hz
    dsimp only
    split
    · exact stale.trans (enterZone_chain rfl z _ _)
    · exact stale

/-- A change of PANEL's record. -/
theorem panel_chain (f : Panel → Panel) (s : State) :
    Chain zoneKinds s (s.onZones fun m => { m with panel := f m.panel }) := .one (.zones rfl id) (by decide)

theorem movePanel_chain (new : ZoneState) (cause : ZoneCause) (s : State) : Chain zoneKinds s (movePanel new cause s) := by
  unfold movePanel
  dsimp only
  split
  · exact .refl s
  · exact ((panel_chain (fun p => { p with state := new }) s).trans (reportZone_chain _ _ _ _ _)).trans
      (zoneFaultAttention_chain _ _ _)

theorem panelReading_chain (reading : Reading) (s : State) : Chain zoneKinds s (panelReading reading s) :=
  ((panel_chain (fun p => { p with last := panelCondition reading }) s).trans (movePanel_chain _ _ _)).trans
    (confirmedFault_chain _ _ _ _ _ _)

theorem restoreZone_chain (z : Nat) (s : State) : Chain zoneKinds s (restoreZone z s) := by
  unfold restoreZone
  split
  · exact .refl s
  · refine enterZone_chain ?_ z _ s
    unfold Zone.restored
    split <;> rfl

theorem resetZone_chain (z : Nat) (s : State) : Chain zoneKinds s (resetZone z s) := by
  unfold resetZone
  split
  · exact movePanel_chain _ _ s
  · exact restoreZone_chain z s

theorem openWindow_chain (cause : ZoneCause) (w : Nat) (s : State) : Chain zoneKinds s (openWindow cause w s) := by
  unfold openWindow
  split
  · exact .refl s
  · split
    · exact .refl s
    · dsimp only
      split
      · exact setWindow_chain (by decide) (by rfl) w s
      · exact (setWindow_chain (by decide) (by rfl) w s).trans (reportWindow_chain _ _ _ _ _)

theorem zoneLoadChange_chain (load : ZoneLoad) (s : State) : Chain zoneKinds s (zoneLoadChange load s) := by
  unfold zoneLoadChange
  split
  · exact setZone_chain (by decide) fun _ _ h => nomatch h
  · next z d =>
    split
    · exact setZone_chain (by decide) fun _ _ h => Option.some.inj h ▸ rfl
    · next zone hz =>
      exact setZone_chain (by decide) fun h x hx => Option.some.inj hx ▸ (zoneTimersRun_iff.1 h).1 z zone hz
  · exact setWindow_chain (by decide) (by rfl) _ s
  · exact setWindow_chain (by decide) (by rfl) _ s

/-! ## Steps of the Zone Monitor (R102, R121) -/

/-- The kinds of change of a step of the Zone Monitor whose evacuation request is ignored. -/
def alarmKinds : List Kind := calm ++ [.zones, .alarm, .k4, .stage]

/-- The kinds of change in the telling of the alarm condition to the Curtain Supervisor (R144, R148). -/
def stageKinds : List Kind := .stage :: calm

theorem calm_stage {s t : State} (h : Chain calm s t) : Chain stageKinds s t := h.mono (by simp [stageKinds])

theorem stage_alarm {s t : State} (h : Chain stageKinds s t) : Chain alarmKinds s t := h.mono (by decide)

theorem calm_routine {s t : State} (h : Chain calm s t) : Chain routine s t := h.mono (by simp [routine])

theorem routine_usual {s t : State} (h : Chain routine s t) : Chain usual s t := h.mono (by decide)

theorem calm_alarm {s t : State} (h : Chain calm s t) : Chain alarmKinds s t := h.mono (by simp [alarmKinds])

theorem zone_alarm {s t : State} (h : Chain zoneKinds s t) : Chain alarmKinds s t := h.mono (by decide)

theorem alarm_usual {s t : State} (h : Chain alarmKinds s t) : Chain usual s t := h.mono (by decide)

theorem calm_usual {s t : State} (h : Chain calm s t) : Chain usual s t := h.mono (by decide)

theorem deriveK4_chain (s : State) : Chain alarmKinds s (deriveK4 s) := .one (.k4 s) (by decide)

theorem curtainToldStage_chain (stage : Bool) (s : State) : Chain stageKinds s (curtainToldStage stage s) := by
  have stageSet (value : Bool) (timer : Option Timer) : Chain stageKinds s (s.onCurtain fun c =>
      { c with stageAlarm := value, k6 := value, flowTimer := timer }) := .one (.stage value timer s) (by decide)
  unfold curtainToldStage
  split
  · exact .refl s
  split
  · have risen : Chain stageKinds s (s.onCurtain fun c => { c with stageAlarm := true, k6 := true }) :=
      stageSet true s.curtain.flowTimer
    unfold stageAlarmRises
    dsimp only
    split
    · exact risen.trans (calm_stage (stageAlarmRow_chain _))
    · exact (risen.trans (calm_stage (startFlow_chain _))).trans (calm_stage (stageAlarmRow_chain _))
  · exact stageSet false none

theorem curtainToldAlarm_chain (before : AlarmRecord) (s : State) : Chain stageKinds s (curtainToldAlarm before s) := by
  unfold curtainToldAlarm
  dsimp only
  split
  · exact (curtainToldStage_chain _ s).trans (calm_stage (recordDemo_chain rfl _))
  · exact curtainToldStage_chain _ s

section Steps

variable {evacuation : State → State} (sub : alarmKinds ⊆ kinds) (evac : ∀ t, Chain kinds t (evacuation t))
include sub evac

theorem handOn_chain (before : AlarmRecord) (origin : Byte) (s : State) :
    Chain kinds s (handOn evacuation before origin s) := by
  have told : Chain kinds s (callsToldAlarm before (deriveK4 (curtainToldAlarm before
      (setAttention .alarmChange (reportAlarm origin s))))) :=
    ((((calm_alarm ((report_calm _ _ s).trans (setAttention_calm _ _))).trans (stage_alarm (curtainToldAlarm_chain before _))).trans
      (deriveK4_chain _)).trans (calm_alarm (callsToldAlarm_chain before _))).mono sub
  have ends (t : State) : Chain kinds t (notice true (staffRequest before s.zones.alarm t)) :=
    (calm_alarm ((staffRequest_chain _ _ t).trans (notice_chain _ _))).mono sub
  unfold handOn
  dsimp only
  split
  · exact (told.trans (evac _)).trans (ends _)
  · exact told.trans (ends _)

theorem zoneStepWith_chain (origin : Byte) {change : State → State} {s : State} (changes : Chain zoneKinds s (change s)) :
    Chain kinds s (zoneStepWith evacuation origin change s) := by
  have closed : Chain kinds s (alarmClosure (change s)) := (zone_alarm (changes.trans (alarmClosure_chain _))).mono sub
  unfold zoneStepWith
  dsimp only
  split
  · exact closed
  · exact (closed.trans (.one (.alarm _ _) (sub (by decide)))).trans (handOn_chain sub evac _ _ _)

end Steps

theorem closeAllWindows_chain (cause : ZoneCause) (s : State) : Chain alarmKinds s (closeAllWindows cause s) :=
  zoneStepWith_chain (fun _ h => h) (fun t => .refl t) _ (closeWindows_chain _ _ s)

/-! ## A change of phase (R37) -/

theorem reportPhase_chain (new previous : Phase) (cause : PhaseCause) (s : State) :
    Chain calm s (reportPhase new previous cause s) := report_calm _ _ s

theorem reportHold_chain (edge : Byte) (pending : Bool) (s : State) : Chain calm s (reportHold edge pending s) :=
  report_calm _ _ s

theorem tellPhase_chain (new previous : Phase) (s : State) : Chain alarmKinds s (tellPhase new previous s) := by
  have told (t : State) : Chain alarmKinds t (callsToldPhase new previous (curtainToldPhase new (deriveK4 t))) :=
    ((deriveK4_chain t).trans (calm_alarm (curtainToldPhase_chain new _))).trans (calm_alarm (callsToldPhase_chain _ _ _))
  unfold tellPhase
  dsimp only
  split
  · exact (closeAllWindows_chain _ s).trans (told _)
  · exact told s

/-- The kinds of change in a change of phase after that of the record. -/
def tellingKinds : List Kind := .counts :: alarmKinds

theorem routine_telling {s t : State} (h : Chain routine s t) : Chain tellingKinds s t := h.mono (by decide)

theorem alarm_telling {s t : State} (h : Chain alarmKinds s t) : Chain tellingKinds s t := h.mono (by simp [tellingKinds])

/-- The kinds of change in a change of phase. -/
def phaseKinds : List Kind := .place :: tellingKinds

theorem telling_phase {s t : State} (h : Chain tellingKinds s t) : Chain phaseKinds s t := h.mono (by simp [phaseKinds])

theorem phase_usual {s t : State} (h : Chain phaseKinds s t) : Chain usual s t := h.mono (by decide)

/-- After the change of the record, a change of phase leaves the place in the performance as it is. -/
theorem changePhase_after_chain {new : Phase} {cause : PhaseCause} {fields : PhaseUnit → PhaseUnit} {further : State → State}
    (adds : ∀ t, Chain routine t (further t)) (s : State) :
    Chain tellingKinds (s.onPhase fun p => { fields p with phase := new }) (changePhase new cause fields further s) :=
  ((routine_telling ((calm_routine (reportPhase_chain _ _ _ _)).trans (adds _))).trans
    (alarm_telling (tellPhase_chain _ _ _))).trans (routine_telling (calm_routine (notice_chain _ _)))

theorem changePhase_chain {new : Phase} {cause : PhaseCause} {fields : PhaseUnit → PhaseUnit} {further : State → State}
    {s : State} (place : PlaceStep s.phase { fields s.phase with phase := new }) (adds : ∀ t, Chain routine t (further t)) :
    Chain phaseKinds s (changePhase new cause fields further s) :=
  (Chain.one (.place place) (by decide)).trans (telling_phase (changePhase_after_chain adds s))

theorem evacuate_chain (s : State) : Chain phaseKinds s (evacuate s) := by
  unfold evacuate
  split
  · exact .refl s
  · exact changePhase_chain ⟨⟨rfl, rfl⟩, ⟨rfl, rfl⟩, rfl⟩ fun t => .refl t

theorem zoneStep_chain (origin : Byte) {change : State → State} {s : State} (changes : Chain zoneKinds s (change s)) :
    Chain phaseKinds s (zoneStep origin change s) := zoneStepWith_chain (by decide) evacuate_chain origin changes

/-! ## Countdowns, holds and show stop (3.3, 3.4) -/

theorem counts_chain {f : PhaseUnit → PhaseUnit} {s : State} (h : CountsStep s.phase (f s.phase)) :
    Chain routine s (s.onPhase f) := .one (.counts h) (by decide)

/-- New countdowns within their ranges, beside any hold-pending second and wrap mark. -/
theorem countdown_chain {s : State} {up left : Nat} (pending wrap : Bool) (hup : up ≤ max 7200 s.phase.curtainUp)
    (hleft : left ≤ max 3600 s.phase.intervalLeft) :
    Chain routine s (s.onPhase fun p =>
      { p with curtainUp := up, intervalLeft := left, holdPending := pending, wrapDue := wrap }) :=
  counts_chain ⟨⟨rfl, rfl, rfl, rfl⟩, ⟨rfl, rfl⟩, ⟨rfl, rfl⟩, hup, hleft, Nat.le_max_right _ _, .inl⟩

/-- The curtain-up countdown is set within its range. -/
theorem curtainUp_chain {s : State} {value : Nat} (h : value ≤ max 7200 s.phase.curtainUp) :
    Chain routine s (s.onPhase fun p => { p with curtainUp := value }) :=
  countdown_chain s.phase.holdPending s.phase.wrapDue h (Nat.le_max_right _ _)

/-- The interval countdown is set within its range. -/
theorem intervalLeft_chain {s : State} {value : Nat} (h : value ≤ max 3600 s.phase.intervalLeft) :
    Chain routine s (s.onPhase fun p => { p with intervalLeft := value }) :=
  countdown_chain s.phase.holdPending s.phase.wrapDue (Nat.le_max_right _ _) h

/-- The hold-pending second is set or cleared. -/
theorem holdPending_chain (value : Bool) (s : State) : Chain routine s (s.onPhase fun p => { p with holdPending := value }) :=
  countdown_chain value s.phase.wrapDue (Nat.le_max_right _ _) (Nat.le_max_right _ _)

theorem pred_le_max (top n : Nat) : n - 1 ≤ max top n := le_trans (Nat.sub_le n 1) (Nat.le_max_right top n)

theorem pendingDecrement_chain (s : State) : Chain routine s (pendingDecrement s) := by
  unfold pendingDecrement
  split
  · exact (curtainUp_chain (pred_le_max _ _)).trans (calm_routine (announce_chain _ _ _))
  · exact .refl s

theorem endHold_chain (s : State) : Chain routine s (endHold s) :=
  ((pendingDecrement_chain s).trans (holdPending_chain false _)).trans (calm_routine (reportHold_chain _ _ _))

theorem leaveHold_chain (previous : Phase) (s : State) : Chain calm s (leaveHold previous s) := by
  unfold leaveHold
  split
  · exact reportHold_chain _ _ s
  · exact .refl s

theorem checkDemonstration_chain (s : State) : Chain calm s (checkDemonstration s) := by
  have missed (t : State) : Chain calm t (setAttention .demoResult
      (report .demo ([byte DemoStatus.missed.code, 0xFF] ++ bytes2 (setDemoStatus .missed t).phase.demoTime ++ [0])
        (setDemoStatus .missed t))) :=
    ((setDemoStatus_chain (by simp [DemoStatus.inProgress])).trans (report_calm _ _ _)).trans (setAttention_calm _ _)
  unfold checkDemonstration
  split
  · exact .refl s
  · dsimp only
    split
    · exact (stopDwell_chain s).trans (missed _)
    · exact missed s

theorem wrapActs_chain (s : State) : Chain routine s (wrapActs s) := by
  have up : Chain routine s (if 0 < s.phase.curtainUp then
      announce .curtainUp (s.phase.curtainUp - 1) (s.onPhase fun p => { p with curtainUp := p.curtainUp - 1 })
    else s) := by
    split
    · exact (curtainUp_chain (pred_le_max _ _)).trans (calm_routine (announce_chain _ _ _))
    · exact .refl s
  unfold wrapActs
  split
  · exact up
  · exact up
  · exact holdPending_chain true s
  · split
    · exact (intervalLeft_chain (pred_le_max _ _)).trans (calm_routine (announce_chain _ _ _))
    · exact .refl s
  all_goals exact .refl s

theorem prescalerWraps_chain (s : State) : Chain routine s (prescalerWraps s) := by
  unfold prescalerWraps
  split
  · exact (countdown_chain s.phase.holdPending false (Nat.le_max_right _ _) (Nat.le_max_right _ _)).trans (wrapActs_chain _)
  · exact .refl s

theorem advancePrescaler_chain (s : State) : Chain routine s (s.onPhase advancePrescaler) := by
  refine counts_chain ?_
  unfold advancePrescaler
  split
  · next short =>
    exact ⟨⟨rfl, rfl, rfl, rfl⟩, ⟨rfl, rfl⟩, ⟨rfl, rfl⟩, Nat.le_max_right _ _, Nat.le_max_right _ _,
      le_trans short (Nat.le_max_left _ _), .inl⟩
  · exact ⟨⟨rfl, rfl, rfl, rfl⟩, ⟨rfl, rfl⟩, ⟨rfl, rfl⟩, Nat.le_max_right _ _, Nat.le_max_right _ _,
      Nat.zero_le _, .inl⟩

theorem setCountdown_chain (value : Nat) (s : State) : Chain routine s (setCountdown value s).2 := by
  unfold setCountdown
  split
  · exact .refl s
  · next range =>
    have up : value ≤ max 7200 s.phase.curtainUp := le_trans (Nat.not_lt.1 range) (Nat.le_max_left _ _)
    split
    · exact curtainUp_chain up
    · exact curtainUp_chain up
    · exact countdown_chain false s.phase.wrapDue up (Nat.le_max_right _ _)
    · split
      · next short => exact intervalLeft_chain (le_trans short (Nat.le_max_left _ _))
      · exact intervalLeft_chain (Nat.le_max_left _ _)
    all_goals exact .refl s

/-- Show stop is set outside CLOSED alone (R54). -/
theorem changeShowStop_chain {value : Bool} (cause : PhaseCause) {s : State}
    (h : value = true → s.phase.showStop = true ∨ s.phase.phase ≠ .closed) : Chain routine s (changeShowStop value cause s) :=
  (((counts_chain (f := fun p => { p with showStop := value }) ⟨⟨rfl, rfl, rfl, rfl⟩, ⟨rfl, rfl⟩, ⟨rfl, rfl⟩,
    Nat.le_max_right _ _, Nat.le_max_right _ _, Nat.le_max_right _ _, h⟩).trans (calm_routine (reportPhase_chain _ _ _ _))).trans
    (calm_routine (selection_chain _))).trans (calm_routine (notice_chain _ _))

theorem setShowStop_chain (cause : PhaseCause) (s : State) : Chain routine s (setShowStop cause s).2 := by
  unfold setShowStop
  split
  · exact .refl s
  · next closed =>
    split
    · exact .refl s
    · exact changeShowStop_chain cause fun _ => .inr closed

theorem clearShowStop_chain (s : State) : Chain routine s (clearShowStop s).2 := by
  unfold clearShowStop
  split
  · exact changeShowStop_chain .command fun h => nomatch h
  · exact .refl s

end Sys2Proof.Machine
end

section
/-! SUPPORT. Every command as a chain of acts: calm changes, position reports, steps of the Zone Monitor, changes of phase, and the
restarts. What each act keeps, every command keeps. -/

namespace Sys2Proof.Machine

/-! ## The acts -/

/-- The changes that the events and requests of chapter 6 make in a step of the Zone Monitor, each where its event makes it. -/
inductive ZoneChange (s : State) : (State → State) → Prop
  | report (z : Nat) (condition : Condition) : ZoneChange s (zoneReport z condition)
  | verified (z : Nat) : ZoneChange s (verified z)
  | stale (z : Nat) : ZoneChange s (zoneStale z)
  | closed (windows : List Nat) (cause : ZoneCause) : ZoneChange s (closeWindows windows cause)
  | panel (reading : Reading) : ZoneChange s (panelReading reading)
  | isolated (z : Nat) : ZoneChange s (enterZone z .isolated none .command)
  | restored (z : Nat) : ZoneChange s (restoreZone z)
  | reset (zones : List Nat) : ZoneChange s (forEach zones resetZone)
  | opened (cause : ZoneCause) (w : Nat) (h : s.zones.alarm.confirmed = []) : ZoneChange s (openWindow cause w)
  | loaded (load : ZoneLoad) (h : zoneLoadResult load s = .done) : ZoneChange s (zoneLoadChange load)

/-- The performance record's place and counts are legal (R36, R47, R50, R54). -/
def placeLegal (p : PhaseUnit) : Prop := phasesKept p = true ∧ countsInRange p = true

/-- The record that ENPF leaves before it closes the windows (R46). -/
def PhaseUnit.leaving (p : PhaseUnit) : PhaseUnit :=
  { p with curtainUp := 0, intervalLeft := 0, heldFrom := none, saved := none, holdPending := false, showStop := false }

/-- An act; those that empty the report stand only where `empties` is true. -/
inductive Act (empties : Bool) : State → State → Prop
  | routine {s t : State} (h : Chain routine s t) : Act empties s t
  | apart {s t : State} (h : Chain apartKinds s t) : Act empties s t
  | position (payload : List Byte) (s : State) : Act empties s (takePos payload s)
  | zone {s : State} {change : State → State} (origin : Byte) (h : ZoneChange s change) :
      Act empties s (zoneStep origin change s)
  | zonesCleared {s : State} (h : zonesClearable s = true) : Act empties s (clearZones s)
  | entered {s : State} {new : Phase} {fields : PhaseUnit → PhaseUnit} {further : State → State} (cause : PhaseCause)
      (place : PlaceStep s.phase { fields s.phase with phase := new })
      (legal : placeLegal s.phase → placeLegal { fields s.phase with phase := new })
      (adds : ∀ t, Chain routine t (further t)) : Act empties s (changePhase new cause fields further s)
  | ended {s : State} (h : s.phase.phase ≠ .closed) :
      Act empties s (changePhase .closed .command id (leaveHold s.phase.phase)
        (closeAllWindows .ended (s.onPhase PhaseUnit.leaving)))
  | begun (number : Nat) {countdown : Nat} {s : State} (h : countdown ≤ 7200) (closed : s.phase.phase = .closed)
      (he : empties = true) : Act empties s (s.onPhase (PhaseUnit.begun number countdown))
  | restarted {s : State} (h : restartable s = true) (he : empties = true) : Act empties s (restart s)
  | poweredOn (straps : BitVec 7) (s : State) (he : empties = true) : Act empties s (poweredOn straps s.stored s.pending)
  | powerLost (s : State) (he : empties = true) : Act empties s (powerLost s)

/-- A chain of acts. -/
def Acts (empties : Bool) : State → State → Prop := Relation.ReflTransGen (Act empties)

variable {e : Bool} {s t u : State}

@[refl] theorem Acts.refl (s : State) : Acts e s s := Relation.ReflTransGen.refl

theorem Acts.trans (h : Acts e s t) (k : Acts e t u) : Acts e s u := Relation.ReflTransGen.trans h k

theorem Acts.one (h : Act e s t) : Acts e s t := Relation.ReflTransGen.single h

theorem Acts.routine (h : Chain Machine.routine s t) : Acts e s t := .one (.routine h)

theorem Acts.apart (h : Chain apartKinds s t) : Acts e s t := .one (.apart h)

theorem Acts.calm (h : Chain Machine.calm s t) : Acts e s t := .routine (calm_routine h)

/-- What every act keeps, a chain of acts keeps. -/
theorem Acts.keeps {P : State → Prop} (h : Acts e s t) (act : ∀ s t, Act e s t → P s → P t) (hs : P s) : P t := by
  induction h with
  | refl => exact hs
  | tail _ last ih => exact act _ _ last ih

theorem forEach_acts {α : Type} {f : α → State → State} (items : List α) (h : ∀ a ∈ items, ∀ t, Acts e t (f a t))
    (s : State) : Acts e s (forEach items f s) :=
  forEach_induction (Acts e s) f items s (fun a ha t ht => ht.trans (h a ha t)) (Acts.refl s)

/-! ## Zones (chapter 6) -/

theorem takeZoneFrame_acts (payload : List Byte) (s : State) : Acts e s (takeZoneFrame payload s) := by
  unfold takeZoneFrame
  split
  · exact .refl s
  · exact forEach_acts _ (fun pair _ t => .one (.zone _ (.report _ _))) s

theorem verificationExpires_acts (z : Nat) (s : State) : Acts e s (verificationExpires z s) := by
  unfold verificationExpires
  split
  · exact .refl s
  · split
    · exact .one (.zone _ (.verified z))
    · exact .refl s

theorem stalenessExpires_acts (z : Nat) (s : State) : Acts e s (stalenessExpires z s) := by
  unfold stalenessExpires
  split
  · exact .refl s
  · split
    · exact .one (.zone _ (.stale z))
    · exact .refl s

theorem windowExpires_acts (w : Nat) (s : State) : Acts e s (windowExpires w s) := by
  unfold windowExpires
  split
  · exact .refl s
  · split
    · exact .one (.zone _ (.closed [w] _))
    · exact .refl s

theorem handC0_acts (reading : Reading) (s : State) : Acts e s (handC0 reading s) := .one (.zone _ (.panel reading))

theorem isolateZone_acts (z : Nat) (s : State) : Acts e s (isolateZone z s).2 := by
  unfold isolateZone
  split
  · exact .refl s
  · split
    · exact .refl s
    · split_ifs
      · exact .refl s
      · exact .refl s
      · exact .one (.zone _ (.isolated z))

theorem restoreIsolated_acts (z : Nat) (s : State) : Acts e s (restoreIsolated z s).2 := by
  unfold restoreIsolated
  split
  · exact .refl s
  · split
    · exact .refl s
    · split_ifs
      · exact .one (.zone _ (.restored z))
      · exact .refl s

theorem resetAlarm_acts (argument : Byte) (s : State) : Acts e s (resetAlarm argument s).state := by
  unfold resetAlarm
  split
  · exact .one (.zone _ (.reset _))
  split
  · exact .refl s
  · unfold resetOne
    split
    · exact .refl s
    split
    · exact .one (.zone _ (.reset [argument.toNat]))
    · exact .refl s

theorem windowOpens_acts (cause : ZoneCause) (w : Nat) (s : State) : Acts e s (windowOpens cause w s).2 := by
  unfold windowOpens
  split
  · exact .refl s
  split
  · exact .refl s
  next clear =>
  split
  · exact .refl s
  · split
    · exact .refl s
    · exact .one (.zone _ (.opened cause w (not_not.1 clear)))

theorem windowCloses_acts (cause : ZoneCause) (w : Nat) (s : State) : Acts e s (windowCloses cause w s).2 := by
  unfold windowCloses
  split_ifs
  · exact .refl s
  · exact .one (.zone _ (.closed [w] cause))
  · exact .refl s

theorem applyZone_acts (load : ZoneLoad) (s : State) : Acts e s (applyZone load s).2 := by
  unfold applyZone
  split_ifs with h
  · exact .one (.zone _ (.loaded load h))
  · exact .refl s

/-! ## Phases (chapter 3) -/

/-- Outside HELD and EVACUATING neither a held-from nor a saved phase is present (R36, R47). -/
theorem phasesKept_plain {p : PhaseUnit} (held : p.phase ≠ .held) (evacuating : p.phase ≠ .evacuating) :
    phasesKept p = true ↔ p.saved = none ∧ p.heldFrom = none := by
  cases hs : p.saved <;> cases hh : p.heldFrom <;> simp [phasesKept, hs, hh, held, evacuating]

/-- In HELD the held-from phase alone is present. -/
theorem phasesKept_held {p : PhaseUnit} (held : p.phase = .held) :
    phasesKept p = true ↔ p.saved = none ∧ ∃ y, p.heldFrom = some y ∧ (y = .preshow ∨ y = .houseOpen) := by
  cases hs : p.saved <;> cases hh : p.heldFrom <;> simp [phasesKept, hs, hh, held]

/-- In EVACUATING the saved phase is present, and the held-from phase where HELD was saved. -/
theorem phasesKept_evacuating {p : PhaseUnit} (evacuating : p.phase = .evacuating) :
    phasesKept p = true ↔ ∃ x, p.saved = some x ∧ x ≠ .closed ∧ x ≠ .evacuating ∧
      ((p.heldFrom = none ∧ x ≠ .held) ∨ ∃ y, p.heldFrom = some y ∧ (y = .preshow ∨ y = .houseOpen) ∧ x = .held) := by
  cases hs : p.saved <;> cases hh : p.heldFrom <;> simp [phasesKept, hs, hh, evacuating, and_assoc]

theorem countsInRange_iff {p : PhaseUnit} :
    countsInRange p = true ↔ (p.act ≤ 5 ∧ p.curtainUp ≤ 7200 ∧ p.intervalLeft ≤ 3600 ∧ p.prescaler ≤ 999) ∧
      (p.phase = .closed → p.showStop = false) := by
  simp only [countsInRange, Bool.and_eq_true, decide_eq_true_eq, Bool.or_eq_true, Bool.not_eq_true', decide_eq_false_iff_not,
    imp_iff_not_or]

/-- A legal record stays legal when the place moves on outside HELD and EVACUATING, the act staying in range. -/
theorem placeLegal_plain {p : PhaseUnit} {new : Phase} {act : Nat} (held : p.phase ≠ .held) (evacuating : p.phase ≠ .evacuating)
    (held' : new ≠ .held) (evacuating' : new ≠ .evacuating) (closed' : new ≠ .closed) (range : p.act ≤ 5 → act ≤ 5)
    (h : placeLegal p) : placeLegal { p with act := act, phase := new } := by
  obtain ⟨place, counts⟩ := h
  rw [countsInRange_iff] at counts
  obtain ⟨⟨hact, rest⟩, _⟩ := counts
  exact ⟨(phasesKept_plain held' evacuating').2 ((phasesKept_plain held evacuating).1 place),
    countsInRange_iff.2 ⟨⟨range hact, rest⟩, fun h => absurd h closed'⟩⟩

/-- A change of phase that leaves the record's other fields. -/
theorem moveOn_acts {new : Phase} (cause : PhaseCause) {s : State} (plain : s.phase.phase ≠ .held ∧ s.phase.phase ≠ .evacuating)
    (plain' : new ≠ .held ∧ new ≠ .evacuating ∧ new ≠ .closed) : Acts e s (changePhase new cause id id s) :=
  .one (.entered (fields := id) cause ⟨⟨rfl, rfl⟩, ⟨rfl, rfl⟩, rfl⟩
    (placeLegal_plain plain.1 plain.2 plain'.1 plain'.2.1 plain'.2.2 id) fun t => .refl t)

theorem phase_of_record {p q : PhaseUnit} (h : p.record = q.record) : p.phase = q.phase :=
  (congrArg PhaseUnit.phase h :)

theorem openHouse_acts (cause : PhaseCause) (s : State) : Acts e s (openHouse cause s).2 := by
  unfold openHouse
  split_ifs with h
  · exact moveOn_acts cause (by simp [h]) (by decide)
  · exact .refl s

theorem holdHouse_acts (cause : PhaseCause) (s : State) : Acts e s (holdHouse cause s).2 := by
  unfold holdHouse
  split_ifs with h
  · refine .one (.entered (fields := fun p => { p with heldFrom := some p.phase }) cause ⟨⟨rfl, rfl⟩, ⟨rfl, rfl⟩, rfl⟩ ?_
      fun t => calm_routine (reportHold_chain _ _ t))
    rintro ⟨place, counts⟩
    have open_ : s.phase.phase ≠ .held ∧ s.phase.phase ≠ .evacuating := by rcases h with h | h <;> simp [h]
    refine ⟨(phasesKept_held rfl).2 ⟨((phasesKept_plain open_.1 open_.2).1 place).1, _, rfl, h⟩, ?_⟩
    exact countsInRange_iff.2 ⟨(countsInRange_iff.1 counts).1, nofun⟩
  · exact .refl s

theorem releaseHold_acts (cause : PhaseCause) (s : State) : Acts e s (releaseHold cause s).2 := by
  unfold releaseHold
  split_ifs with h
  · refine .one (.entered (fields := fun p => { p with heldFrom := none }) cause ⟨⟨rfl, rfl⟩, ⟨rfl, rfl⟩, rfl⟩ ?_
      endHold_chain)
    rintro ⟨place, counts⟩
    obtain ⟨saved, y, hy, from_⟩ := (phasesKept_held h).1 place
    have plain : y ≠ .held ∧ y ≠ .evacuating ∧ y ≠ .closed := by rcases from_ with rfl | rfl <;> decide
    simp only [hy, Option.getD_some]
    exact ⟨(phasesKept_plain plain.1 plain.2.1).2 ⟨saved, rfl⟩,
      countsInRange_iff.2 ⟨(countsInRange_iff.1 counts).1, fun h => absurd h plain.2.2⟩⟩
  · exact .refl s

theorem beginAct1_acts (cause : PhaseCause) {s : State} (h : s.phase.phase = .houseOpen ∨ s.phase.phase = .held) :
    Acts e s (beginAct1 cause s) := by
  refine .one (.entered (fields := fun p => { p with act := 1, heldFrom := none, holdPending := false })
    (further := fun t => checkDemonstration (leaveHold s.phase.phase t)) cause ⟨⟨rfl, rfl⟩, ⟨rfl, rfl⟩, rfl⟩ ?_
    fun t => calm_routine ((leaveHold_chain _ t).trans (checkDemonstration_chain _)))
  rintro ⟨place, counts⟩
  have saved : s.phase.saved = none := by
    rcases h with h | h
    · exact ((phasesKept_plain (by simp [h]) (by simp [h])).1 place).1
    · exact ((phasesKept_held h).1 place).1
  obtain ⟨⟨_, rest⟩, _⟩ := countsInRange_iff.1 counts
  have one : 1 ≤ 5 := by decide
  exact ⟨(phasesKept_plain Phase.noConfusion Phase.noConfusion).2 ⟨saved, rfl⟩,
    countsInRange_iff.2 ⟨⟨one, rest⟩, Phase.noConfusion⟩⟩

theorem beginInterval_acts (cause : PhaseCause) {countdown : Nat} {s : State} (h : s.phase.phase = .running)
    (range : countdown ≤ 3600) : Acts e s (beginInterval cause countdown s) := by
  unfold beginInterval
  have counted : Chain Machine.routine s (clearIntervalFired (s.onPhase fun p => { p with intervalLeft := countdown })) :=
    (intervalLeft_chain (le_trans range (Nat.le_max_left _ _))).trans (calm_routine (clearIntervalFired_chain _))
  have phase : (clearIntervalFired (s.onPhase fun p => { p with intervalLeft := countdown })).phase.phase = .running := by
    exact (phase_of_record (sameBut_record (clearIntervalFired_frame _) (by decide))).trans h
  exact (Acts.routine counted).trans (moveOn_acts cause (by simp [phase]) (by decide))

theorem takeTransition_acts (target : Phase) {countdown : Nat} (cause : PhaseCause) (s : State)
    (range : target = .interval → countdown ≤ 3600) : Acts e s (takeTransition target countdown cause s).2 := by
  unfold takeTransition
  split
  · exact openHouse_acts cause s
  · next h => exact beginAct1_acts cause (.inl h)
  · next h => exact beginAct1_acts cause (.inr h)
  · next h =>
    split
    · exact .refl s
    · next last =>
      exact .one (.entered (fields := fun p => { p with act := p.act + 1 }) cause ⟨⟨rfl, rfl⟩, ⟨rfl, rfl⟩, rfl⟩
        (placeLegal_plain (act := s.phase.act + 1) (by simp [h]) (by simp [h]) (by decide) (by decide) (by decide)
          (by omega)) fun t => .refl t)
  · next h =>
    dsimp only
    exact beginInterval_acts cause h (range rfl)
  · next h => exact moveOn_acts cause (by simp [h]) (by decide)
  · exact .refl s

theorem phaseRequest_acts (target : Option Phase) (act countdown : Nat) (cause : PhaseCause) (s : State) :
    Acts e s (phaseRequest target act countdown cause s).2 := by
  unfold phaseRequest
  split
  · exact .refl s
  · next target =>
    split
    · exact .refl s
    split
    · exact .refl s
    split
    · exact .refl s
    split
    · exact .refl s
    · next range => exact takeTransition_acts target cause s fun h => Nat.not_lt.1 fun above => range ⟨h, above⟩

theorem beginPerformance_acts (he : e = true) (number countdown : Nat) (s : State) :
    Acts e s (beginPerformance number countdown s).2 := by
  unfold beginPerformance
  split
  · exact .refl s
  next range =>
  split
  · exact .refl s
  next closed =>
  rw [not_not] at closed
  split
  · exact .refl s
  · have begun : Acts e s (clearFired (s.onPhase (PhaseUnit.begun number countdown))) :=
      (Acts.one (.begun number (by omega) closed he)).trans (.calm (clearFired_chain _))
    have phase : (clearFired (s.onPhase (PhaseUnit.begun number countdown))).phase.phase = .closed := by
      exact (phase_of_record (sameBut_record (clearFired_frame _) (by decide))).trans closed
    dsimp only
    change Acts e s (changePhase .preshow .command id id (clearFired (s.onPhase (PhaseUnit.begun number countdown))))
    exact begun.trans (moveOn_acts .command (by simp [phase]) (by decide))

theorem endPerformance_acts (s : State) : Acts e s (endPerformance s).2 := by
  unfold endPerformance
  split
  · exact .refl s
  next h =>
  split
  · exact .refl s
  · dsimp only
    change Acts e s (changePhase .closed .command id (leaveHold s.phase.phase)
      (closeAllWindows .ended (s.onPhase PhaseUnit.leaving)))
    exact .one (.ended h)

theorem returnFromEvacuation_acts (s : State) : Acts e s (returnFromEvacuation s).2 := by
  unfold returnFromEvacuation
  split_ifs with h
  · refine .one (.entered (fields := fun p => { p with saved := none }) .command ⟨⟨rfl, rfl⟩, ⟨rfl, rfl⟩, rfl⟩ ?_
      fun t => .refl t)
    rintro ⟨place, counts⟩
    obtain ⟨x, saved, closed, evacuating, held⟩ := (phasesKept_evacuating h.1).1 place
    simp only [saved, Option.getD_some]
    refine ⟨?_, countsInRange_iff.2 ⟨(countsInRange_iff.1 counts).1, fun h => absurd h closed⟩⟩
    obtain ⟨none, held⟩ | ⟨y, hy, from_, rfl⟩ := held
    · exact (phasesKept_plain held evacuating).2 ⟨rfl, none⟩
    · exact (phasesKept_held rfl).2 ⟨rfl, y, hy, from_⟩
  · exact .refl s

/-! ## The lines (chapter 2) -/

theorem handOff_acts (line : Nat) (previous new : Reading) (s : State) : Acts e s (handOff line previous new s) := by
  unfold handOff
  split
  · exact handC0_acts new s
  · exact .calm (handC1_chain _ _ s)
  · exact .calm (handC2_chain _ _ s)
  · exact .calm (handC3_chain _ _ s)
  · unfold handC5
    split
    · exact .routine (setShowStop_chain .key s)
    · exact .refl s
  · unfold handC6
    split_ifs
    · exact holdHouse_acts .key s
    · exact releaseHold_acts .key s
    · exact .refl s
  · exact .calm (handC7_chain _ _ s)
  · exact .refl s

theorem setLine_chain (line : Nat) (l : Line) (s : State) : Chain apartKinds s (setLine line l s) :=
  .one (.lines s _) (by decide)

theorem reportContact_chain (line : Nat) (selection : EdgeSelection) (previous new : LineState) (s : State) :
    Chain calm s (reportContact line selection previous new s) := by
  unfold reportContact
  split
  · exact report_calm _ _ s
  · exact .refl s

theorem acceptState_acts (line : Nat) (l : Line) (new : LineState) (s : State) : Acts e s (acceptState line l new s) := by
  have set := setLine_chain line (l.accept line (edgesOf s line) new s.clock) s
  have noted := reportContact_chain line (edgesOf s line) l.accepted new
    (setLine line (l.accept line (edgesOf s line) new s.clock) s)
  unfold acceptState
  dsimp only
  split
  · exact ((Acts.apart set).trans (.calm (noted.trans (setAttention_calm _ _)))).trans (handOff_acts _ _ _ _)
  · exact ((Acts.apart set).trans (.calm noted)).trans (handOff_acts _ _ _ _)

theorem takeSample_acts (line : Nat) (sample : LineState) (s : State) : Acts e s (takeSample line sample s) := by
  unfold takeSample
  split
  · exact .refl s
  · split
    · exact acceptState_acts _ _ _ s
    · exact .apart (setLine_chain _ _ s)

theorem acceptLine_acts (line : Nat) (s : State) : Acts e s (acceptLine line s) := by
  unfold acceptLine
  split
  · exact .refl s
  · split
    · exact takeSample_acts _ _ s
    · exact .refl s

/-! ## Cues (chapter 4) -/

theorem performAction_acts (action : CueAction) (s : State) : Acts e s (performAction action s).2 := by
  cases action with
  | phase target act => exact phaseRequest_acts _ _ _ _ s
  | hfade group level time => exact .calm (houseFade_chain _ _ _ s)
  | wopen window => exact windowOpens_acts _ _ s
  | wclose window => exact windowCloses_acts _ _ s
  | call id => exact .calm (requestCall_chain _ _ s)
  | demo => exact .calm (startDemo_chain s)
  | mark value => exact .refl s

theorem appendEntry_calm (entry : ReportEntry) (s : State) : Chain calm s (appendEntry entry s) :=
  appendEntry_chain (by decide) (by decide) entry s

/-- A refused action appends its entry after what its request did (R64, R72). -/
theorem refusal_acts (x : Execution) (action : CueAction) {s : State} {answer : Response} (h : Acts e s answer.2) :
    Acts e s (if answer.1.refuses then reportRefusal x action answer.1 answer.2 else answer.2) := by
  split
  · exact h.trans (.calm (appendEntry_calm _ _))
  · exact h

/-- What an action's owner makes of its request; in CLOSED some are refused before it (R65). -/
theorem requested_acts (action : CueAction) (s : State) :
    Acts e s (if refusedInClosed action s then (Result.refusedState, s) else performAction action s).2 := by
  split
  · exact .refl s
  · exact performAction_acts action s

theorem executeAction_acts (x : Execution) (action : CueAction) (s : State) : Acts e s (executeAction x action s) := by
  cases action with
  | mark value => exact .calm (appendEntry_calm _ s)
  | phase target act => exact refusal_acts x (.phase target act) (requested_acts (.phase target act) s)
  | hfade group level time => exact refusal_acts x (.hfade group level time) (requested_acts (.hfade group level time) s)
  | wopen window => exact refusal_acts x (.wopen window) (requested_acts (.wopen window) s)
  | wclose window => exact refusal_acts x (.wclose window) (requested_acts (.wclose window) s)
  | call id => exact refusal_acts x (.call id) (requested_acts (.call id) s)
  | demo => exact refusal_acts x .demo (requested_acts .demo s)

theorem cues_chain (f : CueUnit → CueUnit) (s : State) : Chain calm s (s.onCues f) := .one (.cues s f) (by decide)

theorem executeFrom_acts (x : Execution) (position : Nat) (actions : List CueAction) (s : State) :
    Acts e s (executeFrom x position actions s) := by
  induction actions generalizing position s with
  | nil => exact .refl s
  | cons action rest ih =>
    exact ((Acts.calm (cues_chain _ s)).trans (executeAction_acts _ action _)).trans (ih _ _)

theorem executeCue_acts (entry : CueEntry) (s : State) : Acts e s (executeCue entry s) :=
  (executeFrom_acts { actions := entry.actions, list := entry.list, cue := entry.cue, arrival := s.clock, next := 1 } 1
    entry.actions s).trans (.calm (cues_chain (fun c => { c with execution := none }) _))

theorem takeCueFrame_acts (payload : List Byte) (s : State) : Acts e s (takeCueFrame payload s) := by
  unfold takeCueFrame
  split
  · split
    · split
      · exact .refl s
      · exact executeCue_acts _ s
    · exact .refl s
  · exact .refl s

end Sys2Proof.Machine
end

section
/-! SUPPORT. Every command row, and every frame that carries one, as a chain of acts; the invariants then follow from the acts. -/

namespace Sys2Proof.Machine

variable {e : Bool}

/-! ## Commands (R203 to R205) -/

theorem setInProgress_chain (c : Option CommandInProgress) (s : State) : Chain calm s (setInProgress c s) :=
  command_chain rfl rfl rfl

theorem finish_chain (code : Byte) (h : CommandHeader) (x : Executed) : Chain calm x.state (finish code h x) :=
  (offer_chain _ _ _ _ _).trans (setInProgress_chain _ _)

theorem execute_acts {code : Byte} {h : CommandHeader} {c : Checks} {body : State → Executed}
    (acts : ∀ s, Acts e s (body s).state) (s : State) : Acts e s (execute code h c body s) := by
  have begun : Chain calm s (begin code h s) := setInProgress_chain _ s
  unfold execute
  split
  · exact .refl s
  · dsimp only
    split
    · exact .calm (begun.trans (finish_chain code h { answer := _, state := begin code h s }))
    · exact ((Acts.calm begun).trans (acts _)).trans (.calm (finish_chain _ _ _))

theorem simple_acts {code : Byte} {h : CommandHeader} {body : State → Response} (acts : ∀ s, Acts e s (body s).2) (s : State) :
    Acts e s (simple code h body s) := execute_acts acts s

/-- A command whose rule makes a calm change. -/
theorem simple_calm {code : Byte} {h : CommandHeader} {body : State → Response} (chain : ∀ s, Chain calm s (body s).2)
    (s : State) : Acts e s (simple code h body s) := simple_acts (fun t => .calm (chain t)) s

/-- A command whose rule changes the countdowns or show stop. -/
theorem simple_routine {code : Byte} {h : CommandHeader} {body : State → Response} (chain : ∀ s, Chain routine s (body s).2)
    (s : State) : Acts e s (simple code h body s) := simple_acts (fun t => .routine (chain t)) s

/-- A read that leaves the state leaves it whatever it answers. -/
theorem readAnswer_state (data : Option (List Byte)) (s : State) : (readAnswer data s).state = s := by
  cases data <;> rfl

theorem read_acts {code : Byte} {h : CommandHeader} {data : State → Option (List Byte)} (s : State) :
    Acts e s (execute code h .plain (fun s => readAnswer (data s) s) s) :=
  execute_acts (fun t => by rw [readAnswer_state]) s

theorem runRdst_acts (h : CommandHeader) (section_ : Byte) (s : State) : Acts e s (runRdst h section_ s) := by
  refine execute_acts (fun t => ?_) s
  rw [readAnswer_state]
  split
  · exact .calm (reportAttention_chain t)
  · exact .refl t

theorem runAcka_acts (h : CommandHeader) (mask : BitVec 16) (s : State) : Acts e s (runAcka h mask s) :=
  execute_acts (fun t => (Acts.apart (.one (.acknowledged mask t) (by decide))).trans (.calm (reportAttention_chain _))) s

/-! ## Loads (R211 to R213) -/

theorem reportTable_chain (table : Byte) (operation : TableOperation) (result : Result) (count : Nat) (s : State) :
    Chain calm s (reportTable table operation result count s) := report_calm _ _ s

theorem loadFrom_acts {apply : List Byte → State → Response} (acts : ∀ entry s, Acts e s (apply entry s).2) (count : Nat)
    (clamped : Bool) (entries : List (List Byte)) (s : State) : Acts e s (loadFrom apply count clamped entries s).2 := by
  induction entries generalizing count clamped s with
  | nil => exact .refl s
  | cons entry rest ih =>
    have first := acts entry s
    unfold loadFrom
    split
    · next h =>
      rw [h] at first
      exact first.trans (ih _ _ _)
    · next h =>
      rw [h] at first
      exact first.trans (ih _ _ _)
    · next h =>
      rw [h] at first
      exact first

theorem runLoad_acts {code table : Byte} {lockable : Bool} {lengthOf : List Byte → Option Nat}
    {apply : List Byte → State → Response} (acts : ∀ entry s, Acts e s (apply entry s).2) (h : CommandHeader)
    (bytes : List Byte) (s : State) : Acts e s (runLoad code table lockable lengthOf apply h bytes s) := by
  unfold runLoad
  split
  · exact execute_acts (fun t => .refl t) s
  · exact execute_acts (fun t => (loadFrom_acts acts 0 false _ t).trans (.calm (reportTable_chain _ _ _ _ _))) s

theorem applyRead_acts {α : Type} {read : List Byte → Option α} {apply : α → State → Response}
    (acts : ∀ load s, Acts e s (apply load s).2) (entry : List Byte) (s : State) : Acts e s (applyRead read apply entry s).2 := by
  unfold applyRead
  split
  · exact .refl s
  · exact acts _ s

theorem applied_acts {α : Type} {apply : α → State → State} (chain : ∀ load s, Chain calm s (apply load s)) (load : α)
    (s : State) : Acts e s (applied apply load s).2 := .calm ((chain load s).trans (selection_chain _))

theorem applyCue_acts (load : CueLoad) (s : State) : Acts e s (applyCue load s).2 := by
  unfold applyCue
  split
  · exact .calm (cues_chain (fun c => { c with table := _ }) s)
  · split
    · exact .calm (cues_chain (fun c => { c with table := _ }) s)
    · split
      · exact .calm (cues_chain (fun c => { c with table := _ }) s)
      · exact .refl s

theorem takeDivisor_chain (s : State) : Chain calm s (takeDivisor s) :=
  .one (.loop ⟨Nat.le_max_right _ _, Nat.le_max_right _ _, Nat.le_max_right _ _, Nat.le_max_right _ _, .inl ⟨rfl, rfl⟩⟩)
    (by decide)

theorem setProfile_chain (p : Profile) (s : State) : Chain calm s (setProfile p s) :=
  (command_chain (f := fun c => { c with profile := p }) rfl rfl rfl).trans (takeDivisor_chain _)

theorem applyProfile_acts (entry : List Byte) (s : State) : Acts e s (applyProfile entry s).2 := by
  unfold applyProfile
  split
  · split
    · exact .refl s
    · exact .calm (setProfile_chain _ s)
  · exact .refl s

theorem clearTable_acts (table : Nat) (s : State) : Acts e s (clearTable table s).2 := by
  unfold clearTable
  split
  · exact .calm (policy_chain s fun _ => [])
  · exact .calm (cues_chain (fun c => { c with table := [] }) s)
  · split
    · next h => exact .one (.zonesCleared h)
    · exact .refl s
  · exact .calm (calls_chain (f := fun c => { c with defs := Vector.replicate 32 none }) rfl)
  · exact .calm (.one (.bells (f := fun b => { b with patterns := Vector.replicate 8 none }) fun _ _ => .inl) (by decide))
  · exact .calm (calls_chain (f := fun c => { c with areas := Vector.replicate 12 none }) rfl)
  · exact .calm (setProfile_chain _ s)
  · exact .refl s

theorem runCltb_acts (h : CommandHeader) (table : Byte) (s : State) : Acts e s (runCltb h table s) := by
  refine execute_acts (fun t => ?_) s
  unfold clearCommand
  dsimp only
  split
  · exact (clearTable_acts _ t).trans (.calm (reportTable_chain _ _ _ _ _))
  · exact .refl t

theorem runSttb_acts (h : CommandHeader) (s : State) : Acts e s (runSttb h s) := by
  have begun : Chain calm s (begin 0x18 h s) := setInProgress_chain _ s
  unfold runSttb
  split
  · exact .refl s
  · dsimp only
    split
    · exact .calm (begun.trans (finish_chain 0x18 h { answer := _, state := begin 0x18 h s }))
    · exact (Acts.calm begun).trans (.apart (.one (.storeBegun h _) (by decide)))

theorem storeCompletes_acts (s : State) : Acts e s (storeCompletes s) := by
  unfold storeCompletes
  split
  · exact .refl s
  · exact (Acts.apart (.one (.storeDone _ s) (by decide))).trans
      (.calm ((reportTable_chain _ _ _ _ _).trans (offer_chain _ _ _ _ _)))

theorem runRstr_acts (he : e = true) (h : CommandHeader) (s : State) : Acts e s (runRstr h s) := by
  refine execute_acts (fun t => ?_) s
  split
  · next may => exact .one (.restarted may he)
  · exact .refl t

theorem runBgpf_acts (he : e = true) (h : CommandHeader) (number countdown : Nat) (s : State) :
    Acts e s (runBgpf h number countdown s) := simple_acts (beginPerformance_acts he number countdown) s

theorem runArst_acts (h : CommandHeader) (zone : Byte) (s : State) : Acts e s (runArst h zone s) :=
  execute_acts (resetAlarm_acts zone) s

/-! ## COMMAND frames (R204) -/

/-- A command without arguments, where its code names it. -/
theorem acts_of_none {args : List Byte} {s : State} {f run : State → State} (acts : Acts e s (f s))
    (spelled : some (match args with
      | [] => some f
      | _ => none) = some (some run)) : Acts e s (run s) := by
  split at spelled <;> cases spelled
  exact acts

/-- A command of one argument byte. -/
theorem acts_of_one {args : List Byte} {s : State} {f : Byte → State → State} {run : State → State}
    (acts : ∀ a, Acts e s (f a s))
    (spelled : some (match args with
      | [a] => some (f a)
      | _ => none) = some (some run)) : Acts e s (run s) := by
  split at spelled <;> cases spelled
  exact acts _

/-- A command of two argument bytes. -/
theorem acts_of_two {args : List Byte} {s : State} {f : Byte → Byte → State → State} {run : State → State}
    (acts : ∀ a b, Acts e s (f a b s))
    (spelled : some (match args with
      | [a, b] => some (f a b)
      | _ => none) = some (some run)) : Acts e s (run s) := by
  split at spelled <;> cases spelled
  exact acts _ _

/-- A command of four argument bytes. -/
theorem acts_of_four {args : List Byte} {s : State} {f : Byte → Byte → Byte → Byte → State → State} {run : State → State}
    (acts : ∀ a b c d, Acts e s (f a b c d s))
    (spelled : some (match args with
      | [a, b, c, d] => some (f a b c d)
      | _ => none) = some (some run)) : Acts e s (run s) := by
  split at spelled <;> cases spelled
  exact acts _ _ _ _

/-- A command of five argument bytes. -/
theorem acts_of_five {args : List Byte} {s : State} {f : Byte → Byte → Byte → Byte → Byte → State → State}
    {run : State → State} (acts : ∀ a b c d x, Acts e s (f a b c d x s))
    (spelled : some (match args with
      | [a, b, c, d, x] => some (f a b c d x)
      | _ => none) = some (some run)) : Acts e s (run s) := by
  split at spelled <;> cases spelled
  exact acts _ _ _ _ _

/-- A load, whatever its arguments. -/
theorem acts_of_load {s : State} {f run : State → State} (acts : Acts e s (f s)) (spelled : some (some f) = some (some run)) :
    Acts e s (run s) := by
  cases spelled
  exact acts

/-- A command that an argument list spells is a chain of acts; only BGPF's and RSTR's codes empty the report. -/
theorem commandOf_acts {code : Byte} {h : CommandHeader} {args : List Byte} {run : State → State}
    (spelled : commandOf code h args = some (some run)) (he : code.toNat = 0x20 ∨ code.toNat = 0x19 → e = true) (s : State) :
    Acts e s (run s) := by
  unfold commandOf at spelled
  dsimp only at spelled
  split at spelled
  · exact acts_of_one (fun a => runRdst_acts h a s) spelled
  · exact acts_of_two (fun a b => runAcka_acts h _ s) spelled
  · exact acts_of_two (f := runRdzn h) (fun a b => read_acts s) spelled
  · exact acts_of_none (f := runRdqu h) (read_acts s) spelled
  · exact acts_of_one (f := runRdrp h) (fun a => read_acts s) spelled
  · exact acts_of_two (f := runRdtb h) (fun a b => read_acts s) spelled
  · exact acts_of_load (runLoad_acts (applyRead_acts fun l t => .calm (applyPolicy_chain l t)) h args s) spelled
  · exact acts_of_load (runLoad_acts (applyRead_acts applyCue_acts) h args s) spelled
  · exact acts_of_load (runLoad_acts (applyRead_acts applyZone_acts) h args s) spelled
  · exact acts_of_load (runLoad_acts (applyRead_acts (applied_acts applyCall_chain)) h args s) spelled
  · exact acts_of_load (runLoad_acts (applyRead_acts (applied_acts applyPattern_chain)) h args s) spelled
  · exact acts_of_load (runLoad_acts (applyRead_acts (applied_acts applyArea_chain)) h args s) spelled
  · exact acts_of_load (runLoad_acts applyProfile_acts h args s) spelled
  · exact acts_of_one (fun a => runCltb_acts h a s) spelled
  · exact acts_of_none (runSttb_acts h s) spelled
  · next code19 => exact acts_of_none (runRstr_acts (he (.inr code19)) h s) spelled
  · next code20 => exact acts_of_four (fun a b c d => runBgpf_acts (he (.inl code20)) h _ _ s) spelled
  · exact acts_of_none (simple_acts (openHouse_acts .command) s) spelled
  · exact acts_of_none (simple_acts (holdHouse_acts .command) s) spelled
  · exact acts_of_none (simple_acts (releaseHold_acts .command) s) spelled
  · exact acts_of_two (fun a b => simple_routine (setCountdown_chain _) s) spelled
  · exact acts_of_four (fun a b c d => simple_acts (phaseRequest_acts _ _ _ _) s) spelled
  · exact acts_of_none (simple_routine (setShowStop_chain .command) s) spelled
  · exact acts_of_none (simple_routine clearShowStop_chain s) spelled
  · exact acts_of_none (simple_acts returnFromEvacuation_acts s) spelled
  · exact acts_of_none (simple_acts endPerformance_acts s) spelled
  · exact acts_of_none (simple_calm (lowerRequest_chain .normal) s) spelled
  · exact acts_of_none (simple_calm raiseCurtain_chain s) spelled
  · exact acts_of_none (simple_calm stopCurtain_chain s) spelled
  · exact acts_of_none (simple_calm startDemo_chain s) spelled
  · exact acts_of_none (simple_calm clearCurtainFault_chain s) spelled
  · exact acts_of_five (fun a b c d x => simple_calm (houseFade_chain _ _ _) s) spelled
  · exact acts_of_one (fun a => simple_calm (releaseGroup_chain _) s) spelled
  · exact acts_of_one (fun a => simple_calm (takeGroup_chain _) s) spelled
  · exact acts_of_one (fun a => simple_acts (isolateZone_acts _) s) spelled
  · exact acts_of_one (fun a => simple_acts (restoreIsolated_acts _) s) spelled
  · exact acts_of_one (fun a => runArst_acts h a s) spelled
  · exact acts_of_one (fun a => simple_acts (windowOpens_acts _ _) s) spelled
  · exact acts_of_one (fun a => simple_acts (windowCloses_acts _ _) s) spelled
  · exact acts_of_one (fun a => simple_calm (callNow_chain _) s) spelled
  · exact acts_of_one (fun a => simple_calm (cancelCall_chain _) s) spelled
  · exact acts_of_two (fun a b => simple_calm (routePlan_chain _ _) s) spelled
  · simp at spelled

theorem refuseFrame_chain (source : Byte) (payload : List Byte) (result : Result) (s : State) :
    Chain calm s (refuseFrame source payload result s) :=
  (setInProgress_chain _ s).trans (finish_chain _ _ { answer := _, state := begin _ _ s })

/-- A payload of BGPF's or RSTR's code empties the report (R38, R219). -/
theorem emptyingPayload_of_code {code : Byte} {rest : List Byte} (h : code.toNat = 0x20 ∨ code.toNat = 0x19) :
    emptyingPayload (code :: rest) = true := by
  obtain h | h := h
  · simp [emptyingPayload, BitVec.eq_of_toNat_eq (y := (0x20 : Byte)) h]
  · simp [emptyingPayload, BitVec.eq_of_toNat_eq (y := (0x19 : Byte)) h]

theorem takeCommand_acts (source : Byte) {payload : List Byte} (he : emptyingPayload payload = true → e = true) (s : State) :
    Acts e s (takeCommand source payload s) := by
  unfold takeCommand
  split
  · exact .calm (refuseFrame_chain _ _ _ s)
  · split
    · split
      · exact .calm (refuseFrame_chain _ _ _ s)
      · exact .calm (refuseFrame_chain _ _ _ s)
      · next spelled => exact commandOf_acts spelled (fun h => he (emptyingPayload_of_code h)) s
    · exact .calm (refuseFrame_chain _ _ _ s)

/-! ## Frames at IN (1.3 to 1.5, 1.8) -/

theorem setRing_chain (ring : RingState) (timer : Option Timer) (s : State) : Chain calm s (setRing ring timer s) :=
  Chain.trans (.one (.loop ⟨Nat.le_max_right _ _, Nat.le_max_right _ _, Nat.le_max_right _ _, Nat.le_max_right _ _,
    .inr rfl⟩) (by decide)) (curtainToldRing_chain ring _)

theorem ownFrameReturns_chain (s : State) : Chain calm s (ownFrameReturns s) := by
  unfold ownFrameReturns
  dsimp only
  split
  · exact setRing_chain _ _ s
  · exact .one (.loop ⟨Nat.le_max_right _ _, Nat.le_max_right _ _, Nat.le_max_right _ _, Nat.le_max_right _ _,
      .inl ⟨rfl, rfl⟩⟩) (by decide)

theorem ringExpiry_chain (s : State) : Chain calm s (ringExpiry s) := by
  unfold ringExpiry
  split
  · exact (setAttention_calm _ s).trans (setRing_chain _ _ _)
  · exact .refl s

/-- The assembler's fields change, the bad-frame count within 8. -/
theorem assembler_chain {s : State} (state : AssemblerState) (assembly : List Byte) (gap : Option LineTimer) {bad : Nat}
    (h : bad ≤ max 8 s.loop.badFrames) :
    Chain calm s (s.onLoop fun l =>
      { l with assembler := state, assembly := assembly, gapTimer := gap, badFrames := bad }) :=
  .one (.loop ⟨h, Nat.le_max_right _ _, Nat.le_max_right _ _, Nat.le_max_right _ _, .inl ⟨rfl, rfl⟩⟩) (by decide)

theorem badFrame_chain (s : State) : Chain calm s (badFrame s) := by
  have counted : Chain calm s (s.onLoop fun l => { l with badFrames := min 8 (l.badFrames + 1) }) :=
    assembler_chain s.loop.assembler s.loop.assembly s.loop.gapTimer
      (le_trans (Nat.min_le_left _ _) (Nat.le_max_left _ _))
  unfold badFrame
  dsimp only
  split
  · exact counted.trans (setAttention_calm _ _)
  · exact counted

theorem hunt_chain (s : State) : Chain calm s (hunt s) := assembler_chain .hunt [] none (Nat.le_max_right _ _)

theorem abandon_chain (s : State) : Chain calm s (abandon s) := (hunt_chain s).trans (badFrame_chain _)

theorem assemble_chain (state : AssemblerState) (assembly : List Byte) (s : State) :
    Chain calm s (assemble state assembly s) := assembler_chain state assembly _ (Nat.le_max_right _ _)

theorem handToOwner_acts (frame : Frame) (s : State) : Acts e s (handToOwner frame s) := by
  unfold handToOwner
  split_ifs
  · exact .calm (trackLevels_chain _ s)
  · exact takeCueFrame_acts _ s
  · exact takeZoneFrame_acts _ s
  · exact .one (.position _ s)
  · exact .refl s

theorem dispose_acts {frame : Frame} (he : frame.kind = kindCommand → emptyingPayload frame.payload = true → e = true)
    (s : State) : Acts e s (dispose frame s) := by
  unfold dispose
  split
  · exact .refl s
  · split
    · exact .calm (ownFrameReturns_chain s)
    · split
      · next command => exact takeCommand_acts _ (he command.2.1) s
      · exact (handToOwner_acts frame s).trans (.calm (offerForward_chain frame _))

theorem completeFrame_acts {assembly : List Byte}
    (he : (assembledFrame assembly).kind = kindCommand → emptyingPayload (assembledFrame assembly).payload = true → e = true)
    (s : State) : Acts e s (completeFrame assembly s) := by
  unfold completeFrame
  dsimp only
  split
  · have good : Chain calm s ((hunt s).onLoop fun l => { l with badFrames := 0 }) :=
      (hunt_chain s).trans (assembler_chain .hunt [] none (Nat.zero_le _))
    exact (Acts.calm good).trans (dispose_acts he _)
  · exact .calm (abandon_chain s)

theorem nextCharacter_acts {c : Character} {s : State} (he : carriesEmptying c s = true → e = true) :
    Acts e s (nextCharacter c.data s) := by
  unfold nextCharacter
  dsimp only
  split
  · exact .refl s
  · split_ifs
    · exact .calm (assemble_chain _ _ s)
    · exact .calm (abandon_chain s)
    · exact .calm (assemble_chain _ _ s)
    · exact .calm (assemble_chain _ _ s)
  · split_ifs
    · exact .calm (assemble_chain _ _ s)
    · exact .calm (assemble_chain _ _ s)
  · split_ifs
    · exact .calm (assemble_chain _ _ s)
    · exact completeFrame_acts (fun kind payload => he (by simp [carriesEmptying, kind, payload])) s

theorem receiveCharacter_acts {c : Character} {s : State} (he : carriesEmptying c s = true → e = true) :
    Acts e s (receiveCharacter c s) := by
  unfold receiveCharacter
  split
  · split
    · exact .refl s
    · exact .calm (abandon_chain s)
  · split
    · split
      · exact .calm (assemble_chain _ _ s)
      · exact .calm ((abandon_chain s).trans (assemble_chain _ _ _))
    · exact nextCharacter_acts he

theorem gapExpiry_chain (s : State) : Chain calm s (gapExpiry s) := by
  unfold gapExpiry
  split
  · exact abandon_chain s
  · exact .refl s

/-! ## Every command -/

theorem advanceClock_acts (s : State) : Acts e s (advanceClock s) :=
  (Acts.routine (advancePrescaler_chain s)).trans (.apart (.one (.clock (s.onPhase advancePrescaler)) (by decide)))

/-- A command that acts while the part has power is a chain of acts where its meaning is one. -/
theorem whilePowered_acts {s t : State} {f : State → State} (acts : Acts e s (f s)) (h : whilePowered s f = .next t) :
    Acts e s t := by
  unfold whilePowered at h
  injection h with h
  split at h
  · exact h ▸ acts
  · exact h ▸ .refl s

/-- Every command is a chain of acts, and empties the report only if it may. -/
theorem exec_acts {c : Instr} {s t : State} (h : exec c s = .next t) : Acts (mayEmptyReport c s) s t := by
  cases c with
  | powerOn straps =>
    injection h with h
    exact h ▸ .one (.poweredOn straps s rfl)
  | characterReceipt character => exact whilePowered_acts (receiveCharacter_acts id) h
  | frameAbandonment character => exact whilePowered_acts (receiveCharacter_acts id) h
  | gapTimerExpiry => exact whilePowered_acts (.calm (gapExpiry_chain s)) h
  | frameCompletion character => exact whilePowered_acts (receiveCharacter_acts id) h
  | sendCompletion => exact whilePowered_acts (.calm (sendCompletion_chain s)) h
  | ringTimerExpiry => exact whilePowered_acts (.calm (ringExpiry_chain s)) h
  | contactAcceptance line => exact whilePowered_acts (acceptLine_acts line s) h
  | prescalerWrap => exact whilePowered_acts (.routine (prescalerWraps_chain s)) h
  | refreshCheck => exact whilePowered_acts (.calm (refreshCheck_chain s)) h
  | silenceTimerExpiry segment channel => exact whilePowered_acts (.calm (silenceExpiry_chain segment channel s)) h
  | fadeStep group => exact whilePowered_acts (.calm (fadeStep_chain group s)) h
  | verificationExpiry zone => exact whilePowered_acts (verificationExpires_acts zone s) h
  | stalenessExpiry zone => exact whilePowered_acts (stalenessExpires_acts zone s) h
  | windowExpiry window => exact whilePowered_acts (windowExpires_acts window s) h
  | deadTimeExpiry => exact whilePowered_acts (.calm (deadTimeExpiry_chain s)) h
  | driveRepeatExpiry => exact whilePowered_acts (.calm (driveRepeatExpiry_chain s)) h
  | raiseTimerExpiry => exact whilePowered_acts (.calm (raiseTimerExpiry_chain s)) h
  | positionStaleExpiry => exact whilePowered_acts (.calm (positionStaleExpiry_chain s)) h
  | emergencyStaleExpiry => exact whilePowered_acts (.calm (emergencyStaleExpiry_chain s)) h
  | flowTimerExpiry => exact whilePowered_acts (.calm (flowTimerExpiry_chain s)) h
  | dwellExpiry => exact whilePowered_acts (.calm (dwellExpiry_chain s)) h
  | callLapse id => exact whilePowered_acts (.calm (lapseCall_chain id s)) h
  | playerTimerExpiry => exact whilePowered_acts (.calm (playerExpiry_chain s)) h
  | segmentTimerExpiry generator => exact whilePowered_acts (.calm (segmentExpiry_chain generator s)) h
  | noticeTimerExpiry => exact whilePowered_acts (.calm (noticeExpiry_chain s)) h
  | storeCompletion => exact whilePowered_acts (storeCompletes_acts s) h
  | unknownCommand source payload =>
    refine whilePowered_acts ?_ h
    unfold runPayload
    split
    · exact takeCommand_acts source id s
    · exact .refl s
  | rdst header section_ => exact whilePowered_acts (runRdst_acts header section_ s) h
  | acka header mask => exact whilePowered_acts (runAcka_acts header mask s) h
  | rdzn header selector first => exact whilePowered_acts (read_acts s) h
  | rdqu header => exact whilePowered_acts (read_acts s) h
  | rdrp header index => exact whilePowered_acts (read_acts s) h
  | rdtb header table index => exact whilePowered_acts (read_acts s) h
  | ldpo header entries =>
    exact whilePowered_acts (runLoad_acts (applyRead_acts fun l t => .calm (applyPolicy_chain l t)) header entries s) h
  | ldcu header entries => exact whilePowered_acts (runLoad_acts (applyRead_acts applyCue_acts) header entries s) h
  | ldzn header entries => exact whilePowered_acts (runLoad_acts (applyRead_acts applyZone_acts) header entries s) h
  | ldcl header entries =>
    exact whilePowered_acts (runLoad_acts (applyRead_acts (applied_acts applyCall_chain)) header entries s) h
  | ldpt header entries =>
    exact whilePowered_acts (runLoad_acts (applyRead_acts (applied_acts applyPattern_chain)) header entries s) h
  | ldrt header entries =>
    exact whilePowered_acts (runLoad_acts (applyRead_acts (applied_acts applyArea_chain)) header entries s) h
  | ldpf header entries => exact whilePowered_acts (runLoad_acts applyProfile_acts header entries s) h
  | cltb header table => exact whilePowered_acts (runCltb_acts header table s) h
  | sttb header => exact whilePowered_acts (runSttb_acts header s) h
  | rstr header => exact whilePowered_acts (runRstr_acts rfl header s) h
  | bgpf header number countdown => exact whilePowered_acts (runBgpf_acts rfl header _ _ s) h
  | ophs header => exact whilePowered_acts (simple_acts (openHouse_acts .command) s) h
  | hold header => exact whilePowered_acts (simple_acts (holdHouse_acts .command) s) h
  | rlhd header => exact whilePowered_acts (simple_acts (releaseHold_acts .command) s) h
  | stcd header value => exact whilePowered_acts (simple_routine (setCountdown_chain _) s) h
  | phse header target act interval => exact whilePowered_acts (simple_acts (phaseRequest_acts _ _ _ _) s) h
  | shst header => exact whilePowered_acts (simple_routine (setShowStop_chain .command) s) h
  | shrs header => exact whilePowered_acts (simple_routine clearShowStop_chain s) h
  | evrs header => exact whilePowered_acts (simple_acts returnFromEvacuation_acts s) h
  | enpf header => exact whilePowered_acts (simple_acts endPerformance_acts s) h
  | clwr header => exact whilePowered_acts (simple_calm (lowerRequest_chain .normal) s) h
  | crse header => exact whilePowered_acts (simple_calm raiseCurtain_chain s) h
  | cstp header => exact whilePowered_acts (simple_calm stopCurtain_chain s) h
  | cclr header => exact whilePowered_acts (simple_calm clearCurtainFault_chain s) h
  | demo header => exact whilePowered_acts (simple_calm startDemo_chain s) h
  | hfad header group level time => exact whilePowered_acts (simple_calm (houseFade_chain _ _ _) s) h
  | hrel header group => exact whilePowered_acts (simple_calm (releaseGroup_chain _) s) h
  | htak header group => exact whilePowered_acts (simple_calm (takeGroup_chain _) s) h
  | ziso header zone => exact whilePowered_acts (simple_acts (isolateZone_acts _) s) h
  | zrst header zone => exact whilePowered_acts (simple_acts (restoreIsolated_acts _) s) h
  | arst header zone => exact whilePowered_acts (runArst_acts header zone s) h
  | wopn header window => exact whilePowered_acts (simple_acts (windowOpens_acts _ _) s) h
  | wcls header window => exact whilePowered_acts (simple_acts (windowCloses_acts _ _) s) h
  | caln header id => exact whilePowered_acts (simple_calm (callNow_chain _) s) h
  | calx header id => exact whilePowered_acts (simple_calm (cancelCall_chain _) s) h
  | rpln header group plan => exact whilePowered_acts (simple_calm (routePlan_chain _ _) s) h
  | contactSample line sample => exact whilePowered_acts (takeSample_acts line sample s) h
  | showClockAdvance => exact whilePowered_acts (advanceClock_acts s) h
  | powerLoss => exact whilePowered_acts (.one (.powerLost s rfl)) h

/-- What every act keeps, and what does not depend on the queue of waiting commands, every step keeps. -/
theorem step_keeps {P : State → Prop} (act : ∀ e s t, Act e s t → P s → P t)
    (pending : ∀ s rest, P s → P (s.withPending rest)) {s t : State} (hs : P s) (h : step s = .next t) : P t := by
  unfold step at h
  split at h
  · injection h with h
    exact h ▸ hs
  · exact (exec_acts h).keeps (act _) (pending s _ hs)

end Sys2Proof.Machine
end

section
/-! SUPPORT. The invariants that every small change keeps, and the obligations O2, O52, O55, O56, O59 and O60. -/

namespace Sys2Proof.Machine

variable {e : Bool} {s t : State}

/-! ## What every small change keeps, every step keeps -/

/-- The acts that start blocks afresh: BGPF's empty report, RSTR and the loss and return of power. -/
inductive Fresh : State → State → Prop
  | begun (number : Nat) {countdown : Nat} {s : State} (h : countdown ≤ 7200) : Fresh s (s.onPhase (PhaseUnit.begun number countdown))
  | restarted (s : State) : Fresh s (restart s)
  | poweredOn (straps : BitVec 7) (s : State) : Fresh s (poweredOn straps s.stored s.pending)
  | powerLost (s : State) : Fresh s (powerLost s)

/-- The kinds of change of a POS frame (R129). -/
def positionKinds : List Kind := .position :: calm

theorem takePos_chain (payload : List Byte) (s : State) : Chain positionKinds s (takePos payload s) := by
  unfold takePos
  split
  · next hi lo flags _ =>
    have taken : Chain positionKinds s (takePosition (number2 hi lo) (DriveFlags.ofByte flags) s) :=
      .one (.position _ _ s) (by decide)
    have steps (wasLocal : Bool) (t : State) :
        Chain calm t (applyEstimator (applyFloorCheck (applyDerivation (applyLocalFlag wasLocal (applyDriveFault t))))) :=
      ((((applyDriveFault_chain t).trans (applyLocalFlag_chain _ _)).trans (applyDerivation_chain _)).trans
        (applyFloorCheck_chain _)).trans (applyEstimator_chain _)
    exact taken.trans ((steps _ _).mono (by simp [positionKinds]))
  · exact .refl s

theorem ZoneChange.chain {change : State → State} (h : ZoneChange s change) : Chain zoneKinds s (change s) := by
  cases h with
  | report z condition => exact zoneReport_chain z condition s
  | verified z => exact enterZone_chain (by rfl) z .verified s
  | stale z => exact zoneStale_chain z s
  | closed windows cause => exact closeWindows_chain windows cause s
  | panel reading => exact panelReading_chain reading s
  | isolated z => exact enterZone_chain (by rfl) z .command s
  | restored z => exact restoreZone_chain z s
  | reset zones => exact forEach_chain zones (fun z _ t => resetZone_chain z t) s
  | opened cause w => exact openWindow_chain cause w s
  | loaded load => exact zoneLoadChange_chain load s

theorem clearZones_chain (s : State) : Chain usual s (clearZones s) :=
  .one (.zones rfl fun _ => by
    simp [zoneTimersRun]) (by decide)

theorem placeStep_phase (new : Phase) (p : PhaseUnit) : PlaceStep p { id p with phase := new } :=
  ⟨⟨rfl, rfl⟩, ⟨rfl, rfl⟩, rfl⟩

/-- Every act is a chain of changes that leave the report's entries, or starts blocks afresh. -/
theorem Act.usual_or_fresh (h : Act e s t) : Chain usual s t ∨ (e = true ∧ Fresh s t) := by
  cases h with
  | routine h => exact .inl (routine_usual h)
  | apart h => exact .inl (h.mono (by decide))
  | position payload => exact .inl ((takePos_chain payload s).mono (by decide))
  | zone origin h => exact .inl (phase_usual (zoneStep_chain origin h.chain))
  | zonesCleared h => exact .inl (clearZones_chain s)
  | entered cause place legal adds => exact .inl (phase_usual (changePhase_chain place adds))
  | ended h =>
    have left : Chain usual s (s.onPhase PhaseUnit.leaving) :=
      .one (.place (f := PhaseUnit.leaving) ⟨⟨rfl, rfl⟩, ⟨rfl, rfl⟩, rfl⟩) (by decide)
    have closed := left.trans (alarm_usual (closeAllWindows_chain .ended _))
    exact .inl (closed.trans (phase_usual
      (changePhase_chain (placeStep_phase .closed _) fun _ => calm_routine (leaveHold_chain _ _))))
  | begun number h closed he => exact .inr ⟨he, .begun number h⟩
  | restarted h he => exact .inr ⟨he, .restarted s⟩
  | poweredOn straps _ he => exact .inr ⟨he, .poweredOn straps s⟩
  | powerLost _ he => exact .inr ⟨he, .powerLost s⟩

/-- What every small change keeps, what holds of a fresh state, and what does not depend on the queue, every step keeps. -/
theorem step_keeps_of_micro {P : State → Prop} (micro : ∀ k s t, Micro k s t → P s → P t) (fresh : ∀ s t, Fresh s t → P s → P t)
    (pending : ∀ s rest, P s → P (s.withPending rest)) (hs : P s) (h : step s = .next t) : P t :=
  step_keeps (fun _ s t act hs => act.usual_or_fresh.elim (fun chain => chain.keeps (fun k _ s t => micro k s t) hs)
    fun ⟨_, f⟩ => fresh s t f hs) pending hs h

/-! ## The capacities (O52) -/

theorem micro_withinCapacities {k : Kind} (h : Micro k s t) (hs : withinCapacities s = true) : withinCapacities t = true := by
  simp only [withinCapacities, decide_eq_true_eq] at hs ⊢
  obtain ⟨bad, forward, origin, run, report, lost, queue⟩ := hs
  cases h with
  | loop h =>
    exact ⟨h.badFrames.trans (max_le le_rfl bad), h.forward.trans (max_le le_rfl forward),
      h.origin.trans (max_le le_rfl origin), h.forwardRun.trans (max_le le_rfl run), report, lost, queue⟩
  | place h =>
    obtain ⟨sameReport, sameLost⟩ := h.report
    exact ⟨bad, forward, origin, run, by simpa [sameReport] using report, by simpa [sameLost] using lost, queue⟩
  | counts h =>
    obtain ⟨sameReport, sameLost⟩ := h.report
    exact ⟨bad, forward, origin, run, by simpa [sameReport] using report, by simpa [sameLost] using lost, queue⟩
  | report h =>
    exact ⟨bad, forward, origin, run, h.length.trans (max_le le_rfl report), h.lost.trans (max_le le_rfl lost), queue⟩
  | emptied number h => exact ⟨bad, forward, origin, run, Nat.zero_le _, Nat.zero_le _, queue⟩
  | calls h => exact ⟨bad, forward, origin, run, report, lost, h.trans (max_le le_rfl queue)⟩
  | _ => exact ⟨bad, forward, origin, run, report, lost, queue⟩

theorem fresh_withinCapacities (h : Fresh s t) (hs : withinCapacities s = true) : withinCapacities t = true := by
  cases h with
  | begun number h => exact micro_withinCapacities (.emptied number h) hs
  | restarted => rfl
  | poweredOn straps => rfl
  | powerLost => rfl

/-! ## The zone and window timers (O55) -/

theorem micro_zoneTimersRun {k : Kind} (h : Micro k s t) (hs : zoneTimersRun s = true) : zoneTimersRun t = true := by
  cases h with
  | zones _ timers => exact timers hs
  | _ => exact hs

theorem poweredOn_zoneTimersRun (straps : BitVec 7) (stored : Option StoredImage) (pending : List Instr) :
    zoneTimersRun (poweredOn straps stored pending) = true := by
  refine zoneTimersRun_iff.2 ⟨fun z zone h => ?_, fun w window h => ?_⟩
  · obtain ⟨_, _, rfl⟩ : ∃ d, (loadedImage stored).zones[z]? = some (some d) ∧ Zone.poweredOn (loadedImage stored).profile d = zone := by
      simpa [poweredOn, zoneAt, mapTable_getElem?, Option.join_eq_some_iff] using h
    rfl
  · obtain ⟨d, _, rfl⟩ : ∃ d, (loadedImage stored).windows[w]? = some d ∧ Window.closed d = window := by
      simpa [poweredOn, mapTable_getElem?] using h
    rfl

theorem restart_zoneTimersRun (s : State) : zoneTimersRun (restart s) = true := by
  refine zoneTimersRun_iff.2 ⟨fun z zone h => ?_, fun w window h => ?_⟩
  · obtain ⟨old, _, rfl⟩ : ∃ old, s.zones.zones[z]? = some (some old) ∧ Zone.initial s old.defn = zone := by
      simpa [restart, restartedZones, zoneAt, mapTable_getElem?, Option.join_eq_some_iff] using h
    rfl
  · obtain ⟨old, _, rfl⟩ : ∃ old, s.zones.windows[w]? = some old ∧ Window.closed old.defn = window := by
      simpa [restart, restartedZones, mapTable_getElem?] using h
    rfl

theorem fresh_zoneTimersRun (h : Fresh s t) (hs : zoneTimersRun s = true) : zoneTimersRun t = true := by
  cases h with
  | begun number h => exact hs
  | restarted => exact restart_zoneTimersRun s
  | poweredOn straps => exact poweredOn_zoneTimersRun straps s.stored s.pending
  | powerLost => exact poweredOn_zoneTimersRun s.loop.node s.stored s.pending

/-! ## The curtain record and the estimator (O56) -/

theorem micro_curtainLegal {k : Kind} (h : Micro k s t) (hs : curtainLegal s.curtain = true) : curtainLegal t.curtain = true := by
  cases h with
  | curtain h => exact h.legal hs
  | _ => exact hs

theorem fresh_curtainLegal (h : Fresh s t) (hs : curtainLegal s.curtain = true) : curtainLegal t.curtain = true := by
  cases h with
  | begun number h => exact hs
  | restarted => rfl
  | poweredOn straps => rfl
  | powerLost => rfl

theorem descentInRange_iff : descentInRange s = true ↔ s.curtain.inRange ∧ s.phase.demoTime ≤ 65535 := by
  simp only [descentInRange, decide_eq_true_eq, Curtain.inRange, Estimator.inRange]
  tauto

theorem micro_descentInRange {k : Kind} (h : Micro k s t) (hs : descentInRange s = true) : descentInRange t = true := by
  obtain ⟨curtain, demo⟩ := descentInRange_iff.1 hs
  refine descentInRange_iff.2 ?_
  cases h with
  | place h => exact ⟨curtain, h.demo.2.trans_le demo⟩
  | counts h => exact ⟨curtain, h.demo.2.trans_le demo⟩
  | demoTime => exact ⟨curtain, curtain.2⟩
  | report h =>
    have same := congrArg PhaseUnit.demoTime h.record
    exact ⟨curtain, same.trans_le demo⟩
  | emptied number h => exact ⟨curtain, Nat.zero_le _⟩
  | curtain h => exact ⟨h.range curtain, demo⟩
  | _ => exact ⟨curtain, demo⟩

theorem fresh_descentInRange (h : Fresh s t) (hs : descentInRange s = true) : descentInRange t = true := by
  cases h with
  | begun number h => exact micro_descentInRange (.emptied number h) hs
  | restarted => rfl
  | poweredOn straps => rfl
  | powerLost => rfl

/-! ## Groups, latches, the store and the new marks (O59) -/

theorem groupsLegal_iff : groupsLegal s = true ↔ ∀ (i : Nat) (g : Group), s.lights.groups[i]? = some g → g.legal = true := by
  simp only [groupsLegal, List.all_eq_true, Vector.mem_toList_iff, Vector.mem_iff_getElem?]
  exact ⟨fun h i g hg => h g ⟨i, hg⟩, fun h g ⟨i, hg⟩ => h i g hg⟩

theorem micro_groupsLegal {k : Kind} (h : Micro k s t) (hs : groupsLegal s = true) : groupsLegal t = true := by
  cases h with
  | lights h =>
    refine groupsLegal_iff.2 fun i g hg => ?_
    obtain ⟨old, hold, legal⟩ := h.groups i g hg
    exact legal (groupsLegal_iff.1 hs i old hold)
  | _ => exact hs

theorem fresh_groupsLegal (h : Fresh s t) (hs : groupsLegal s = true) : groupsLegal t = true := by
  cases h with
  | begun number h => exact hs
  | restarted => rfl
  | poweredOn straps => rfl
  | powerLost => rfl

theorem generatorsLatched_iff : generatorsLatched s = true ↔
    ∀ (i : Nat) (g : Generator), s.bells.generators[i]? = some g → g.latched.isSome = decide (g.state ≠ .idle) := by
  simp only [generatorsLatched, List.all_eq_true, Vector.mem_toList_iff, Vector.mem_iff_getElem?, decide_eq_true_eq]
  exact ⟨fun h i g hg => h g ⟨i, hg⟩, fun h g ⟨i, hg⟩ => h i g hg⟩

theorem micro_generatorsLatched {k : Kind} (h : Micro k s t) (hs : generatorsLatched s = true) : generatorsLatched t = true := by
  cases h with
  | bells h => exact generatorsLatched_iff.2 fun i g hg => (h i g hg).elim (generatorsLatched_iff.1 hs i g) fun sound => sound.2
  | _ => exact hs

theorem fresh_generatorsLatched (h : Fresh s t) (hs : generatorsLatched s = true) : generatorsLatched t = true := by
  cases h with
  | begun number h => exact hs
  | restarted => rfl
  | poweredOn straps => rfl
  | powerLost => rfl

theorem micro_storeInvalid {k : Kind} (h : Micro k s t) (hs : storeInvalidWhileStoring s = true) :
    storeInvalidWhileStoring t = true := by
  cases h with
  | command _ _ store => simpa [storeInvalidWhileStoring, store] using hs
  | attention same =>
    have store := congrArg CommandUnit.store same
    simp only [CommandUnit.managing] at store
    simpa [storeInvalidWhileStoring, store] using hs
  | storeBegun => simp [storeInvalidWhileStoring, startStore]
  | storeDone => simp [storeInvalidWhileStoring]
  | _ => exact hs

theorem fresh_storeInvalid (h : Fresh s t) (hs : storeInvalidWhileStoring s = true) : storeInvalidWhileStoring t = true := by
  cases h with
  | begun number h => exact hs
  | restarted => rfl
  | poweredOn straps => rfl
  | powerLost => rfl

theorem micro_marksOnFlags {k : Kind} (h : Micro k s t) (hs : marksOnFlags s = true) : marksOnFlags t = true := by
  cases h with
  | attention _ marks => exact marks hs
  | acknowledged mask => exact clearAcknowledged_marks mask hs
  | command attention marks _ => simpa [marksOnFlags, attention, marks] using hs
  | _ => exact hs

theorem fresh_marksOnFlags (h : Fresh s t) (hs : marksOnFlags s = true) : marksOnFlags t = true := by
  cases h with
  | begun number h => exact hs
  | restarted => exact decide_eq_true (BitVec.and_not_self _)
  | poweredOn straps => exact decide_eq_true (BitVec.and_not_self _)
  | powerLost => exact decide_eq_true (BitVec.and_not_self _)

/-! ## Safety entries (O60) -/

theorem micro_safety {k : Kind} (hk : k ∈ usual) (h : Micro k s t) {x : ReportEntry} (safety : x.kind.safety = true) :
    s.phase.report.count x ≤ t.phase.report.count x := by
  cases h with
  | report h => exact h.safety x safety
  | place h => exact (congrArg (List.count x) h.report.1).ge
  | counts h => exact (congrArg (List.count x) h.report.1).ge
  | emptied number h => exact absurd hk (by decide)
  | _ => exact le_rfl

theorem chain_safety (h : Chain usual s t) {x : ReportEntry} (safety : x.kind.safety = true) :
    s.phase.report.count x ≤ t.phase.report.count x :=
  h.keeps (P := fun u => s.phase.report.count x ≤ u.phase.report.count x)
    (fun _ hk _ _ micro before => before.trans (micro_safety hk micro safety)) le_rfl

theorem acts_safety (h : Acts false s t) {x : ReportEntry} (safety : x.kind.safety = true) :
    s.phase.report.count x ≤ t.phase.report.count x :=
  h.keeps (P := fun u => s.phase.report.count x ≤ u.phase.report.count x)
    (fun _ _ act before => act.usual_or_fresh.elim (fun chain => before.trans (chain_safety chain safety))
      fun ⟨he, _⟩ => absurd he (by decide)) le_rfl

/-! ## The queue of waiting commands (O2) -/

theorem micro_pending {k : Kind} (h : Micro k s t) : t.pending = s.pending := by
  cases h <;> rfl

theorem fresh_pending (h : Fresh s t) : t.pending = s.pending := by
  cases h <;> rfl

theorem acts_pending (h : Acts e s t) : t.pending = s.pending :=
  h.keeps (P := fun u => u.pending = s.pending)
    (fun _ _ act before => act.usual_or_fresh.elim
      (fun chain => chain.keeps (P := fun u => u.pending = s.pending) (fun _ _ _ _ micro => (micro_pending micro).trans) before)
      fun ⟨_, fresh⟩ => (fresh_pending fresh).trans before) rfl

theorem exec_completes (c : Instr) (s : State) : ∃ t, exec c s = .next t := by
  cases c <;> exact ⟨_, rfl⟩

theorem exec_unpowered {c : Instr} {s : State} (off : s.powered = false) (notOn : ∀ straps, c ≠ .powerOn straps) :
    exec c s = .next s := by
  cases c with
  | powerOn straps => exact absurd rfl (notOn straps)
  | _ => exact whilePowered_of_unpowered off _

/-! ## The obligations -/

/-- Settles O1. -/
theorem stepTakesFrontCommand : Obligations.StepTakesFrontCommand := by
  refine ⟨fun c s => rfl, fun s empty => ?_⟩
  unfold step
  rw [empty]

/-- Settles O3: the reset state is one concrete state. -/
theorem resetIsLegalPowerOn : Obligations.ResetIsLegalPowerOn := by
  refine ⟨rfl, ?_⟩
  decide +kernel

/-- Settles O2: each row gives a next state, which no act but the queue's own taking changes the queue of; a row but POWER_ON
acts while the part has power alone. -/
theorem everyCommandCompletesAndKeepsQueue : Obligations.EveryCommandCompletesAndKeepsQueue := by
  refine ⟨fun c s => ?_, fun c s off notOn => exec_unpowered off notOn⟩
  obtain ⟨t, h⟩ := exec_completes c s
  exact ⟨t, h, acts_pending (exec_acts h)⟩

/-- Settles O52: every small change grows a queue, the report or a count within its capacity alone. -/
theorem stepKeepsCapacities : Obligations.StepKeepsCapacities := fun _ _ hs h =>
  step_keeps_of_micro (P := fun s => withinCapacities s = true) (fun _ _ _ => micro_withinCapacities)
    (fun _ _ => fresh_withinCapacities) (fun _ _ => id) hs h

/-- Settles O55: every change of a zone's or a window's record keeps its timer in step with its state. -/
theorem stepKeepsZoneTimers : Obligations.StepKeepsZoneTimers := fun _ _ hs h =>
  step_keeps_of_micro (P := fun s => zoneTimersRun s = true) (fun _ _ _ => micro_zoneTimersRun) (fun _ _ => fresh_zoneTimersRun)
    (fun _ _ => id) hs h

/-- Settles O56: every change of the curtain record keeps the legal combinations and the ranges. -/
theorem stepKeepsCurtainRecord : Obligations.StepKeepsCurtainRecord :=
  ⟨fun _ _ hs h => step_keeps_of_micro (P := fun s => curtainLegal s.curtain = true) (fun _ _ _ => micro_curtainLegal)
    (fun _ _ => fresh_curtainLegal) (fun _ _ => id) hs h,
   fun _ _ hs h => step_keeps_of_micro (P := fun s => descentInRange s = true) (fun _ _ _ => micro_descentInRange)
    (fun _ _ => fresh_descentInRange) (fun _ _ => id) hs h⟩

/-- Settles O59: each of the four holds after every small change of its block. -/
theorem stepKeepsGroupsLatchesStoreAndMarks : Obligations.StepKeepsGroupsLatchesStoreAndMarks :=
  ⟨fun _ _ hs h => step_keeps_of_micro (P := fun s => groupsLegal s = true) (fun _ _ _ => micro_groupsLegal)
    (fun _ _ => fresh_groupsLegal) (fun _ _ => id) hs h,
   fun _ _ hs h => step_keeps_of_micro (P := fun s => generatorsLatched s = true) (fun _ _ _ => micro_generatorsLatched)
    (fun _ _ => fresh_generatorsLatched) (fun _ _ => id) hs h,
   fun _ _ hs h => step_keeps_of_micro (P := fun s => storeInvalidWhileStoring s = true) (fun _ _ _ => micro_storeInvalid)
    (fun _ _ => fresh_storeInvalid) (fun _ _ => id) hs h,
   fun _ _ hs h => step_keeps_of_micro (P := fun s => marksOnFlags s = true) (fun _ _ _ => micro_marksOnFlags)
    (fun _ _ => fresh_marksOnFlags) (fun _ _ => id) hs h⟩

/-- Settles O60: a command that may not empty the report is a chain of changes, none of which loses a safety entry. -/
theorem safetyEntriesAreKept : Obligations.SafetyEntriesAreKept := by
  intro c s t x quiet safety h
  exact acts_safety (quiet ▸ exec_acts h) safety

end Sys2Proof.Machine
end

section
/-! SUPPORT. The alarm condition record, K4 and the closed windows: each step of the Zone Monitor and each change of phase
settles them anew, and everything else leaves them. The obligations O53 and O54. -/

namespace Sys2Proof.Machine

variable {e : Bool} {s t u : State} {kinds : List Kind}

/-! ## What changes of the other kinds leave -/

theorem Chain.keeps_field {α : Type} {field : State → α} {k : Kind} (h : Chain kinds s t) (hk : k ∉ kinds)
    (micro : ∀ j s t, j ≠ k → Micro j s t → field t = field s) : field t = field s :=
  h.keeps (P := fun u => field u = field s)
    (fun j hj s t step before => (micro j s t (fun same => hk (same ▸ hj)) step).trans before) rfl

theorem chain_alarmRecord (h : Chain kinds s t) (hk : .alarm ∉ kinds) : t.zones.alarm = s.zones.alarm :=
  h.keeps_field (field := fun s => s.zones.alarm) hk fun j s t other step => by
    cases step with
    | zones same => exact same
    | alarm => exact absurd rfl other
    | _ => rfl

theorem chain_zones (h : Chain kinds s t) (hz : .zones ∉ kinds) (ha : .alarm ∉ kinds) : t.zones = s.zones :=
  h.keeps (P := fun u => u.zones = s.zones) (fun j hj s t step before => by
    cases step with
    | zones => exact absurd hj hz
    | alarm => exact absurd hj ha
    | _ => exact before) rfl

theorem chain_k4 (h : Chain kinds s t) (hk : .k4 ∉ kinds) : t.lights.k4 = s.lights.k4 :=
  h.keeps_field (field := fun s => s.lights.k4) hk fun j s t other step => by
    cases step with
    | lights h => exact h.k4
    | k4 => exact absurd rfl other
    | _ => rfl

theorem chain_stageAlarm (h : Chain kinds s t) (hk : .stage ∉ kinds) : t.curtain.stageAlarm = s.curtain.stageAlarm :=
  h.keeps_field (field := fun s => s.curtain.stageAlarm) hk fun j s t other step => by
    cases step with
    | curtain h => exact h.stage.1
    | stage => exact absurd rfl other
    | _ => rfl

theorem chain_phase (h : Chain kinds s t) (hk : .place ∉ kinds) : t.phase.phase = s.phase.phase :=
  h.keeps_field (field := fun s => s.phase.phase) hk fun j s t other step => by
    cases step with
    | place => exact absurd rfl other
    | counts h => exact h.place.1
    | report h => exact phase_of_record h.record
    | _ => rfl

/-! ## The record and K4 -/

/-- K4 is energised exactly while a zone is confirmed or the house is evacuated (R96). -/
def k4Follows (s : State) : Prop :=
  s.lights.k4 = (!s.zones.alarm.confirmed.isEmpty || decide (s.phase.phase = .evacuating))

theorem recordDerived_iff :
    recordDerived s = true ↔ s.zones.alarm = derivedAlarm s ∧ s.curtain.stageAlarm = s.zones.alarm.stage := by
  simp [recordDerived]

/-- The record that the zone states give depends on the zones and PANEL alone. -/
theorem derivedAlarm_congr (zones : t.zones.zones = s.zones.zones) (panel : t.zones.panel = s.zones.panel) :
    derivedAlarm t = derivedAlarm s := by
  simp only [derivedAlarm, confirmedZones, sideConfirmed, anyZone, zoneIs, zoneAt, zones, panel]

theorem recordDerived_of_same (zones : t.zones = s.zones) (stage : t.curtain.stageAlarm = s.curtain.stageAlarm)
    (hs : recordDerived s = true) : recordDerived t = true := by
  rw [recordDerived_iff] at hs ⊢
  rw [derivedAlarm_congr (congrArg _ zones) (congrArg _ zones), stage, zones]
  exact hs

theorem recordDerived_calm (h : Chain routine s t) (hs : recordDerived s = true) : recordDerived t = true :=
  recordDerived_of_same (chain_zones h (by decide) (by decide)) (chain_stageAlarm h (by decide)) hs

theorem k4Follows_keep (h : Chain kinds s t) (alarm : .alarm ∉ kinds) (k4 : .k4 ∉ kinds) (place : .place ∉ kinds)
    (hs : k4Follows s) : k4Follows t := by
  unfold k4Follows
  rw [chain_k4 h k4, chain_alarmRecord h alarm, chain_phase h place]
  exact hs

theorem k4Follows_deriveK4 (s : State) : k4Follows (deriveK4 s) := rfl

/-- The telling leaves the Curtain Supervisor with the value told. -/
theorem curtainToldStage_stageAlarm (stage : Bool) (s : State) : (curtainToldStage stage s).curtain.stageAlarm = stage := by
  unfold curtainToldStage
  split
  · next same => exact same.symm
  split
  · next risen =>
    have row (t : State) : (stageAlarmRow t).curtain.stageAlarm = t.curtain.stageAlarm :=
      chain_stageAlarm (stageAlarmRow_chain t) (by decide)
    have flow (t : State) : (startFlow t).curtain.stageAlarm = t.curtain.stageAlarm :=
      chain_stageAlarm (startFlow_chain t) (by decide)
    unfold stageAlarmRises
    dsimp only
    split
    · rw [row]
      exact risen.symm
    · rw [row, flow]
      exact risen.symm
  · next fallen => exact (Bool.eq_false_iff.2 fallen).symm

theorem curtainToldAlarm_stageAlarm (before : AlarmRecord) (s : State) :
    (curtainToldAlarm before s).curtain.stageAlarm = s.zones.alarm.stage := by
  unfold curtainToldAlarm
  dsimp only
  split
  · next fails =>
    exact (chain_stageAlarm (recordDemo_chain rfl _) (by decide)).trans (curtainToldStage_stageAlarm _ s)
  · exact curtainToldStage_stageAlarm _ s

/-! ## A step of the Zone Monitor (R102, R121) -/

/-- A handed-on record up to the evacuation request (R121). -/
def toldAlarm (before : AlarmRecord) (origin : Byte) (s : State) : State :=
  callsToldAlarm before (deriveK4 (curtainToldAlarm before (setAttention .alarmChange (reportAlarm origin s))))

theorem toldAlarm_zones (before : AlarmRecord) (origin : Byte) (s : State) : (toldAlarm before origin s).zones = s.zones := by
  have opened : Chain calm s (setAttention .alarmChange (reportAlarm origin s)) :=
    (report_calm _ _ s).trans (setAttention_calm _ _)
  have told := (calm_stage opened).trans (curtainToldAlarm_chain before _)
  calc (toldAlarm before origin s).zones
    _ = (deriveK4 (curtainToldAlarm before (setAttention .alarmChange (reportAlarm origin s)))).zones :=
      chain_zones (callsToldAlarm_chain before _) (by decide) (by decide)
    _ = (curtainToldAlarm before (setAttention .alarmChange (reportAlarm origin s))).zones := rfl
    _ = s.zones := chain_zones told (by decide) (by decide)

theorem toldAlarm_derived (before : AlarmRecord) (origin : Byte) {s : State} (h : s.zones.alarm = derivedAlarm s) :
    recordDerived (toldAlarm before origin s) = true := by
  have zones := toldAlarm_zones before origin s
  refine recordDerived_iff.2 ⟨?_, ?_⟩
  · rw [derivedAlarm_congr (congrArg _ zones) (congrArg _ zones), zones]
    exact h
  · have opened : Chain calm s (setAttention .alarmChange (reportAlarm origin s)) :=
      (report_calm _ _ s).trans (setAttention_calm _ _)
    rw [zones, toldAlarm, chain_stageAlarm (callsToldAlarm_chain before _) (by decide),
      ← chain_zones opened (by decide) (by decide)]
    exact curtainToldAlarm_stageAlarm before _

theorem toldAlarm_k4 (before : AlarmRecord) (origin : Byte) (s : State) : k4Follows (toldAlarm before origin s) :=
  k4Follows_keep (callsToldAlarm_chain before _) (by decide) (by decide) (by decide) (k4Follows_deriveK4 _)

/-- What the record's telling leaves in order, and the evacuation and calm changes keep, a handed-on change leaves in order. -/
theorem handOn_settles {P : State → Prop} {evacuation : State → State} {before : AlarmRecord} {origin : Byte} {s : State}
    (told : P (toldAlarm before origin s)) (evac : ∀ t, P t → P (evacuation t))
    (keep : ∀ t u, Chain calm t u → P t → P u) : P (handOn evacuation before origin s) := by
  unfold handOn
  dsimp only
  refine keep _ _ ((staffRequest_chain _ _ _).trans (notice_chain _ _)) ?_
  split
  · exact evac _ told
  · exact told

/-- The state of a step of the Zone Monitor at its change of the record. -/
def stepRecord (change : State → State) (s : State) : State :=
  (alarmClosure (change s)).onZones fun m => { m with alarm := derivedAlarm (alarmClosure (change s)) }

theorem zoneStepWith_cases (evacuation : State → State) (origin : Byte) (change : State → State) (s : State) :
    (derivedAlarm (alarmClosure (change s)) = s.zones.alarm ∧
      zoneStepWith evacuation origin change s = alarmClosure (change s)) ∨
    zoneStepWith evacuation origin change s = handOn evacuation s.zones.alarm origin (stepRecord change s) := by
  unfold zoneStepWith
  dsimp only
  split
  · next same => exact .inl ⟨same, rfl⟩
  · exact .inr rfl

theorem zoneStepWith_derived {evacuation : State → State} (evac : ∀ t, recordDerived t = true → recordDerived (evacuation t) = true)
    (origin : Byte) {change : State → State} {s : State} (changes : Chain zoneKinds s (change s))
    (hs : s.curtain.stageAlarm = s.zones.alarm.stage) : recordDerived (zoneStepWith evacuation origin change s) = true := by
  have closed := changes.trans (alarmClosure_chain (change s))
  obtain ⟨same, h⟩ | h := zoneStepWith_cases evacuation origin change s
  · rw [h, recordDerived_iff, chain_alarmRecord closed (by decide), chain_stageAlarm closed (by decide)]
    exact ⟨same.symm, hs⟩
  · rw [h]
    exact handOn_settles (toldAlarm_derived _ _ rfl) evac fun _ _ calm => recordDerived_calm (calm_routine calm)

theorem zoneStepWith_k4 {evacuation : State → State} (evac : ∀ t, k4Follows t → k4Follows (evacuation t))
    (origin : Byte) {change : State → State} {s : State} (changes : Chain zoneKinds s (change s)) (hs : k4Follows s) :
    k4Follows (zoneStepWith evacuation origin change s) := by
  obtain ⟨same, h⟩ | h := zoneStepWith_cases evacuation origin change s
  · rw [h]
    exact k4Follows_keep (changes.trans (alarmClosure_chain (change s))) (by decide) (by decide) (by decide) hs
  · rw [h]
    exact handOn_settles (toldAlarm_k4 _ _ _) evac fun _ _ calm => k4Follows_keep calm (by decide) (by decide) (by decide)

theorem closeAllWindows_derived (cause : ZoneCause) {s : State} (hs : recordDerived s = true) :
    recordDerived (closeAllWindows cause s) = true :=
  zoneStepWith_derived (fun _ => id) _ (closeWindows_chain _ _ s) (recordDerived_iff.1 hs).2

/-! ## A change of phase (R37, R47) -/

section ChangePhase

variable {new : Phase} {cause : PhaseCause} {fields : PhaseUnit → PhaseUnit} {further : State → State}
  (adds : ∀ t, Chain routine t (further t))
include adds

/-- The record of the phase, its entry and the entries of the transition (R37, steps 1 to 3). -/
theorem changePhase_opening (new : Phase) (cause : PhaseCause) (previous : Phase) (s : State) :
    Chain routine s (further (reportPhase new previous cause s)) :=
  (calm_routine (reportPhase_chain _ _ _ s)).trans (adds _)

theorem changePhase_derived (hs : recordDerived s = true) : recordDerived (changePhase new cause fields further s) = true := by
  have opened : recordDerived (further (reportPhase new s.phase.phase cause
      (s.onPhase fun p => { fields p with phase := new }))) = true :=
    recordDerived_calm (changePhase_opening adds new cause _ _) (recordDerived_of_same rfl rfl hs)
  have told (previous : Phase) {t : State} (ht : recordDerived t = true) :
      recordDerived (callsToldPhase new previous (curtainToldPhase new (deriveK4 t))) = true :=
    recordDerived_calm (calm_routine ((curtainToldPhase_chain _ _).trans (callsToldPhase_chain _ _ _)))
      (recordDerived_of_same (t := deriveK4 t) rfl rfl ht)
  refine recordDerived_calm (calm_routine (notice_chain _ _)) ?_
  unfold tellPhase
  dsimp only
  split
  · exact told _ (closeAllWindows_derived .evacuation opened)
  · exact told _ opened

omit adds in
theorem changePhase_k4 : k4Follows (changePhase new cause fields further s) :=
  k4Follows_keep (((curtainToldPhase_chain _ _).trans (callsToldPhase_chain _ _ _)).trans (notice_chain _ _)) (by decide)
    (by decide) (by decide) (k4Follows_deriveK4 _)

end ChangePhase

theorem evacuate_derived (hs : recordDerived s = true) : recordDerived (evacuate s) = true := by
  unfold evacuate
  split
  · exact hs
  · exact changePhase_derived (fun t => .refl t) hs

theorem evacuate_k4 (hs : k4Follows s) : k4Follows (evacuate s) := by
  unfold evacuate
  split
  · exact hs
  · exact changePhase_k4

end Sys2Proof.Machine
end

section
/-! SUPPORT. What every act leaves of the alarm condition record, K4 and the closed windows, and the obligations O53 and O54. -/

namespace Sys2Proof.Machine

variable {e : Bool} {s t u : State}

/-! ## Zones that a load may change, and fresh ones -/

/-- The record where no zone but PANEL gives it anything. -/
def panelAlarm (panel : ZoneState) : AlarmRecord where
  confirmed := if panel = .confirmed then [panelNumber] else []
  stage := decide (panel = .confirmed)
  house := decide (panel = .confirmed)
  front := decide (panel = .confirmed)
  prealarm := false
  fault := panel.isFault

/-- Every defined zone's state allows a load to change it. -/
def zonesLoadable (s : State) : Prop := ∀ (z : Nat) (zone : Zone), zoneAt s z = some zone → zone.state.loadable = true

theorem mem_zones {zone : Zone} : some zone ∈ s.zones.zones.toList ↔ ∃ z, zoneAt s z = some zone := by
  simp [Vector.mem_iff_getElem?, zoneAt, Option.join_eq_some_iff]

theorem anyZone_eq_false {kind : Zone → Bool} (h : ∀ z zone, zoneAt s z = some zone → kind zone = false) :
    (s.zones.zones.toList.any fun zone => zone.any kind) = false := by
  refine List.any_eq_false.2 fun zone mem => ?_
  cases zone with
  | none => simp
  | some zone =>
    obtain ⟨z, hz⟩ := mem_zones.1 mem
    simpa using h z zone hz

theorem loadable_cases {state : ZoneState} (h : state.loadable = true) : state = .normal ∨ state = .isolated := by
  cases state <;> simp [ZoneState.loadable] at h ⊢

/-- With every zone loadable the record is PANEL's alone. -/
theorem derivedAlarm_loadable (h : zonesLoadable s) : derivedAlarm s = panelAlarm s.zones.panel.state := by
  have side (side : Side) : (s.zones.zones.toList.any fun zone =>
      zone.any fun z => decide (z.state = .confirmed ∧ z.defn.side = side)) = false :=
    anyZone_eq_false fun z zone hz => by rcases loadable_cases (h z zone hz) with hs | hs <;> simp [hs]
  have none_confirmed : ((List.range 48).filter fun z => zoneIs s z .confirmed) = [] := by
    refine List.filter_eq_nil_iff.2 fun z _ => ?_
    unfold zoneIs
    cases hz : zoneAt s z with
    | none => simp
    | some zone => rcases loadable_cases (h z zone hz) with hs | hs <;> simp [hs]
  have prealarm : anyZone s ZoneState.isPrealarm = false :=
    anyZone_eq_false fun z zone hz => by rcases loadable_cases (h z zone hz) with hs | hs <;> simp [hs, ZoneState.isPrealarm]
  have fault : anyZone s ZoneState.isFault = false :=
    anyZone_eq_false fun z zone hz => by rcases loadable_cases (h z zone hz) with hs | hs <;> simp [hs, ZoneState.isFault]
  simp only [derivedAlarm, panelAlarm, confirmedZones, sideConfirmed, side, none_confirmed, prealarm, fault, Bool.or_false,
    Bool.false_or, List.nil_append]

theorem zoneAt_clearZones (z : Nat) (s : State) : zoneAt (clearZones s) z = none := by
  simp only [zoneAt, clearZones, State.onZones_zones, Vector.getElem?_replicate]
  split <;> rfl

theorem zonesLoadable_of_clearable (h : zonesClearable s = true) : zonesLoadable s := by
  intro z zone hz
  simp only [zonesClearable, Bool.and_eq_true, List.all_eq_true] at h
  simpa using h.1 _ (mem_zones.2 ⟨z, hz⟩)

theorem clearZones_derived (h : zonesClearable s = true) (hs : recordDerived s = true) : recordDerived (clearZones s) = true := by
  obtain ⟨derived, stage⟩ := recordDerived_iff.1 hs
  refine recordDerived_iff.2 ⟨derived.trans ?_, stage⟩
  rw [derivedAlarm_loadable (zonesLoadable_of_clearable h),
    derivedAlarm_loadable (s := clearZones s) fun z zone hz => by simp [zoneAt_clearZones] at hz]
  rfl

theorem zonesLoadable_poweredOn (straps : BitVec 7) (stored : Option StoredImage) (pending : List Instr) :
    zonesLoadable (poweredOn straps stored pending) := by
  intro z zone hz
  obtain ⟨_, _, rfl⟩ : ∃ d, (loadedImage stored).zones[z]? = some (some d) ∧
      Zone.poweredOn (loadedImage stored).profile d = zone := by
    simpa [poweredOn, zoneAt, mapTable_getElem?, Option.join_eq_some_iff] using hz
  rfl

theorem zonesLoadable_restart (s : State) : zonesLoadable (restart s) := by
  intro z zone hz
  obtain ⟨old, _, rfl⟩ : ∃ old, s.zones.zones[z]? = some (some old) ∧ Zone.initial s old.defn = zone := by
    simpa [restart, restartedZones, zoneAt, mapTable_getElem?, Option.join_eq_some_iff] using hz
  rfl

theorem fresh_derived (h : Fresh s t) (hs : recordDerived s = true) : recordDerived t = true := by
  cases h with
  | begun number h => exact recordDerived_of_same rfl rfl hs
  | restarted => exact recordDerived_iff.2 ⟨(derivedAlarm_loadable (zonesLoadable_restart s)).symm, rfl⟩
  | poweredOn straps => exact recordDerived_iff.2 ⟨(derivedAlarm_loadable (zonesLoadable_poweredOn straps s.stored s.pending)).symm, rfl⟩
  | powerLost =>
    exact recordDerived_iff.2 ⟨(derivedAlarm_loadable (zonesLoadable_poweredOn s.loop.node s.stored s.pending)).symm, rfl⟩

/-! ## The record and K4 after every act -/

theorem act_derived (h : Act e s t) (hs : recordDerived s = true) : recordDerived t = true := by
  cases h with
  | routine h => exact recordDerived_calm h hs
  | apart h => exact recordDerived_of_same (chain_zones h (by decide) (by decide)) (chain_stageAlarm h (by decide)) hs
  | position payload =>
    have taken := takePos_chain payload s
    exact recordDerived_of_same (chain_zones taken (by decide) (by decide)) (chain_stageAlarm taken (by decide)) hs
  | zone origin h => exact zoneStepWith_derived (fun _ => evacuate_derived) origin h.chain (recordDerived_iff.1 hs).2
  | zonesCleared h => exact clearZones_derived h hs
  | entered cause place legal adds => exact changePhase_derived adds hs
  | ended h =>
    exact changePhase_derived (fun _ => calm_routine (leaveHold_chain _ _))
      (closeAllWindows_derived .ended (recordDerived_of_same rfl rfl hs))
  | begun number h closed he => exact fresh_derived (.begun number h) hs
  | restarted h he => exact fresh_derived (.restarted s) hs
  | poweredOn straps _ he => exact fresh_derived (.poweredOn straps s) hs
  | powerLost _ he => exact fresh_derived (.powerLost s) hs

theorem act_k4 (h : Act e s t) (hs : k4Follows s) : k4Follows t := by
  cases h with
  | routine h => exact k4Follows_keep h (by decide) (by decide) (by decide) hs
  | apart h => exact k4Follows_keep h (by decide) (by decide) (by decide) hs
  | position payload => exact k4Follows_keep (takePos_chain payload s) (by decide) (by decide) (by decide) hs
  | zone origin h => exact zoneStepWith_k4 (fun _ => evacuate_k4) origin h.chain hs
  | zonesCleared h => exact hs
  | entered cause place legal adds => exact changePhase_k4
  | ended h => exact changePhase_k4
  | begun number h closed he => exact hs
  | restarted h he => exact rfl
  | poweredOn straps _ he => exact rfl
  | powerLost _ he => exact rfl

/-! ## The other relays -/

/-- The bells' relays, K5, K7, and K6 with the stage-side value that the Curtain Supervisor holds. -/
def otherRelays (s : State) : Prop :=
  (∀ (i : Nat) (g : Generator), s.bells.generators[i]? = some g → g.relay = decide (g.state = .ring)) ∧
    s.curtain.k5 = decide (s.curtain.state = .released) ∧ s.curtain.k6 = s.curtain.stageAlarm ∧
    s.loop.k7 = decide (s.loop.ring = .ok)

theorem relaysFollow_iff (hs : recordDerived s = true) : relaysFollow s = true ↔ k4Follows s ∧ otherRelays s := by
  have generator_mem (g : Generator) : g ∈ s.bells.generators.toList ↔ ∃ i : Nat, s.bells.generators[i]? = some g := by
    simp [Vector.mem_iff_getElem?]
  rw [recordDerived_iff] at hs
  simp only [relaysFollow, Bool.and_eq_true, List.all_eq_true, generator_mem, decide_eq_true_eq, forall_exists_index,
    k4Follows, otherRelays, hs.2]
  constructor
  · rintro ⟨bells, k4, k5, k6, k7⟩
    exact ⟨k4, fun i g hg => bells g i hg, k5, k6, k7⟩
  · rintro ⟨k4, bells, k5, k6, k7⟩
    exact ⟨fun g i hg => bells i g hg, k4, k5, k6, k7⟩

theorem micro_otherRelays {k : Kind} (h : Micro k s t) (hs : otherRelays s) : otherRelays t := by
  obtain ⟨bells, k5, k6, k7⟩ := hs
  cases h with
  | loop h =>
    refine ⟨bells, k5, k6, ?_⟩
    obtain ⟨ring, same⟩ | set := h.healthy
    · rw [State.onLoop_loop, ring, same]
      exact k7
    · exact set
  | curtain h =>
    refine ⟨bells, ?_, ?_, k7⟩
    · obtain ⟨state, same⟩ | set := h.k5
      · rw [State.onCurtain_curtain, state, same]
        exact k5
      · exact set
    · rw [State.onCurtain_curtain, h.stage.1, h.stage.2]
      exact k6
  | stage value timer => exact ⟨bells, k5, rfl, k7⟩
  | bells h => exact ⟨fun i g hg => (h i g hg).elim (bells i g) And.left, k5, k6, k7⟩
  | _ => exact ⟨bells, k5, k6, k7⟩

theorem fresh_otherRelays (h : Fresh s t) (hs : otherRelays s) : otherRelays t := by
  have initial (i : Nat) (g : Generator) (hg : (Vector.replicate 4 Generator.initial)[i]? = some g) :
      g.relay = decide (g.state = .ring) := by
    obtain ⟨_, rfl⟩ : i < 4 ∧ Generator.initial = g := by simpa [Vector.getElem?_replicate] using hg
    rfl
  cases h with
  | begun number h => exact hs
  | restarted => exact ⟨initial, rfl, rfl, rfl⟩
  | poweredOn straps => exact ⟨initial, rfl, rfl, rfl⟩
  | powerLost => exact ⟨initial, rfl, rfl, rfl⟩

theorem act_otherRelays (h : Act e s t) (hs : otherRelays s) : otherRelays t :=
  h.usual_or_fresh.elim (fun chain => chain.keeps (fun _ _ _ _ => micro_otherRelays) hs) fun ⟨_, f⟩ => fresh_otherRelays f hs

/-- Settles O53: K4 is derived after each change of the record and of the phase, the others after each small change. -/
theorem stepKeepsRelays : Obligations.StepKeepsRelays := by
  intro s t relays derived h
  obtain ⟨k4, others⟩ := (relaysFollow_iff derived).1 relays
  obtain ⟨derived', k4', others'⟩ : recordDerived t = true ∧ k4Follows t ∧ otherRelays t :=
    step_keeps (P := fun s => recordDerived s = true ∧ k4Follows s ∧ otherRelays s)
      (fun _ _ _ act ⟨derived, k4, others⟩ => ⟨act_derived act derived, act_k4 act k4, act_otherRelays act others⟩)
      (fun _ _ => id) ⟨derived, k4, others⟩ h
  exact ⟨(relaysFollow_iff derived').2 ⟨k4', others'⟩, derived'⟩

end Sys2Proof.Machine
end

section
/-! SUPPORT. In an alarm every window is closed, and a masked zone stands under an open window: what each change of a zone or a
window leaves of this, and the obligation O54. -/

namespace Sys2Proof.Machine

variable {e : Bool} {s t u : State}

/-! ## Masked zones and the windows that cover them -/

/-- Every masked zone is covered by an open window. -/
def masksCovered (s : State) : Prop := ∀ z, zoneIs s z .masked = true → covered s z = true

/-- Every window is closed. -/
def windowsShut (s : State) : Prop := ∀ (w : Nat) (window : Window), s.zones.windows[w]? = some window → window.isOpen = false

theorem window_mem {window : Window} : window ∈ s.zones.windows.toList ↔ ∃ w : Nat, s.zones.windows[w]? = some window := by
  simp [Vector.mem_iff_getElem?]

theorem zoneIs_iff {z : Nat} {state : ZoneState} : zoneIs s z state = true ↔ ∃ zone, zoneAt s z = some zone ∧ zone.state = state := by
  simp [zoneIs, Option.any_eq_true]

theorem covered_iff {z : Nat} : covered s z = true ↔
    ∃ (w : Nat) (window : Window), s.zones.windows[w]? = some window ∧ window.isOpen = true ∧ window.holds z = true := by
  simp only [covered, List.any_eq_true, window_mem, Bool.and_eq_true]
  exact ⟨fun ⟨window, ⟨w, hw⟩, h⟩ => ⟨w, window, hw, h⟩, fun ⟨w, window, hw, h⟩ => ⟨window, ⟨w, hw⟩, h⟩⟩

theorem windowsClosedInAlarm_iff :
    windowsClosedInAlarm s = true ↔ (s.zones.alarm.confirmed = [] ∨ windowsShut s) ∧ masksCovered s := by
  simp only [windowsClosedInAlarm, Bool.and_eq_true, Bool.or_eq_true, List.isEmpty_iff, List.all_eq_true, window_mem,
    Bool.not_eq_true', List.mem_range, forall_exists_index, windowsShut, masksCovered]
  refine and_congr (or_congr_right ⟨fun h w window hw => h window w hw, fun h window w hw => h w window hw⟩)
    ⟨fun h z hz => ?_, fun h z _ => ?_⟩
  · obtain ⟨zone, at_, _⟩ := zoneIs_iff.1 hz
    simpa [hz] using h z (lt_of_zoneAt at_)
  · cases hz : zoneIs s z .masked with
    | false => exact .inl rfl
    | true => exact .inr (h z hz)

/-- Nothing becomes masked, and the windows stand. -/
structure Unmasks (s t : State) : Prop where
  windows : t.zones.windows = s.zones.windows
  masked : ∀ z, zoneIs t z .masked = true → zoneIs s z .masked = true

theorem covered_of_windows {z : Nat} (h : t.zones.windows = s.zones.windows) : covered t z = covered s z := by
  simp only [covered, h]

theorem Unmasks.trans (h : Unmasks s t) (k : Unmasks t u) : Unmasks s u :=
  ⟨k.windows.trans h.windows, fun z hz => h.masked z (k.masked z hz)⟩

theorem Unmasks.of_zones (h : t.zones = s.zones) : Unmasks s t :=
  ⟨congrArg _ h, fun z hz => by simpa only [zoneIs, zoneAt, h] using hz⟩

theorem Unmasks.refl (s : State) : Unmasks s s := .of_zones rfl

theorem Unmasks.covered (h : Unmasks s t) (hs : masksCovered s) : masksCovered t :=
  fun z hz => (covered_of_windows h.windows).trans (hs z (h.masked z hz))

theorem forEach_unmasks {α : Type} {f : α → State → State} (items : List α) (h : ∀ a t, Unmasks t (f a t)) (s : State) :
    Unmasks s (forEach items f s) :=
  forEach_induction (Unmasks s) f items s (fun a _ t ht => ht.trans (h a t)) (Unmasks.refl s)

/-! ## What the entries of a step leave -/

theorem reportZone_zones (z : Nat) (new previous : ZoneState) (cause : ZoneCause) (s : State) :
    (reportZone z new previous cause s).zones = s.zones := chain_zones (report_calm _ _ s) (by decide) (by decide)

theorem reportWindow_zones (w : Nat) (new previous : Bool) (cause : ZoneCause) (s : State) :
    (reportWindow w new previous cause s).zones = s.zones := chain_zones (report_calm _ _ s) (by decide) (by decide)

theorem zoneFaultAttention_zones (previous new : ZoneState) (s : State) : (zoneFaultAttention previous new s).zones = s.zones := by
  unfold zoneFaultAttention
  split <;> rfl

/-! ## Zones -/

@[simp] theorem windows_setZone (z : Nat) (zone : Option Zone) (s : State) : (setZone z zone s).zones.windows = s.zones.windows := rfl

/-- A zone's record is replaced by one that is masked only if the one before was. -/
theorem setZone_unmasks {z : Nat} {new : Option Zone}
    (h : ∀ zone, new = some zone → zone.state = .masked → zoneIs s z .masked = true) : Unmasks s (setZone z new s) := by
  refine ⟨windows_setZone z new s, fun i hi => ?_⟩
  obtain ⟨zone, hz, masked⟩ := zoneIs_iff.1 hi
  rw [zoneAt_setZone] at hz
  split at hz
  · next same => exact same.1 ▸ h zone hz masked
  · exact zoneIs_iff.2 ⟨zone, hz, masked⟩

theorem moveZone_zones {z : Nat} {new : ZoneState} (verify : Option Timer) (cause : ZoneCause) (s : State) :
    (moveZone z new verify cause s).zones = s.zones ∨ ∃ zone, zoneAt s z = some zone ∧ (moveZone z new verify cause s).zones =
      (setZone z (some { zone with state := new, verifyTimer := verify }) s).zones := by
  unfold moveZone
  split
  · exact .inl rfl
  · next zone hz =>
    split
    · exact .inl rfl
    · exact .inr ⟨zone, hz, by rw [zoneFaultAttention_zones, reportZone_zones]⟩

theorem moveZone_windows {z : Nat} {new : ZoneState} (verify : Option Timer) (cause : ZoneCause) (s : State) :
    (moveZone z new verify cause s).zones.windows = s.zones.windows := by
  obtain h | ⟨zone, _, h⟩ := moveZone_zones verify cause s (z := z) (new := new)
  · rw [h]
  · rw [h, windows_setZone]

theorem moveZone_unmasks {z : Nat} {new : ZoneState} (hnew : new ≠ .masked) (verify : Option Timer) (cause : ZoneCause) (s : State) :
    Unmasks s (moveZone z new verify cause s) := by
  obtain h | ⟨zone, _, h⟩ := moveZone_zones verify cause s (z := z) (new := new)
  · exact .of_zones h
  · exact (setZone_unmasks fun _ same masked => by cases same; exact absurd masked hnew).trans (.of_zones h)

theorem coincideLoop_unmasks (fuel : Nat) (work : List Nat) (s : State) : Unmasks s (coincideLoop fuel work s) := by
  induction fuel generalizing work s with
  | zero => exact .refl s
  | succ fuel ih =>
    cases work with
    | nil => exact .refl s
    | cons z work =>
      have partners := forEach_unmasks (linkedMasked s z)
        (fun p t => moveZone_unmasks (z := p) (new := .confirmed) (by decide) none .coincidence t) s
      unfold coincideLoop
      dsimp only
      split
      · exact (partners.trans (moveZone_unmasks (by decide) none _ _)).trans (ih _ _)
      · exact partners.trans (ih _ _)

theorem enterZone_unmasks {z : Nat} {new : ZoneState} (hnew : new ≠ .masked) (verify : Option Timer) (cause : ZoneCause)
    (s : State) : Unmasks s (enterZone z new verify cause s) := by
  unfold enterZone
  split
  · exact .refl s
  · dsimp only
    split
    · exact (moveZone_unmasks hnew verify cause s).trans (coincideLoop_unmasks _ _ _)
    · exact moveZone_unmasks hnew verify cause s

/-- A zone that is covered may become masked. -/
theorem moveZone_covered {z : Nat} (new : ZoneState) (verify : Option Timer) (cause : ZoneCause) (hs : masksCovered s)
    (hz : covered s z = true) : masksCovered (moveZone z new verify cause s) := by
  intro i hi
  rw [covered_of_windows (moveZone_windows verify cause s)]
  obtain h | ⟨zone, _, h⟩ := moveZone_zones verify cause s (z := z) (new := new)
  · exact hs i ((Unmasks.of_zones h).masked i hi)
  · obtain ⟨other, at_, masked⟩ := zoneIs_iff.1 ((Unmasks.of_zones h).masked i hi)
    rw [zoneAt_setZone] at at_
    split at at_
    · next same => exact same.1 ▸ hz
    · exact hs i (zoneIs_iff.2 ⟨other, at_, masked⟩)

theorem enterZone_covered {z : Nat} (new : ZoneState) (verify : Option Timer) (cause : ZoneCause) (hs : masksCovered s)
    (hz : new = .masked → covered s z = true) : masksCovered (enterZone z new verify cause s) := by
  by_cases hnew : new = .masked
  · unfold enterZone
    split
    · exact hs
    · have moved := moveZone_covered new verify cause hs (hz hnew)
      dsimp only
      split
      · exact (coincideLoop_unmasks _ _ _).covered moved
      · exact moved
  · exact (enterZone_unmasks hnew verify cause s).covered hs

/-! ## Closures (R118) -/

/-- The window is as it was, or closed now where it was one of these. -/
theorem closeWindow_windows (cause : ZoneCause) (w i : Nat) (s : State) :
    (closeWindow cause w s).zones.windows[i]? =
      (s.zones.windows[i]?).map fun x => if i = w ∧ x.isOpen then { x with isOpen := false, timer := none } else x := by
  unfold closeWindow
  split
  · next absent =>
    cases hi : s.zones.windows[i]? with
    | none => rfl
    | some x =>
      have other : i ≠ w := fun same => by simp [← same, hi] at absent
      simp [other]
  · next window hw =>
    split
    · next isOpen =>
      rw [reportWindow_zones, windows_setWindow]
      by_cases same : w = i
      · subst same
        obtain ⟨range, rfl⟩ := Vector.getElem?_eq_some_iff.1 hw
        simp [range, isOpen]
      · have other : i ≠ w := fun h => same h.symm
        simp [same, other]
    · next shut =>
      cases hi : s.zones.windows[i]? with
      | none => rfl
      | some x =>
        by_cases same : i = w
        · subst same
          rw [hi] at hw
          cases hw
          simp [shut]
        · simp [same]

theorem closeWindow_zoneAt (cause : ZoneCause) (w z : Nat) (s : State) : zoneAt (closeWindow cause w s) z = zoneAt s z := by
  unfold closeWindow
  split
  · rfl
  · split
    · simp only [zoneAt, reportWindow_zones]
      rfl
    · rfl

theorem forEach_closeWindow_windows (cause : ZoneCause) (windows : List Nat) (i : Nat) (s : State) :
    (forEach windows (closeWindow cause) s).zones.windows[i]? =
      (s.zones.windows[i]?).map fun x => if i ∈ windows ∧ x.isOpen then { x with isOpen := false, timer := none } else x := by
  induction windows generalizing s with
  | nil => simp [forEach]
  | cons w rest ih =>
    have step : forEach (w :: rest) (closeWindow cause) s = forEach rest (closeWindow cause) (closeWindow cause w s) := rfl
    rw [step, ih, closeWindow_windows, Option.map_map]
    congr 1
    funext x
    by_cases same : i = w <;> by_cases isOpen : x.isOpen = true <;> simp [same, isOpen]

theorem forEach_closeWindow_zoneAt (cause : ZoneCause) (windows : List Nat) (z : Nat) (s : State) :
    zoneAt (forEach windows (closeWindow cause) s) z = zoneAt s z :=
  forEach_induction (fun t => zoneAt t z = zoneAt s z) (closeWindow cause) windows s
    (fun w _ t ht => (closeWindow_zoneAt cause w z t).trans ht) rfl

theorem resolveAlarm_unmasks (z : Nat) (s : State) : Unmasks s (resolveAlarm z s) := by
  unfold resolveAlarm
  split
  · exact .refl s
  · split
    · exact enterZone_unmasks (by decide) none _ s
    · exact .refl s

theorem resolveClear_unmasks (z : Nat) (s : State) : Unmasks s (resolveClear z s) := by
  unfold resolveClear
  split
  · exact enterZone_unmasks (by decide) none _ s
  · exact .refl s

/-- Pass 2 leaves its zone unmasked. -/
theorem resolveClear_clears (z : Nat) (s : State) : zoneIs (resolveClear z s) z .masked = false := by
  by_cases masked : zoneIs s z .masked = true
  · obtain ⟨zone, hz, state⟩ := zoneIs_iff.1 masked
    have notNormal : zoneIs s z .normal = false := by simp [zoneIs, hz, state]
    have resolved : resolveClear z s = moveZone z .normal none .window s := by
      simp [resolveClear, masked, enterZone, notNormal, ZoneState.coincides]
    have zones : (moveZone z .normal none .window s).zones =
        (setZone z (some { zone with state := .normal, verifyTimer := none }) s).zones := by
      simp [moveZone, hz, state, zoneFaultAttention_zones, reportZone_zones]
    have at_ : zoneAt (resolveClear z s) z = some { zone with state := .normal, verifyTimer := none } := by
      rw [resolved, zoneAt, zones]
      exact (zoneAt_setZone z z _ s).trans (if_pos ⟨rfl, lt_of_zoneAt hz⟩)
    simp [zoneIs, at_]
  · rw [resolveClear, if_neg masked]
    exact Bool.eq_false_iff.2 masked

theorem forEach_resolveClear_clears {z : Nat} {zones : List Nat} (h : z ∈ zones) (s : State) :
    zoneIs (forEach zones resolveClear s) z .masked = false := by
  induction zones generalizing s with
  | nil => simp at h
  | cons first rest ih =>
    have step : forEach (first :: rest) resolveClear s = forEach rest resolveClear (resolveClear first s) := rfl
    rw [step]
    obtain rfl | later := List.mem_cons.1 h
    · refine Bool.eq_false_iff.2 fun masked => ?_
      have before := (forEach_unmasks rest resolveClear_unmasks _).masked z masked
      rw [resolveClear_clears] at before
      exact Bool.false_ne_true before
    · exact ih later _

/-- The resolution of a closure leaves the windows as its first part left them (R118). -/
theorem closeWindows_resolution (windows : List Nat) (cause : ZoneCause) (s : State) :
    Unmasks (forEach (windows.filter (windowOpen s)) (closeWindow cause) s) (closeWindows windows cause s) :=
  (forEach_unmasks _ resolveAlarm_unmasks _).trans (forEach_unmasks _ resolveClear_unmasks _)

theorem windowOpen_iff {w : Nat} : windowOpen s w = true ↔ ∃ window, s.zones.windows[w]? = some window ∧ window.isOpen = true := by
  unfold windowOpen
  cases s.zones.windows[w]? <;> simp

/-- A closure leaves every masked zone covered: those it uncovers are resolved. -/
theorem closeWindows_covered (windows : List Nat) (cause : ZoneCause) (hs : masksCovered s) :
    masksCovered (closeWindows windows cause s) := by
  have resolution := closeWindows_resolution windows cause s
  have resolved {z : Nat} (h : z ∈ uncovered (windows.filter (windowOpen s))
      (forEach (windows.filter (windowOpen s)) (closeWindow cause) s)) :
      zoneIs (closeWindows windows cause s) z .masked = false := forEach_resolveClear_clears h _
  have closed := forEach_closeWindow_windows cause (windows.filter (windowOpen s))
  have zones := forEach_closeWindow_zoneAt cause (windows.filter (windowOpen s))
  intro z hz
  have masked := resolution.masked z hz
  rw [covered_of_windows resolution.windows]
  by_contra bare
  have before : zoneIs s z .masked = true := by simpa only [zoneIs, zones] using masked
  obtain ⟨w, window, hw, isOpen, holds⟩ := covered_iff.1 (hs z before)
  have closing : w ∈ windows.filter (windowOpen s) := by
    by_contra stays
    exact bare (covered_iff.2 ⟨w, window, by simp [closed, hw, stays], isOpen, holds⟩)
  have uncovers : z ∈ uncovered (windows.filter (windowOpen s))
      (forEach (windows.filter (windowOpen s)) (closeWindow cause) s) := by
    obtain ⟨zone, at_, _⟩ := zoneIs_iff.1 before
    have held : ((forEach (windows.filter (windowOpen s)) (closeWindow cause) s).zones.windows[w]?).any
        (fun window => window.holds z) = true := by
      rw [closed, hw]
      simpa [closing, isOpen, Window.holds] using holds
    simp only [uncovered, List.mem_filter, List.mem_range, Bool.and_eq_true, Bool.not_eq_true']
    exact ⟨lt_of_zoneAt at_, ⟨masked, Bool.eq_false_iff.2 bare⟩, List.any_eq_true.2 ⟨w, closing, held⟩⟩
  rw [resolved uncovers] at hz
  exact Bool.false_ne_true hz

theorem closeWindows_all_shut (cause : ZoneCause) (s : State) : windowsShut (closeWindows allWindows cause s) := by
  intro w window hw
  rw [(closeWindows_resolution allWindows cause s).windows, forEach_closeWindow_windows] at hw
  obtain ⟨old, hold, rfl⟩ := Option.map_eq_some_iff.1 hw
  have range : w < 16 := (Vector.getElem?_eq_some_iff.1 hold).1
  by_cases isOpen : old.isOpen = true
  · have closing : w ∈ allWindows.filter (windowOpen s) :=
      List.mem_filter.2 ⟨List.mem_range.2 range, windowOpen_iff.2 ⟨old, hold, isOpen⟩⟩
    simp [closing, isOpen]
  · simp [isOpen]

/-! ## The changes of the steps (R102) -/

theorem alarmClosure_covered (hs : masksCovered s) : masksCovered (alarmClosure s) := by
  unfold alarmClosure
  split
  · exact closeWindows_covered _ _ hs
  · exact hs

/-- Stage 3 of a step leaves no window open beside a confirmed zone. -/
theorem alarmClosure_shut (s : State) : confirmedZones (alarmClosure s) = [] ∨ windowsShut (alarmClosure s) := by
  unfold alarmClosure
  split
  · exact .inr (closeWindows_all_shut _ s)
  · next none => exact .inl (not_not.1 none)

theorem confirmedFault_zones (z : Nat) (state : ZoneState) (last new : Condition) (cause : ZoneCause) (s : State) :
    (confirmedFault z state last new cause s).zones = s.zones := by
  unfold confirmedFault
  split
  · exact reportZone_zones _ _ _ _ _
  · rfl

/-- A report masks a covered zone alone (R104, R105). -/
theorem reportedState_masked {isCovered : Bool} {zone : Zone} {condition : Condition}
    (h : reportedState isCovered zone condition = .masked) : isCovered = true ∨ zone.state = .masked := by
  obtain ⟨_, state, _, _, _, _, _⟩ := zone
  cases isCovered with
  | true => exact .inl rfl
  | false =>
    refine .inr ?_
    cases state <;> cases condition <;> simp [reportedState, alarmState] at h ⊢ <;> split at h <;> simp at h

theorem zoneReport_covered (z : Nat) (condition : Condition) (hs : masksCovered s) : masksCovered (zoneReport z condition s) := by
  unfold zoneReport
  split
  · exact (Unmasks.of_zones rfl).covered hs
  · next zone hz =>
    have same (masked : zone.state = .masked) : zoneIs s z .masked = true := zoneIs_iff.2 ⟨zone, hz, masked⟩
    have stored : Unmasks s (setZone z (some { zone with
        last := condition
        lastReport := s.clock
        stale := false
        staleTimer := some (s.timerOf (s.command.profile.zoneReportLimit * 1000)) }) s) :=
      setZone_unmasks fun _ eq masked => by cases eq; exact same masked
    refine (Unmasks.of_zones (confirmedFault_zones _ _ _ _ _ _)).covered
      (enterZone_covered _ _ _ (stored.covered hs) fun masks => ?_)
    rw [covered_of_windows stored.windows]
    exact (reportedState_masked masks).elim id fun masked => hs z (same masked)

theorem zoneStale_covered (z : Nat) (hs : masksCovered s) : masksCovered (zoneStale z s) := by
  unfold zoneStale
  split
  · exact hs
  · next zone hz =>
    have stored : Unmasks s (setZone z (some { zone with stale := true, staleTimer := none }) s) :=
      setZone_unmasks fun _ eq masked => by cases eq; exact zoneIs_iff.2 ⟨zone, hz, masked⟩
    dsimp only
    split
    · exact (enterZone_unmasks (by decide) none _ _).covered (stored.covered hs)
    · exact stored.covered hs

theorem panel_unmasks (f : Panel → Panel) (s : State) : Unmasks s (s.onZones fun m => { m with panel := f m.panel }) :=
  ⟨rfl, fun _ => id⟩

theorem movePanel_unmasks (new : ZoneState) (cause : ZoneCause) (s : State) : Unmasks s (movePanel new cause s) := by
  unfold movePanel
  dsimp only
  split
  · exact .refl s
  · exact (panel_unmasks (fun p => { p with state := new }) s).trans
      (.of_zones ((zoneFaultAttention_zones _ _ _).trans (reportZone_zones _ _ _ _ _)))

theorem panelReading_unmasks (reading : Reading) (s : State) : Unmasks s (panelReading reading s) :=
  ((panel_unmasks (fun p => { p with last := panelCondition reading }) s).trans (movePanel_unmasks _ _ _)).trans
    (.of_zones (confirmedFault_zones _ _ _ _ _ _))

theorem restored_ne_masked (zone : Zone) : zone.restored ≠ .masked := by
  unfold Zone.restored
  split <;> decide

theorem restoreZone_unmasks (z : Nat) (s : State) : Unmasks s (restoreZone z s) := by
  unfold restoreZone
  split
  · exact .refl s
  · exact enterZone_unmasks (restored_ne_masked _) none _ s

theorem resetZone_unmasks (z : Nat) (s : State) : Unmasks s (resetZone z s) := by
  unfold resetZone
  split
  · exact movePanel_unmasks _ _ s
  · exact restoreZone_unmasks z s

/-- A window's record is replaced where it held no zone covered, or still does. -/
theorem setWindow_covered {w : Nat} {new : Window} (hs : masksCovered s)
    (h : ∀ old, s.zones.windows[w]? = some old → old.isOpen = true → new.isOpen = true ∧ new.defn = old.defn) :
    masksCovered (setWindow w new s) := by
  intro z hz
  have before : zoneIs s z .masked = true := hz
  obtain ⟨i, old, hi, isOpen, holds⟩ := covered_iff.1 (hs z before)
  refine covered_iff.2 ?_
  by_cases same : w = i
  · subst same
    obtain ⟨newOpen, defn⟩ := h old hi isOpen
    have range : w < 16 := (Vector.getElem?_eq_some_iff.1 hi).1
    exact ⟨w, new, by rw [windows_setWindow, if_pos ⟨rfl, range⟩], newOpen, by rwa [Window.holds, defn]⟩
  · exact ⟨i, old, by rw [windows_setWindow, if_neg (fun h => same h.1), hi], isOpen, holds⟩

theorem openWindow_covered (cause : ZoneCause) (w : Nat) (hs : masksCovered s) : masksCovered (openWindow cause w s) := by
  unfold openWindow
  split
  · exact hs
  · next window hw =>
    split
    · exact hs
    · next d hd =>
      have opened : masksCovered (setWindow w { window with
          isOpen := true, timer := some (s.timerOf (d.duration * 1000)) } s) :=
        setWindow_covered hs fun old hold _ => by
          rw [hw] at hold
          cases hold
          exact ⟨rfl, rfl⟩
      dsimp only
      split
      · exact opened
      · exact (Unmasks.of_zones (reportWindow_zones _ _ _ _ _)).covered opened

theorem zoneLoadChange_covered {load : ZoneLoad} (h : zoneLoadResult load s = .done) (hs : masksCovered s) :
    masksCovered (zoneLoadChange load s) := by
  cases load with
  | deleteZone z => exact (setZone_unmasks (new := none) fun _ eq => nomatch eq).covered hs
  | setZone z d =>
    refine Unmasks.covered ?_ hs
    unfold zoneLoadChange
    dsimp only
    split
    · exact setZone_unmasks fun _ eq masked => by
        cases eq
        exact ZoneState.noConfusion masked
    · next zone hz => exact setZone_unmasks fun _ eq masked => by cases eq; exact zoneIs_iff.2 ⟨zone, hz, masked⟩
  | deleteWindow w =>
    refine setWindow_covered hs fun old hold isOpen => ?_
    simp [zoneLoadResult, windowOpen_iff.2 ⟨old, hold, isOpen⟩] at h
  | setWindow w d =>
    refine setWindow_covered hs fun old hold isOpen => ?_
    simp [zoneLoadResult, windowOpen_iff.2 ⟨old, hold, isOpen⟩] at h

theorem ZoneChange.covered {change : State → State} (h : ZoneChange s change) (hs : masksCovered s) : masksCovered (change s) := by
  cases h with
  | report z condition => exact zoneReport_covered z condition hs
  | verified z => exact (enterZone_unmasks (by decide) none _ s).covered hs
  | stale z => exact zoneStale_covered z hs
  | closed windows cause => exact closeWindows_covered windows cause hs
  | panel reading => exact (panelReading_unmasks reading s).covered hs
  | isolated z => exact (enterZone_unmasks (by decide) none _ s).covered hs
  | restored z => exact (restoreZone_unmasks z s).covered hs
  | reset zones => exact (forEach_unmasks zones resetZone_unmasks s).covered hs
  | opened cause w => exact openWindow_covered cause w hs
  | loaded load h => exact zoneLoadChange_covered h hs

/-! ## Steps and changes of phase -/

theorem windowsClosed_of_zones (h : t.zones = s.zones) (hs : windowsClosedInAlarm s = true) : windowsClosedInAlarm t = true := by
  simpa only [windowsClosedInAlarm, zoneIs, zoneAt, Machine.covered, h] using hs

theorem windowsClosed_routine (h : Chain routine s t) (hs : windowsClosedInAlarm s = true) : windowsClosedInAlarm t = true :=
  windowsClosed_of_zones (chain_zones h (by decide) (by decide)) hs

theorem zoneStepWith_windows {evacuation : State → State}
    (evac : ∀ t, windowsClosedInAlarm t = true → windowsClosedInAlarm (evacuation t) = true) (origin : Byte)
    {change : State → State} {s : State} (changed : masksCovered (change s)) (changes : Chain zoneKinds s (change s)) :
    windowsClosedInAlarm (zoneStepWith evacuation origin change s) = true := by
  have covered := alarmClosure_covered changed
  have shut := alarmClosure_shut (change s)
  obtain ⟨same, h⟩ | h := zoneStepWith_cases evacuation origin change s
  · have record := chain_alarmRecord (changes.trans (alarmClosure_chain (change s))) (by decide)
    rw [h, windowsClosedInAlarm_iff, record, ← same]
    exact ⟨shut, covered⟩
  · have recorded : windowsClosedInAlarm (stepRecord change s) = true := windowsClosedInAlarm_iff.2 ⟨shut, covered⟩
    rw [h]
    exact handOn_settles (windowsClosed_of_zones (toldAlarm_zones _ _ _) recorded) evac fun _ _ calm =>
      windowsClosed_routine (calm_routine calm)

theorem closeAllWindows_windows (cause : ZoneCause) (hs : windowsClosedInAlarm s = true) :
    windowsClosedInAlarm (closeAllWindows cause s) = true :=
  zoneStepWith_windows (fun _ => id) _ (closeWindows_covered _ _ (windowsClosedInAlarm_iff.1 hs).2) (closeWindows_chain _ _ s)

theorem changePhase_windows {new : Phase} {cause : PhaseCause} {fields : PhaseUnit → PhaseUnit} {further : State → State}
    (adds : ∀ t, Chain routine t (further t)) (hs : windowsClosedInAlarm s = true) :
    windowsClosedInAlarm (changePhase new cause fields further s) = true := by
  have opened : windowsClosedInAlarm (further (reportPhase new s.phase.phase cause
      (s.onPhase fun p => { fields p with phase := new }))) = true :=
    windowsClosed_routine (changePhase_opening adds new cause _ _) (windowsClosed_of_zones rfl hs)
  have told (previous : Phase) {t : State} (ht : windowsClosedInAlarm t = true) :
      windowsClosedInAlarm (callsToldPhase new previous (curtainToldPhase new (deriveK4 t))) = true :=
    windowsClosed_routine (calm_routine ((curtainToldPhase_chain _ _).trans (callsToldPhase_chain _ _ _)))
      (windowsClosed_of_zones (t := deriveK4 t) rfl ht)
  refine windowsClosed_routine (calm_routine (notice_chain _ _)) ?_
  unfold tellPhase
  dsimp only
  split
  · exact told _ (closeAllWindows_windows .evacuation opened)
  · exact told _ opened

theorem evacuate_windows (hs : windowsClosedInAlarm s = true) : windowsClosedInAlarm (evacuate s) = true := by
  unfold evacuate
  split
  · exact hs
  · exact changePhase_windows (fun t => .refl t) hs

/-! ## Every act -/

theorem clearZones_windows (s : State) : windowsClosedInAlarm (clearZones s) = true := by
  refine windowsClosedInAlarm_iff.2 ⟨.inr fun w window hw => ?_, fun z hz => ?_⟩
  · obtain ⟨_, rfl⟩ : w < 16 ∧ _ = window := by simpa [clearZones, Vector.getElem?_replicate] using hw
    rfl
  · simp [zoneIs, zoneAt_clearZones] at hz

/-- With every zone loadable none is masked. -/
theorem masksCovered_of_loadable (h : zonesLoadable s) : masksCovered s := by
  intro z hz
  obtain ⟨zone, at_, masked⟩ := zoneIs_iff.1 hz
  have loadable := h z zone at_
  rw [masked] at loadable
  nomatch loadable

theorem fresh_windows (h : Fresh s t) (hs : windowsClosedInAlarm s = true) : windowsClosedInAlarm t = true := by
  cases h with
  | begun number h => exact windowsClosed_of_zones rfl hs
  | restarted => exact windowsClosedInAlarm_iff.2 ⟨.inl rfl, masksCovered_of_loadable (zonesLoadable_restart s)⟩
  | poweredOn straps =>
    exact windowsClosedInAlarm_iff.2 ⟨.inl rfl, masksCovered_of_loadable (zonesLoadable_poweredOn straps s.stored s.pending)⟩
  | powerLost =>
    exact windowsClosedInAlarm_iff.2 ⟨.inl rfl, masksCovered_of_loadable (zonesLoadable_poweredOn s.loop.node s.stored s.pending)⟩

theorem act_windows (h : Act e s t) (hs : windowsClosedInAlarm s = true) : windowsClosedInAlarm t = true := by
  cases h with
  | routine h => exact windowsClosed_routine h hs
  | apart h => exact windowsClosed_of_zones (chain_zones h (by decide) (by decide)) hs
  | position payload => exact windowsClosed_of_zones (chain_zones (takePos_chain payload s) (by decide) (by decide)) hs
  | zone origin h =>
    exact zoneStepWith_windows (fun _ => evacuate_windows) origin (h.covered (windowsClosedInAlarm_iff.1 hs).2) h.chain
  | zonesCleared h => exact clearZones_windows s
  | entered cause place legal adds => exact changePhase_windows adds hs
  | ended h =>
    exact changePhase_windows (fun _ => calm_routine (leaveHold_chain _ _))
      (closeAllWindows_windows .ended (windowsClosed_of_zones rfl hs))
  | begun number h closed he => exact fresh_windows (.begun number h) hs
  | restarted h he => exact fresh_windows (.restarted s) hs
  | poweredOn straps _ he => exact fresh_windows (.poweredOn straps s) hs
  | powerLost _ he => exact fresh_windows (.powerLost s) hs

/-- Settles O54: a step derives the record anew from the zones it leaves, its third stage closes the windows of an alarm, and
every closure resolves the masked zones it uncovers. -/
theorem stepKeepsWindowsClosedInAlarm : Obligations.StepKeepsWindowsClosedInAlarm := fun _ _ derived windows h =>
  step_keeps (P := fun s => recordDerived s = true ∧ windowsClosedInAlarm s = true)
    (fun _ _ _ act ⟨derived, windows⟩ => ⟨act_derived act derived, act_windows act windows⟩) (fun _ _ => id) ⟨derived, windows⟩ h

end Sys2Proof.Machine
end

section
/-! SUPPORT. A raise driven by the part neither in a stage alarm nor in EVACUATING: what each change leaves of this, and the
obligation O57. -/

namespace Sys2Proof.Machine

variable {e : Bool} {s t u : State} {kinds : List Kind}

/-! ## The two halves of the condition -/

/-- A raise is driven by the part (R138). -/
def raiseDriven (s : State) : Prop := s.curtain.state = .raising ∧ s.curtain.flags.localControl = false

/-- No raise is driven in a stage alarm. -/
def safeInAlarm (s : State) : Prop := raiseDriven s → s.curtain.stageAlarm = false

/-- No raise is driven in EVACUATING. -/
def safeInEvacuation (s : State) : Prop := raiseDriven s → s.phase.phase ≠ .evacuating

theorem raisesSafely_iff : raisesSafely s = true ↔ safeInAlarm s ∧ safeInEvacuation s := by
  simp only [raisesSafely, safeInAlarm, safeInEvacuation, raiseDriven, Bool.or_eq_true, Bool.not_eq_true', decide_eq_false_iff_not,
    Bool.and_eq_true]
  tauto

theorem not_raiseDriven (h : s.curtain.state ≠ .raising) : ¬ raiseDriven s := fun driven => h driven.1

theorem safeInAlarm_still (h : s.curtain.state ≠ .raising) : safeInAlarm s := fun driven => absurd driven (not_raiseDriven h)

theorem safeInEvacuation_still (h : s.curtain.state ≠ .raising) : safeInEvacuation s :=
  fun driven => absurd driven (not_raiseDriven h)

/-- A change of the curtain record starts a raise of the part's own outside an alarm and an evacuation alone. -/
theorem raiseDriven_curtain {f : Curtain → Curtain} (h : CurtainStep s s.curtain (f s.curtain)) (driven : raiseDriven (s.onCurtain f)) :
    raiseDriven s ∨ (s.curtain.stageAlarm = false ∧ s.phase.phase ≠ .evacuating) := by
  obtain ⟨raising, part⟩ := driven
  have flag : s.curtain.flags.localControl = false := by rw [← h.flags]; exact part
  obtain before | byHand | allowed := h.raising raising
  · exact .inl ⟨before, flag⟩
  · rw [flag] at byHand
    exact absurd byHand Bool.false_ne_true
  · exact .inr allowed

theorem chain_safeInAlarm (h : Chain kinds s t) (position : .position ∉ kinds) (stage : .stage ∉ kinds) (hs : safeInAlarm s) :
    safeInAlarm t :=
  h.keeps (fun k hk s t step hs => by
    cases step with
    | curtain h =>
      intro driven
      rw [State.onCurtain_curtain, h.stage.1]
      exact (raiseDriven_curtain h driven).elim hs And.left
    | position => exact absurd hk position
    | stage => exact absurd hk stage
    | _ => exact hs) hs

theorem chain_safeInEvacuation (h : Chain kinds s t) (position : .position ∉ kinds) (place : .place ∉ kinds)
    (hs : safeInEvacuation s) : safeInEvacuation t :=
  h.keeps (fun k hk s t step hs => by
    cases step with
    | curtain h => exact fun driven => (raiseDriven_curtain h driven).elim hs And.right
    | position => exact absurd hk position
    | place => exact absurd hk place
    | counts h => exact fun driven phase => hs driven (h.place.1.symm.trans phase)
    | report h => exact fun driven phase => hs driven ((phase_of_record h.record).symm.trans phase)
    | _ => exact hs) hs

theorem safely_routine (h : Chain routine s t) (hs : safeInAlarm s ∧ safeInEvacuation s) : safeInAlarm t ∧ safeInEvacuation t :=
  ⟨chain_safeInAlarm h (by decide) (by decide) hs.1, chain_safeInEvacuation h (by decide) (by decide) hs.2⟩

theorem safely_calm_still (h : Chain calm s t) (still : s.curtain.state ≠ .raising) : safeInAlarm t ∧ safeInEvacuation t :=
  safely_routine (calm_routine h) ⟨safeInAlarm_still still, safeInEvacuation_still still⟩

/-! ## Changes that leave no raise -/

theorem changeCurtain_state (next : Move) (s : State) : (changeCurtain next s).curtain.state = next.state := by
  rw [changeCurtain_curtain]
  rfl

theorem enterReleased_state (cause : Option FaultCause) (s : State) : (enterReleased cause s).curtain.state = .released :=
  changeCurtain_state _ _

theorem release_safely (cause : Option FaultCause) (s : State) :
    safeInAlarm (release cause s) ∧ safeInEvacuation (release cause s) := by
  have ended : Chain calm (enterReleased cause s) (release cause s) := by
    unfold release
    dsimp only
    split
    · exact (failDemo_chain _ _).trans (arrive_chain _)
    · exact failDemo_chain _ _
  exact safely_calm_still ended (by simp [enterReleased_state])

theorem releaseInAlarm_safely (cause : Option FaultCause) (s : State) :
    safeInAlarm (releaseInAlarm cause s) ∧ safeInEvacuation (releaseInAlarm cause s) := by
  have ended : Chain calm (enterReleased cause s) (releaseInAlarm cause s) := by
    unfold releaseInAlarm
    dsimp only
    split
    · exact (arrive_chain _).trans (judgeDescent_chain _)
    · exact .refl _
  exact safely_calm_still ended (by simp [enterReleased_state])

theorem moveCurtain_safely {next : Move} {after : State → State} (still : next.state ≠ .raising)
    (ends : ∀ t, Chain calm t (after t)) (s : State) :
    safeInAlarm (moveCurtain next after s) ∧ safeInEvacuation (moveCurtain next after s) :=
  safely_calm_still ((ends _).trans (alarmAtRest_chain _)) (by rw [changeCurtain_state]; exact still)

theorem faultCurtain_safely (cause : FaultCause) (s : State) :
    safeInAlarm (faultCurtain cause s) ∧ safeInEvacuation (faultCurtain cause s) := by
  unfold faultCurtain
  split
  · next stands =>
    have still : s.curtain.state ≠ .raising := by rcases stands with h | h <;> simp [h]
    exact ⟨safeInAlarm_still still, safeInEvacuation_still still⟩
  · split
    · exact release_safely _ s
    · exact moveCurtain_safely (by simp [Move.faulted]) (failDemo_chain _) s

theorem followMove_safely {next : Move} (still : next.state ≠ .raising) (s : State) :
    safeInAlarm (followMove next s) ∧ safeInEvacuation (followMove next s) := by
  unfold followMove
  split
  · exact faultCurtain_safely _ s
  · split
    · next same =>
      have rests : s.curtain.state ≠ .raising := same.1 ▸ still
      exact ⟨safeInAlarm_still rests, safeInEvacuation_still rests⟩
    · exact moveCurtain_safely still failMoved_chain s

theorem deriveState_safely (s : State) : safeInAlarm (deriveState s) ∧ safeInEvacuation (deriveState s) := by
  unfold deriveState
  split
  · next released => exact ⟨safeInAlarm_still (by simp [released]), safeInEvacuation_still (by simp [released])⟩
  · exact followMove_safely (derivedMove_legal s).2.1 s

theorem applyLocalCleared_safely (s : State) : safeInAlarm (applyLocalCleared s) ∧ safeInEvacuation (applyLocalCleared s) := by
  unfold applyLocalCleared
  dsimp only
  split
  · exact safely_routine (calm_routine (offerDrive_chain _ _)) (deriveState_safely s)
  · exact deriveState_safely s

/-! ## A POS (R129) -/

theorem takePosition_safely {position : Nat} {flags : DriveFlags}
    (h : s.curtain.flags.localControl = true → flags.localControl = true) (hs : safeInAlarm s ∧ safeInEvacuation s) :
    safeInAlarm (takePosition position flags s) ∧ safeInEvacuation (takePosition position flags s) := by
  have before (driven : raiseDriven (takePosition position flags s)) : raiseDriven s :=
    ⟨driven.1, Bool.eq_false_iff.2 fun byHand => Bool.eq_false_iff.1 driven.2 (h byHand)⟩
  exact ⟨fun driven => hs.1 (before driven), fun driven => hs.2 (before driven)⟩

theorem chain_flags (h : Chain kinds s t) (hk : .position ∉ kinds) : t.curtain.flags = s.curtain.flags :=
  h.keeps_field (field := fun s => s.curtain.flags) hk fun j s t other step => by
    cases step with
    | curtain h => exact h.flags
    | position => exact absurd rfl other
    | _ => rfl

/-- A report that ends local control derives the state, which is no raise; any other leaves the part's own raise as it was. -/
theorem takePos_safely (payload : List Byte) (hs : safeInAlarm s ∧ safeInEvacuation s) :
    safeInAlarm (takePos payload s) ∧ safeInEvacuation (takePos payload s) := by
  unfold takePos
  split
  · next hi lo flags _ =>
    have ends (t : State) : Chain calm t (applyEstimator (applyFloorCheck (applyDerivation t))) :=
      ((applyDerivation_chain t).trans (applyFloorCheck_chain _)).trans (applyEstimator_chain _)
    have taken := applyDriveFault_chain (takePosition (number2 hi lo) (DriveFlags.ofByte flags) s)
    refine safely_routine (calm_routine (ends _)) ?_
    by_cases cleared : s.curtain.flags.localControl = true ∧ ¬ (DriveFlags.ofByte flags).localControl = true
    · have now : ¬ (applyDriveFault (takePosition (number2 hi lo) (DriveFlags.ofByte flags) s)).curtain.flags.localControl = true := by
        rw [chain_flags taken (by decide)]
        exact cleared.2
      rw [applyLocalFlag, if_neg now, if_pos cleared.1]
      exact applyLocalCleared_safely _
    · have stays (byHand : s.curtain.flags.localControl = true) : (DriveFlags.ofByte flags).localControl = true := by
        by_contra now
        exact cleared ⟨byHand, now⟩
      exact safely_routine (calm_routine (taken.trans (applyLocalFlag_chain _ _))) (takePosition_safely stays hs)
  · exact hs

/-! ## The stage alarm (R144) -/

/-- The rise of the stage alarm ends every raise that the part drives. -/
theorem stageAlarmRow_safe (s : State) : safeInAlarm (stageAlarmRow s) := by
  by_cases raising : s.curtain.state = .raising
  · unfold stageAlarmRow
    rw [raising]
    simp only [if_true]
    split
    · exact (releaseInAlarm_safely none s).1
    · exact safeInAlarm_still (by rw [changeCurtain_state]; decide)
  · exact (safely_calm_still (stageAlarmRow_chain s) raising).1

theorem curtainToldStage_safe (stage : Bool) (hs : safeInAlarm s) : safeInAlarm (curtainToldStage stage s) := by
  unfold curtainToldStage
  split
  · exact hs
  split
  · exact stageAlarmRow_safe _
  · exact fun _ => rfl

theorem curtainToldAlarm_safe (before : AlarmRecord) (hs : safeInAlarm s) : safeInAlarm (curtainToldAlarm before s) := by
  unfold curtainToldAlarm
  dsimp only
  split
  · exact chain_safeInAlarm (recordDemo_chain rfl _) (by decide) (by decide) (curtainToldStage_safe _ hs)
  · exact curtainToldStage_safe _ hs

theorem toldAlarm_safe (before : AlarmRecord) (origin : Byte) (hs : safeInAlarm s) : safeInAlarm (toldAlarm before origin s) := by
  have opened : Chain calm s (setAttention .alarmChange (reportAlarm origin s)) :=
    (report_calm _ _ s).trans (setAttention_calm _ _)
  have told := curtainToldAlarm_safe before (chain_safeInAlarm opened (by decide) (by decide) hs)
  exact chain_safeInAlarm (callsToldAlarm_chain before _) (by decide) (by decide)
    (s := deriveK4 (curtainToldAlarm before (setAttention .alarmChange (reportAlarm origin s)))) told

theorem toldAlarm_chain (before : AlarmRecord) (origin : Byte) (s : State) : Chain alarmKinds s (toldAlarm before origin s) :=
  (((calm_alarm ((report_calm _ _ s).trans (setAttention_calm _ _))).trans (stage_alarm (curtainToldAlarm_chain before _))).trans
    (deriveK4_chain _)).trans (calm_alarm (callsToldAlarm_chain before _))

theorem stepRecord_chain {change : State → State} (changes : Chain zoneKinds s (change s)) :
    Chain (.alarm :: zoneKinds) s (stepRecord change s) :=
  ((changes.trans (alarmClosure_chain _)).mono (by simp)).trans (.one (.alarm _ _) (by decide))

theorem zoneStepWith_safeInAlarm {evacuation : State → State} (evac : ∀ t, safeInAlarm t → safeInAlarm (evacuation t))
    (origin : Byte) {change : State → State} (changes : Chain zoneKinds s (change s)) (hs : safeInAlarm s) :
    safeInAlarm (zoneStepWith evacuation origin change s) := by
  obtain ⟨_, h⟩ | h := zoneStepWith_cases evacuation origin change s
  · rw [h]
    exact chain_safeInAlarm (changes.trans (alarmClosure_chain _)) (by decide) (by decide) hs
  · rw [h]
    exact handOn_settles (toldAlarm_safe _ _ (chain_safeInAlarm (stepRecord_chain changes) (by decide) (by decide) hs)) evac
      fun _ _ calm => chain_safeInAlarm calm (by decide) (by decide)

theorem zoneStepWith_safeInEvacuation {evacuation : State → State}
    (evac : ∀ t, safeInEvacuation t → safeInEvacuation (evacuation t)) (origin : Byte) {change : State → State}
    (changes : Chain zoneKinds s (change s)) (hs : safeInEvacuation s) :
    safeInEvacuation (zoneStepWith evacuation origin change s) := by
  obtain ⟨_, h⟩ | h := zoneStepWith_cases evacuation origin change s
  · rw [h]
    exact chain_safeInEvacuation (changes.trans (alarmClosure_chain _)) (by decide) (by decide) hs
  · have told := ((stepRecord_chain changes).mono (by decide)).trans (toldAlarm_chain s.zones.alarm origin _)
    rw [h]
    exact handOn_settles (chain_safeInEvacuation told (by decide) (by decide) hs) evac
      fun _ _ calm => chain_safeInEvacuation calm (by decide) (by decide)

/-! ## A change of phase (R138) -/

/-- The telling of EVACUATING ends every raise that the part drives. -/
theorem curtainToldPhase_evacuating (s : State) : safeInEvacuation (curtainToldPhase .evacuating s) := by
  by_cases raising : s.curtain.state = .raising
  · have told : curtainToldPhase .evacuating s = moveCurtain (.plain .stopped) (failDemo .alarm) s := by
      simp [curtainToldPhase, raising]
    rw [told]
    exact (moveCurtain_safely (by simp [Move.plain]) (failDemo_chain _) s).2
  · exact (safely_calm_still (curtainToldPhase_chain .evacuating s) raising).2

section ChangePhase

variable {new : Phase} {cause : PhaseCause} {fields : PhaseUnit → PhaseUnit} {further : State → State}
  (adds : ∀ t, Chain routine t (further t))
include adds

theorem changePhase_safeInAlarm (hs : safeInAlarm s) : safeInAlarm (changePhase new cause fields further s) := by
  have opened : safeInAlarm (further (reportPhase new s.phase.phase cause
      (s.onPhase fun p => { fields p with phase := new }))) :=
    chain_safeInAlarm (changePhase_opening adds new cause _ _) (by decide) (by decide) hs
  have told (previous : Phase) {t : State} (ht : safeInAlarm t) :
      safeInAlarm (callsToldPhase new previous (curtainToldPhase new (deriveK4 t))) :=
    chain_safeInAlarm ((curtainToldPhase_chain _ _).trans (callsToldPhase_chain _ _ _)) (by decide) (by decide)
      (s := deriveK4 t) ht
  refine chain_safeInAlarm (notice_chain _ _) (by decide) (by decide) ?_
  unfold tellPhase
  dsimp only
  split
  · exact told _ (zoneStepWith_safeInAlarm (fun _ => id) _ (closeWindows_chain _ _ _) opened)
  · exact told _ opened

theorem changePhase_safeInEvacuation : safeInEvacuation (changePhase new cause fields further s) := by
  by_cases evacuating : new = .evacuating
  · subst evacuating
    exact chain_safeInEvacuation ((callsToldPhase_chain _ _ _).trans (notice_chain _ _)) (by decide) (by decide)
      (curtainToldPhase_evacuating _)
  · exact chain_safeInEvacuation (changePhase_after_chain adds s) (by decide) (by decide) fun _ => evacuating

end ChangePhase

theorem evacuate_safeInAlarm (hs : safeInAlarm s) : safeInAlarm (evacuate s) := by
  unfold evacuate
  split
  · exact hs
  · exact changePhase_safeInAlarm (fun t => .refl t) hs

theorem evacuate_safeInEvacuation (hs : safeInEvacuation s) : safeInEvacuation (evacuate s) := by
  unfold evacuate
  split
  · exact hs
  · exact changePhase_safeInEvacuation (fun t => .refl t)

/-! ## Every act -/

theorem fresh_safely (h : Fresh s t) (hs : safeInAlarm s ∧ safeInEvacuation s) : safeInAlarm t ∧ safeInEvacuation t := by
  cases h with
  | begun number h => exact hs
  | restarted => exact ⟨safeInAlarm_still nofun, safeInEvacuation_still nofun⟩
  | poweredOn straps => exact ⟨safeInAlarm_still nofun, safeInEvacuation_still nofun⟩
  | powerLost => exact ⟨safeInAlarm_still nofun, safeInEvacuation_still nofun⟩

theorem act_safely (h : Act e s t) (hs : safeInAlarm s ∧ safeInEvacuation s) : safeInAlarm t ∧ safeInEvacuation t := by
  cases h with
  | routine h => exact safely_routine h hs
  | apart h => exact ⟨chain_safeInAlarm h (by decide) (by decide) hs.1, chain_safeInEvacuation h (by decide) (by decide) hs.2⟩
  | position payload => exact takePos_safely payload hs
  | zone origin h =>
    exact ⟨zoneStepWith_safeInAlarm (fun _ => evacuate_safeInAlarm) origin h.chain hs.1,
      zoneStepWith_safeInEvacuation (fun _ => evacuate_safeInEvacuation) origin h.chain hs.2⟩
  | zonesCleared h => exact hs
  | entered cause place legal adds => exact ⟨changePhase_safeInAlarm adds hs.1, changePhase_safeInEvacuation adds⟩
  | ended h =>
    have adds (t : State) : Chain routine t (leaveHold s.phase.phase t) := calm_routine (leaveHold_chain _ _)
    exact ⟨changePhase_safeInAlarm adds (zoneStepWith_safeInAlarm (fun _ => id) _ (closeWindows_chain _ _ _) hs.1),
      changePhase_safeInEvacuation adds⟩
  | begun number h closed he => exact fresh_safely (.begun number h) hs
  | restarted h he => exact fresh_safely (.restarted s) hs
  | poweredOn straps _ he => exact fresh_safely (.poweredOn straps s) hs
  | powerLost _ he => exact fresh_safely (.powerLost s) hs

/-- Settles O57: a rule starts a raise only where R137 allows it, and the telling of the stage alarm and of EVACUATING ends one
that is driven. -/
theorem stepRaisesSafely : Obligations.StepRaisesSafely := fun _ _ hs h =>
  raisesSafely_iff.2 (step_keeps (P := fun s => safeInAlarm s ∧ safeInEvacuation s) (fun _ _ _ => act_safely) (fun _ _ => id)
    (raisesSafely_iff.1 hs) h)

end Sys2Proof.Machine
end

section
/-! SUPPORT. The performance record's place and counts, and a demonstration beside the confirmed set: what each change leaves of
them, and the obligation O58. -/

namespace Sys2Proof.Machine

variable {e : Bool} {s t u : State} {kinds : List Kind}

/-! ## The place and the counts -/

/-- The performance record without its report and its demonstration: the place, the counts and show stop. -/
def PhaseUnit.placed (p : PhaseUnit) : PhaseUnit := { p.record with demoStatus := .notDone, demoTime := 0 }

theorem chain_placed (h : Chain kinds s t) (place : .place ∉ kinds) (counts : .counts ∉ kinds) (emptied : .emptied ∉ kinds) :
    t.phase.placed = s.phase.placed :=
  h.keeps (P := fun u => u.phase.placed = s.phase.placed) (fun k hk u v step before => by
    cases step with
    | place => exact absurd hk place
    | counts => exact absurd hk counts
    | emptied => exact absurd hk emptied
    | report h =>
      have same := congrArg (fun r : PhaseUnit => { r with demoStatus := DemoStatus.notDone, demoTime := 0 }) h.record
      exact same.trans before
    | _ => exact before) rfl

theorem placeLegal_of_placed {p q : PhaseUnit} (h : q.placed = p.placed) (hp : placeLegal p) : placeLegal q := by
  have kept : phasesKept q.placed = phasesKept p.placed := by rw [h]
  have counts : countsInRange q.placed = countsInRange p.placed := by rw [h]
  exact ⟨kept.trans hp.1, counts.trans hp.2⟩

/-- A change of the countdowns keeps a legal record (R36, R54). -/
theorem placeLegal_counts {p q : PhaseUnit} (h : CountsStep p q) (hp : placeLegal p) : placeLegal q := by
  obtain ⟨kept, counts⟩ := hp
  obtain ⟨⟨act, up, left, prescaler⟩, closed⟩ := countsInRange_iff.1 counts
  obtain ⟨phase, held, saved, sameAct⟩ := h.place
  refine ⟨by simpa only [phasesKept, phase, held, saved] using kept, countsInRange_iff.2 ⟨⟨sameAct.trans_le act,
    h.curtainUp.trans (max_le le_rfl up), h.intervalLeft.trans (max_le le_rfl left),
    h.prescaler.trans (max_le le_rfl prescaler)⟩, fun now => ?_⟩⟩
  rw [phase] at now
  refine Bool.eq_false_iff.2 fun shown => ?_
  obtain before | outside := h.showStop shown
  · rw [closed now] at before
    exact Bool.false_ne_true before
  · exact outside now

theorem chain_placeLegal (h : Chain kinds s t) (place : .place ∉ kinds) (emptied : .emptied ∉ kinds)
    (hs : placeLegal s.phase) : placeLegal t.phase :=
  h.keeps (P := fun u => placeLegal u.phase) (fun k hk u v step hu => by
    by_cases counted : k = .counts
    · subst counted
      cases step with
      | counts h => exact placeLegal_counts h hu
    · have one : Chain [k] u v := .one step (List.mem_singleton_self k)
      refine placeLegal_of_placed (chain_placed one ?_ ?_ ?_) hu
      · exact fun mem => place (List.mem_singleton.1 mem ▸ hk)
      · exact fun mem => counted (List.mem_singleton.1 mem).symm
      · exact fun mem => emptied (List.mem_singleton.1 mem ▸ hk)) hs

theorem changePhase_placeLegal {new : Phase} {cause : PhaseCause} {fields : PhaseUnit → PhaseUnit} {further : State → State}
    (adds : ∀ t, Chain routine t (further t)) (h : placeLegal { fields s.phase with phase := new }) :
    placeLegal (changePhase new cause fields further s).phase :=
  chain_placeLegal (changePhase_after_chain adds s) (by decide) (by decide) h

theorem evacuate_placeLegal (hs : placeLegal s.phase) : placeLegal (evacuate s).phase := by
  unfold evacuate
  split
  · exact hs
  · next open_ =>
    rw [not_or] at open_
    obtain ⟨kept, counts⟩ := hs
    refine changePhase_placeLegal (fun t => .refl t) ⟨(phasesKept_evacuating rfl).2 ⟨s.phase.phase, rfl, open_.1, open_.2, ?_⟩,
      countsInRange_iff.2 ⟨(countsInRange_iff.1 counts).1, Phase.noConfusion⟩⟩
    by_cases held : s.phase.phase = .held
    · obtain ⟨_, y, hy, from_⟩ := (phasesKept_held held).1 kept
      exact .inr ⟨y, hy, from_, held⟩
    · exact .inl ⟨((phasesKept_plain held open_.2).1 kept).2, held⟩

theorem zoneStep_placeLegal (origin : Byte) {change : State → State} (changes : Chain zoneKinds s (change s))
    (hs : placeLegal s.phase) : placeLegal (zoneStep origin change s).phase := by
  unfold zoneStep
  obtain ⟨_, h⟩ | h := zoneStepWith_cases evacuate origin change s
  · rw [h]
    exact chain_placeLegal (changes.trans (alarmClosure_chain _)) (by decide) (by decide) hs
  · have told := ((stepRecord_chain changes).mono (by decide)).trans (toldAlarm_chain s.zones.alarm origin _)
    rw [h]
    exact handOn_settles (P := fun t => placeLegal t.phase) (chain_placeLegal told (by decide) (by decide) hs)
      (fun _ => evacuate_placeLegal) fun _ _ calm => chain_placeLegal calm (by decide) (by decide)

/-- ENPF leaves a legal record: nothing is held or saved, the countdowns are 0 and show stop is clear (R46). -/
theorem placeLegal_ended (hs : placeLegal s.phase) (h : u.phase.placed = (PhaseUnit.leaving s.phase).placed) :
    placeLegal { id u.phase with phase := .closed } := by
  obtain ⟨⟨act, _, _, prescaler⟩, _⟩ := countsInRange_iff.1 hs.2
  have legal : placeLegal { (PhaseUnit.leaving s.phase).placed with phase := .closed } := by
    refine ⟨(phasesKept_plain Phase.noConfusion Phase.noConfusion).2 ⟨rfl, rfl⟩, countsInRange_iff.2 ⟨?_, fun _ => rfl⟩⟩
    exact ⟨act, Nat.zero_le _, Nat.zero_le _, prescaler⟩
  rw [← h] at legal
  exact placeLegal_of_placed rfl legal

theorem act_placeLegal (h : Act e s t) (hs : placeLegal s.phase) : placeLegal t.phase := by
  cases h with
  | routine h => exact chain_placeLegal h (by decide) (by decide) hs
  | apart h => exact chain_placeLegal h (by decide) (by decide) hs
  | position payload => exact chain_placeLegal (takePos_chain payload s) (by decide) (by decide) hs
  | zone origin h => exact zoneStep_placeLegal origin h.chain hs
  | zonesCleared h => exact hs
  | entered cause place legal adds => exact changePhase_placeLegal adds (legal hs)
  | ended h =>
    exact changePhase_placeLegal (fun _ => calm_routine (leaveHold_chain _ _))
      (placeLegal_ended hs (chain_placed (closeAllWindows_chain .ended _) (by decide) (by decide) (by decide)))
  | begun number range closed he =>
    obtain ⟨kept, counts⟩ := hs
    obtain ⟨⟨_, _, _, prescaler⟩, shown⟩ := countsInRange_iff.1 counts
    exact ⟨kept, countsInRange_iff.2 ⟨⟨Nat.zero_le _, range, Nat.zero_le _, prescaler⟩, shown⟩⟩
  | restarted h he =>
    obtain ⟨⟨_, _, _, prescaler⟩, _⟩ := countsInRange_iff.1 hs.2
    exact ⟨rfl, countsInRange_iff.2 ⟨⟨Nat.zero_le _, Nat.zero_le _, Nat.zero_le _, prescaler⟩, fun _ => rfl⟩⟩
  | poweredOn straps _ he => exact ⟨rfl, rfl⟩
  | powerLost _ he => exact ⟨rfl, rfl⟩

/-! ## A demonstration beside the confirmed set (R164) -/

/-- A demonstration in progress stands beside an empty confirmed set alone. -/
def demoApart (s : State) : Prop := s.phase.demoStatus.inProgress = true → s.zones.alarm.confirmed = []

theorem demoOutsideAlarm_iff : demoOutsideAlarm s = true ↔ demoApart s := by
  simp only [demoOutsideAlarm, demoApart, Bool.or_eq_true, Bool.not_eq_true', List.isEmpty_iff]
  cases s.phase.demoStatus.inProgress <;> simp

theorem demoStatus_of_record {p q : PhaseUnit} (h : p.record = q.record) : p.demoStatus = q.demoStatus :=
  (congrArg PhaseUnit.demoStatus h :)

theorem chain_demoApart (h : Chain kinds s t) (alarm : .alarm ∉ kinds) (hs : demoApart s) : demoApart t :=
  h.keeps (fun k hk u v step hu => by
    cases step with
    | place h => exact fun going => hu (h.demo.1 ▸ going)
    | counts h => exact fun going => hu (h.demo.1 ▸ going)
    | report h => exact fun going => hu (demoStatus_of_record h.record ▸ going)
    | demoStatus h => exact fun going => (h going).elim hu id
    | emptied => exact nofun
    | zones same => exact fun going => same.symm ▸ hu going
    | alarm => exact absurd hk alarm
    | _ => exact hu) hs

theorem chain_demoStatus (h : Chain kinds s t) (demo : .demo ∉ kinds) (emptied : .emptied ∉ kinds) :
    t.phase.demoStatus = s.phase.demoStatus :=
  h.keeps (P := fun u => u.phase.demoStatus = s.phase.demoStatus) (fun k hk u v step before => by
    cases step with
    | place h => exact h.demo.1.trans before
    | counts h => exact h.demo.1.trans before
    | report h => exact (demoStatus_of_record h.record).trans before
    | demoStatus => exact absurd hk demo
    | demoTime => exact absurd hk demo
    | emptied => exact absurd hk emptied
    | _ => exact before) rfl

theorem recordDemo_demoStatus (status : DemoStatus) (s : State) : (recordDemo status s).phase.demoStatus = status := by
  have noted : Chain zoneKinds (setDemoStatus status (stopDwell s)) (recordDemo status s) :=
    (report_chain (by decide) (by decide) _ _ _).trans (setAttention_zone _ _)
  exact chain_demoStatus noted (by decide) (by decide)

/-- The telling of a confirmed set that has filled fails a demonstration in progress. -/
theorem curtainToldAlarm_demoApart {before : AlarmRecord}
    (h : before.confirmed ≠ [] → s.phase.demoStatus.inProgress = false) : demoApart (curtainToldAlarm before s) := by
  unfold curtainToldAlarm
  dsimp only
  split
  · intro going
    rw [recordDemo_demoStatus] at going
    nomatch going
  · next stays =>
    refine chain_demoApart (curtainToldStage_chain _ s) (by decide) fun going => ?_
    by_contra filled
    have empty : before.confirmed = [] := by
      by_contra standing
      rw [h standing] at going
      exact Bool.false_ne_true going
    exact stays (by simp [empty, filled, going])

theorem toldAlarm_demoApart {before : AlarmRecord} (origin : Byte)
    (h : before.confirmed ≠ [] → s.phase.demoStatus.inProgress = false) : demoApart (toldAlarm before origin s) := by
  have opened : Chain zoneKinds s (setAttention .alarmChange (reportAlarm origin s)) :=
    (report_chain (by decide) (by decide) _ _ _).trans (setAttention_zone _ _)
  have told : demoApart (curtainToldAlarm before (setAttention .alarmChange (reportAlarm origin s))) :=
    curtainToldAlarm_demoApart fun standing => by
      rw [chain_demoStatus opened (by decide) (by decide)]
      exact h standing
  exact chain_demoApart (s := deriveK4 (curtainToldAlarm before (setAttention .alarmChange (reportAlarm origin s))))
    (callsToldAlarm_chain before _) (by decide) told

theorem zoneStepWith_demoApart {evacuation : State → State} (evac : ∀ t, demoApart t → demoApart (evacuation t))
    (origin : Byte) {change : State → State} (changes : Chain zoneKinds s (change s)) (hs : demoApart s) :
    demoApart (zoneStepWith evacuation origin change s) := by
  obtain ⟨_, h⟩ | h := zoneStepWith_cases evacuation origin change s
  · rw [h]
    exact chain_demoApart (changes.trans (alarmClosure_chain _)) (by decide) hs
  · rw [h]
    refine handOn_settles (toldAlarm_demoApart origin fun standing => ?_) evac fun _ _ calm =>
      chain_demoApart calm (by decide)
    rw [chain_demoStatus (stepRecord_chain changes) (by decide) (by decide)]
    exact Bool.eq_false_iff.2 fun going => standing (hs going)

theorem changePhase_demoApart {new : Phase} {cause : PhaseCause} {fields : PhaseUnit → PhaseUnit} {further : State → State}
    (adds : ∀ t, Chain routine t (further t)) (place : PlaceStep s.phase { fields s.phase with phase := new })
    (hs : demoApart s) : demoApart (changePhase new cause fields further s) := by
  have entered : Chain [.place] s (s.onPhase fun p => { fields p with phase := new }) := .one (.place place) (by decide)
  have opened : demoApart (further (reportPhase new s.phase.phase cause
      (s.onPhase fun p => { fields p with phase := new }))) :=
    chain_demoApart (changePhase_opening adds new cause _ _) (by decide) (chain_demoApart entered (by decide) hs)
  have told (previous : Phase) {t : State} (ht : demoApart t) :
      demoApart (callsToldPhase new previous (curtainToldPhase new (deriveK4 t))) :=
    chain_demoApart (s := deriveK4 t) ((curtainToldPhase_chain _ _).trans (callsToldPhase_chain _ _ _)) (by decide) ht
  refine chain_demoApart (notice_chain _ _) (by decide) ?_
  unfold tellPhase
  dsimp only
  split
  · exact told _ (zoneStepWith_demoApart (fun _ => id) _ (closeWindows_chain _ _ _) opened)
  · exact told _ opened

theorem evacuate_demoApart (hs : demoApart s) : demoApart (evacuate s) := by
  unfold evacuate
  split
  · exact hs
  · exact changePhase_demoApart (fun t => .refl t) ⟨⟨rfl, rfl⟩, ⟨rfl, rfl⟩, rfl⟩ hs

theorem act_demoApart (h : Act e s t) (hs : demoApart s) : demoApart t := by
  cases h with
  | routine h => exact chain_demoApart h (by decide) hs
  | apart h => exact chain_demoApart h (by decide) hs
  | position payload => exact chain_demoApart (takePos_chain payload s) (by decide) hs
  | zone origin h => exact zoneStepWith_demoApart (fun _ => evacuate_demoApart) origin h.chain hs
  | zonesCleared h => exact hs
  | entered cause place legal adds => exact changePhase_demoApart adds place hs
  | ended h =>
    have left : demoApart (s.onPhase PhaseUnit.leaving) := hs
    exact changePhase_demoApart (fun _ => calm_routine (leaveHold_chain _ _)) (placeStep_phase .closed _)
      (zoneStepWith_demoApart (fun _ => id) _ (closeWindows_chain _ _ _) left)
  | begun number range closed he => exact nofun
  | restarted h he => exact nofun
  | poweredOn straps _ he => exact nofun
  | powerLost _ he => exact nofun

/-- Settles O58: each transition sets what its phase asks for, the countdowns keep their ranges, and the telling of an alarm that
fills the confirmed set fails a demonstration. -/
theorem stepKeepsPerformanceRecord : Obligations.StepKeepsPerformanceRecord :=
  ⟨fun _ _ kept counts h => step_keeps (P := fun s => placeLegal s.phase) (fun _ _ _ => act_placeLegal) (fun _ _ => id)
    ⟨kept, counts⟩ h,
   fun _ _ hs h => demoOutsideAlarm_iff.2 (step_keeps (P := demoApart) (fun _ _ _ => act_demoApart) (fun _ _ => id)
    (demoOutsideAlarm_iff.1 hs) h)⟩

end Sys2Proof.Machine
end

section
/-! SUPPORT. A row of the command table as its rule's answer, the power-on values over the loaded image, and the obligations
O4, O5 and O6. -/

namespace Sys2Proof.Machine

variable {s t : State}

/-! ## Rows -/

/-- An event of the part does what its meaning does, while the part has power. -/
theorem answers_event {c : Instr} {f : State → State} {holds : State → Prop} (row : exec c s = whilePowered s f)
    (powered : s.powered = true) (h : holds (f s)) : answers c s holds :=
  ⟨f s, by rw [row, whilePowered_of_powered powered], h⟩

/-- An accepted command answers with the response of its rule. -/
theorem replies_simple {c : Instr} {h : CommandHeader} {code : Byte} {body : State → Response} {r : Result} {u : State}
    {holds : State → Prop} (row : exec c s = whilePowered s (simple code h body)) (a : accepted h s = true)
    (response : body (begin code h s) = (r, u)) (hu : holds u) : replies c h code (.plain r) s holds := by
  refine ⟨u, ?_, hu⟩
  rw [row, whilePowered_of_powered (powered_of_accepted a), simple_accepted a, response]

/-- An accepted command whose rule changes nothing answers, and changes nothing else. -/
theorem onlyReplies_simple {c : Instr} {h : CommandHeader} {code : Byte} {body : State → Response} {r : Result}
    (row : exec c s = whilePowered s (simple code h body)) (a : accepted h s = true)
    (response : body (begin code h s) = (r, begin code h s)) : onlyReplies c h code r s := by
  unfold onlyReplies
  rw [row, whilePowered_of_powered (powered_of_accepted a), simple_accepted a, response]

/-- An accepted command under checks that it passes answers with what its rule makes. -/
theorem replies_execute {c : Instr} {h : CommandHeader} {code : Byte} {checks : Checks} {body : State → Executed} {x : Executed}
    {holds : State → Prop} (row : exec c s = whilePowered s (execute code h checks body)) (a : accepted h s = true)
    (fits : checks.fits = true) (store : checks.needsStore = true → s.command.store = none)
    (lock : checks.lockable = true → s.phase.phase.locked = false) (made : body (begin code h s) = x) (hu : holds x.state) :
    replies c h code x.answer s holds := by
  refine ⟨x.state, ?_, hu⟩
  rw [row, whilePowered_of_powered (powered_of_accepted a), execute_accepted a fits store lock, made]

/-! ## Power-on (R219) -/

section PowerOn

variable (straps : BitVec 7) (stored : Option StoredImage) (pending : List Instr)

theorem vector_ext {α : Type} {n : Nat} {a b : Vector α n} (h : ∀ i : Nat, a[i]? = b[i]?) : a = b :=
  Vector.ext fun i hi => by simpa [hi] using h i

theorem mapTable_comp {α β γ : Type} {n : Nat} {f : α → β} {g : β → γ} {k : α → γ} (h : ∀ a, g (f a) = k a)
    {table : Vector α n} : mapTable g (mapTable f table) = mapTable k table := by
  refine vector_ext fun i => ?_
  rw [mapTable_getElem?, mapTable_getElem?, mapTable_getElem?, Option.map_map]
  cases table[i]? with
  | none => rfl
  | some a => exact congrArg some (h a)

/-- A table whose elements are mapped there and back is the table. -/
theorem mapTable_mapTable {α β : Type} {n : Nat} {f : α → β} {g : β → α} (h : ∀ a, g (f a) = a) (table : Vector α n) :
    mapTable g (mapTable f table) = table := by
  refine (mapTable_comp (k := id) h).trans (vector_ext fun i => ?_)
  rw [mapTable_getElem?, Option.map_id, id]

theorem mapTable_option {α β : Type} {n : Nat} {f : α → β} {g : β → α} (h : ∀ a, g (f a) = a) (table : Vector (Option α) n) :
    mapTable (Option.map g) (mapTable (Option.map f) table) = table :=
  mapTable_mapTable (fun a => by cases a <;> simp [h]) table

/-- The working tables after power-on are those of the loaded image. -/
theorem imageOf_poweredOn : imageOf (poweredOn straps stored pending) = loadedImage stored := by
  have policy : ((loadedImage stored).policy.map PolicyEntry.initial).map PolicyEntry.defn = (loadedImage stored).policy := by
    rw [List.map_map]
    exact List.map_id _
  unfold imageOf poweredOn zoneDefs windowDefs callDefs
  dsimp only
  rw [policy, mapTable_option (g := Zone.defn) fun _ => rfl, mapTable_mapTable (g := Window.defn) fun _ => rfl,
    mapTable_option (g := CallEntry.defn) fun _ => rfl]

theorem windows_poweredOn {w : Nat} (h : w < 16) :
    ∃ d, (poweredOn straps stored pending).zones.windows[w]? = some { defn := d, isOpen := false, timer := none } :=
  ⟨(loadedImage stored).windows[w], by
    have at_ : (loadedImage stored).windows[w]? = some (loadedImage stored).windows[w] := by simp [h]
    simp only [poweredOn, mapTable_getElem?, at_, Option.map_some, Window.closed]⟩

theorem zoneAt_poweredOn {z : Nat} {zone : Zone} (h : zoneAt (poweredOn straps stored pending) z = some zone) :
    zone = Zone.poweredOn (loadedImage stored).profile zone.defn := by
  obtain ⟨_, _, rfl⟩ : ∃ d, (loadedImage stored).zones[z]? = some (some d) ∧
      Zone.poweredOn (loadedImage stored).profile d = zone := by
    simpa [poweredOn, zoneAt, mapTable_getElem?, Option.join_eq_some_iff] using h
  rfl

theorem callEntry_poweredOn {id : Nat} {entry : CallEntry} (h : callEntry (poweredOn straps stored pending) id = some entry) :
    entry.fired = false := by
  obtain ⟨_, _, rfl⟩ : ∃ d, (loadedImage stored).calls[id]? = some (some d) ∧ CallEntry.unfired d = entry := by
    simpa [poweredOn, callEntry, mapTable_getElem?, Option.join_eq_some_iff] using h
  rfl

end PowerOn

/-- Settles O4: the power-on values are fields of one state, but for the tables, which are the loaded image's. -/
theorem powerCycleKeepsOnlyTheStore : Obligations.PowerCycleKeepsOnlyTheStore := by
  unfold Obligations.PowerCycleKeepsOnlyTheStore
  intro fresh
  have started (straps : BitVec 7) (stored : Option StoredImage) (pending : List Instr) :
      fresh (poweredOn straps stored pending) :=
    ⟨rfl, imageOf_poweredOn straps stored pending, rfl, rfl, rfl, rfl, rfl, rfl, rfl, rfl, rfl,
      fun _ => windows_poweredOn straps stored pending, fun _ _ => zoneAt_poweredOn straps stored pending, rfl, rfl, rfl,
      fun _ _ => callEntry_poweredOn straps stored pending, rfl, rfl, rfl, rfl, rfl, rfl, rfl⟩
  refine ⟨fun straps s => ⟨_, rfl, rfl, rfl, rfl, started straps s.stored s.pending, rfl⟩, fun s powered => ?_⟩
  exact answers_event (f := powerLost) rfl powered ⟨rfl, rfl, rfl, started s.loop.node s.stored s.pending, rfl, rfl⟩

/-! ## The store (R218) -/

theorem exec_sttb {h : CommandHeader} (a : accepted h s = true) (idle : s.command.store = none) :
    exec (.sttb h) s = .next (startStore h (begin 0x18 h s)) := by
  have reached : reachesUnit h.source s = true := by
    simp only [accepted, Bool.and_eq_true] at a
    exact a.1.2
  have controller : fromController h.source s = true := by
    simp only [accepted, Bool.and_eq_true] at a
    exact a.2
  have passes : failedCheck h.source { fits := true, needsStore := true, lockable := false } (begin 0x18 h s) = none := by
    change failedCheck h.source { fits := true, needsStore := true, lockable := false } s = none
    simp [failedCheck, controller, idle]
  have arm : exec (.sttb h) s = whilePowered s (runSttb h) := rfl
  rw [arm, whilePowered_of_powered (powered_of_accepted a), runSttb, if_neg (not_not.2 reached)]
  simp only [passes]

/-- The state of a store at its completion, before its entry and its REPLY. -/
def storeDone (w : Storing) (s : State) : State :=
  { s.onCommand fun c => { c with store := none } with stored := some { image := w.copy, checksum := w.copy.checksum } }

theorem storeCompletes_storing {w : Storing} (h : s.command.store = some w) :
    storeCompletes s = offerReply w.source 0x18 w.sequence (.plain .done) (reportTable 0xFF .store .done 0 (storeDone w s)) := by
  simp only [storeCompletes, h]
  rfl

/-- The entry and the REPLY of a completed store leave everything but the report, the queues and the attention set. -/
theorem storeCompletes_after {w : Storing} (h : s.command.store = some w) :
    sameBut noticeParts (storeDone w s) (storeCompletes s) = true := by
  rw [storeCompletes_storing h]
  exact sameBut_trans (sameBut_mono (report_frame _ _ _) (by decide)) (sameBut_mono (offerReply_frame _ _ _ _ _) (by decide))

/-- A power cycle loads what the store holds. -/
theorem power_cycle (straps : BitVec 7) (powered : s.powered = true) :
    ∃ c d, exec .powerLoss s = .next c ∧ exec (.powerOn straps) c = .next d ∧ imageOf d = loadedImage s.stored ∧
      d.command.attention = startAttention (storeValid s.stored) :=
  ⟨powerLost s, poweredOn straps s.stored s.pending, whilePowered_of_powered powered powerLost, rfl,
    imageOf_poweredOn straps s.stored s.pending, rfl⟩

theorem storeDone_frame (w : Storing) (s : State) : sameBut [.command, .stored] s (storeDone w s) = true := by
  simp [sameBut, allParts, samePart, storeDone]

theorem startStore_frame (h : CommandHeader) (s : State) : sameBut [.command, .stored] s (startStore h s) = true := by
  simp [sameBut, allParts, samePart, startStore]

/-- Settles O5: the completion writes the copy that STTB took, with its checksum. -/
theorem storeSurvivesPowerLoss : Obligations.StoreSurvivesPowerLoss := by
  intro h s straps a idle
  have powered := powered_of_accepted a
  refine ⟨_, exec_sttb a idle, rfl, rfl, sameBut_trans (sameBut_mono (begin_frame 0x18 h s) (by decide)) (startStore_frame h _),
    rfl, ?_, power_cycle straps powered⟩
  have after := storeCompletes_after (s := startStore h (begin 0x18 h s)) rfl
  have stored := sameBut_stored after (by decide)
  refine ⟨_, whilePowered_of_powered (s := startStore h (begin 0x18 h s)) powered storeCompletes, ?_, stored, ?_, ?_, ?_⟩
  · have store := congrArg CommandUnit.store (sameBut_command after (by decide))
    exact store
  · exact sameBut_trans (sameBut_mono (storeDone_frame _ _) (by decide)) (sameBut_mono after (by decide))
  · intro room
    have room' : roomFor 1 (storeDone { source := h.source, sequence := h.sequence, start := s.clock, copy := imageOf s }
        (startStore h (begin 0x18 h s))) = true := room
    rw [storeCompletes_storing (s := startStore h (begin 0x18 h s)) rfl, offerReply,
      sameBut_report (offer_frame _ _ _ _ _) (by decide)]
    exact congrArg (fun t : State => t.phase.report) (report_room (n := 0) room')
  · intro inRange
    have valid : storeValid (some { image := imageOf s, checksum := (imageOf s).checksum }) = true := by
      simp [storeValid, StoredImage.valid, inRange]
    have loaded : loadedImage (some { image := imageOf s, checksum := (imageOf s).checksum }) = imageOf s := by
      simp [loadedImage, StoredImage.valid, inRange]
    obtain ⟨c, d, off, on, image, attention⟩ := power_cycle straps (s := storeCompletes (startStore h (begin 0x18 h s)))
      ((sameBut_powered after (by decide)).trans powered)
    refine ⟨c, d, off, on, ?_, ?_⟩
    · rw [image, stored]
      exact loaded
    · rw [attention, stored]
      exact congrArg startAttention valid

/-! ## RSTR (R220) -/

theorem imageOf_restart (s : State) : imageOf (restart s) = imageOf s := by
  have policy : (s.lights.policy.map fun e => PolicyEntry.initial e.defn).map PolicyEntry.defn =
      s.lights.policy.map PolicyEntry.defn := by
    rw [List.map_map]
    rfl
  have zones : zoneDefs (restart s) = zoneDefs s := mapTable_comp fun zone => by cases zone <;> rfl
  have windows : windowDefs (restart s) = windowDefs s := mapTable_comp fun _ => rfl
  have calls : callDefs (restart s) = callDefs s := mapTable_comp fun entry => by cases entry <;> rfl
  unfold imageOf
  rw [zones, windows, calls]
  simp only [restart, HouseLights.restarted, policy]
  rfl

theorem zoneAt_restart (z : Nat) (s : State) : zoneAt (restart s) z = (zoneAt s z).map fun zone => Zone.initial s zone.defn := by
  simp only [zoneAt, restart, restartedZones, mapTable_getElem?]
  cases s.zones.zones[z]? with
  | none => rfl
  | some zone => cases zone <;> rfl

theorem callEntry_restart (id : Nat) (s : State) : callEntry (restart s) id = (callEntry s id).map fun e => { e with fired := false } := by
  simp only [callEntry, restart, CallUnit.restarted, mapTable_getElem?]
  cases s.calls.defs[id]? with
  | none => rfl
  | some entry => cases entry <;> rfl

/-- Settles O6: RSTR is `restart` where its conditions hold. -/
theorem restartKeepsTables : Obligations.RestartKeepsTables := by
  intro h s a idle closed lowering raising released clear
  have may : restartable (begin 0x19 h s) = true := by
    simp only [restartable, decide_eq_true_eq]
    exact ⟨closed, lowering, raising, released, clear⟩
  have made : (if restartable (begin 0x19 h s) then { answer := .plain .done, state := restart (begin 0x19 h s) }
      else { answer := .plain .refusedState, state := begin 0x19 h s } : Executed) =
      { answer := .plain .done, state := restart (begin 0x19 h s) } := if_pos may
  have powered := powered_of_accepted a
  refine replies_execute (checks := { fits := true, needsStore := true, lockable := false }) (x := { answer := .plain .done, state := restart (begin 0x19 h s) }) rfl a rfl (fun _ => idle) (by simp) made
    ⟨(imageOf_restart _).trans rfl, rfl, rfl, powered, rfl, rfl, rfl, rfl, rfl, rfl, rfl, rfl, fun z zone hz => ?_, fun z hz => ?_,
      fun w window hw => ?_, rfl, rfl, rfl, fun id e he => ?_, rfl, rfl, rfl, rfl, rfl⟩
  · rw [zoneAt_restart, show zoneAt (begin 0x19 h s) z = some zone from hz]
    rfl
  · rw [zoneAt_restart, show zoneAt (begin 0x19 h s) z = none from hz]
    rfl
  · have windows : (begin 0x19 h s).zones.windows[w]? = some window := hw
    simp only [restart, restartedZones, mapTable_getElem?, windows]
    rfl
  · rw [callEntry_restart, show callEntry (begin 0x19 h s) id = some e from he]
    rfl

end Sys2Proof.Machine
end

section
/-! SUPPORT. The assembler character by character (R6 to R9), and the obligations O7, O8 and O12. -/

namespace Sys2Proof.Machine

variable {s t : State}

/-! ## Bytes -/

theorem byte_toNat {n : Nat} (h : n < 256) : (byte n).toNat = n := by
  simp [byte, Nat.mod_eq_of_lt h]

theorem byte_of_toNat (b : Byte) : byte b.toNat = b := by
  simp [byte]

theorem byte_toNat_mod (n : Nat) : (byte n).toNat = n % 256 := by
  simp [byte]

/-- A number of 16 bits is read back from its two bytes (R221). -/
theorem number2_bytes {n : Nat} (h : n < 65536) : number2 (byte (n / 256)) (byte n) = n := by
  rw [number2, byte_toNat_mod, byte_toNat_mod]
  omega

/-! ## Runs -/

theorem run_append (a b : List Instr) (s : State) : run (a ++ b) s = (run a s).bind (run b) := by
  induction a generalizing s with
  | nil => rfl
  | cons c rest ih =>
    simp only [List.cons_append, run]
    cases exec c s with
    | next t => exact ih t
    | fault f => rfl
    | refused r => rfl

theorem run_one {c : Instr} (h : exec c s = .next t) (rest : List Instr) : run (c :: rest) s = run rest t := by
  simp only [run, h]

/-! ## The characters of a frame (R1, R6, R8) -/

/-- The bytes of a frame and of its CRC, in the order sent (R1, R5). -/
def Frame.sent (f : Frame) : List Byte := f.bytes ++ bytes2 (crc16 f.bytes).toNat

/-- A character after the first. -/
def later (b : Byte) : Character := { data := b, mark := false, stopBit := true }

/-- The assembler's state after `k` characters of a frame of this payload length. -/
def stateAfter (length k : Nat) : AssemblerState :=
  if k < 4 then .header else if k < length + 4 then .payload else .check

theorem stateAfter_header {length k : Nat} (h : k < 4) : stateAfter length k = .header := if_pos h

theorem stateAfter_payload {length k : Nat} (h : 4 ≤ k) (more : k < length + 4) : stateAfter length k = .payload := by
  rw [stateAfter, if_neg (by omega), if_pos more]

theorem stateAfter_check {length k : Nat} (h : length + 4 ≤ k) : stateAfter length k = .check := by
  rw [stateAfter, if_neg (by omega), if_neg (by omega)]

/-- The first `k` characters of a frame are in assembly. -/
def assembling (f : Frame) (k : Nat) (s : State) : State :=
  assemble (stateAfter f.payload.length k) (f.sent.take k) s

section Frames

variable {f : Frame} {k : Nat}

theorem length_bytes (f : Frame) : f.bytes.length = f.payload.length + 4 := rfl

theorem length_sent (f : Frame) : f.sent.length = f.payload.length + 6 := by
  simp [Frame.sent, length_bytes, bytes2]

/-- The fourth byte in assembly is the payload's length (R1). -/
theorem assemblyLength_sent (short : f.payload.length ≤ 240) (h : 4 ≤ k) : assemblyLength (f.sent.take k) = f.payload.length := by
  obtain ⟨k, rfl⟩ := Nat.exists_eq_add_of_le' h
  have fourth : ((f.sent.take (k + 4)).drop 3).headD 0 = byte f.payload.length := rfl
  rw [assemblyLength, fourth, byte_toNat (by omega)]

theorem take_sent_succ (h : k < f.payload.length + 6) : f.sent.take k ++ [f.sent[k]'(by rw [length_sent]; exact h)] = f.sent.take (k + 1) :=
  List.take_concat_get' _ _ _

theorem assemble_assemble (a b : AssemblerState) (x y : List Byte) (s : State) :
    assemble b y (assemble a x s) = assemble b y s := rfl

/-- One more character of a frame goes into assembly. -/
theorem receive_later (short : f.payload.length ≤ 240) (first : 1 ≤ k) (h : k < f.payload.length + 5) :
    receiveCharacter (later (f.sent[k]'(by rw [length_sent]; omega))) (assembling f k s) = assembling f (k + 1) s := by
  have taken := take_sent_succ (f := f) (k := k) (by omega)
  have length : (f.sent.take (k + 1)).length = k + 1 := by rw [List.length_take, length_sent]; omega
  have received (data : Byte) : receiveCharacter (later data) (assembling f k s) = nextCharacter data (assembling f k s) := rfl
  have assembly : (assembling f k s).loop.assembly = f.sent.take k := rfl
  have state : (assembling f k s).loop.assembler = stateAfter f.payload.length k := rfl
  rw [received, nextCharacter, assembly, taken, state]
  by_cases header : k < 4
  · rw [stateAfter_header header]
    dsimp only
    by_cases third : k = 3
    · subst third
      have data : f.sent[3]'(by rw [length_sent]; omega) = byte f.payload.length := rfl
      have small : ¬ Config.payloadMax < (byte f.payload.length).toNat := by
        rw [byte_toNat (by omega)]
        exact Nat.not_lt.2 short
      rw [length, if_neg (by decide), data, if_neg small]
      by_cases empty : f.payload.length = 0
      · rw [if_pos (by rw [empty]; rfl), assembling, assembling, assemble_assemble, stateAfter_check (k := 3 + 1) (by omega)]
      · have data0 : byte f.payload.length ≠ 0 := fun zero => by
          have value := congrArg BitVec.toNat zero
          rw [byte_toNat (by omega)] at value
          exact empty value
        rw [if_neg data0, assembling, assembling, assemble_assemble, stateAfter_payload (k := 3 + 1) (by omega) (by omega)]
    · rw [length, if_pos (by omega), assembling, assembling, assemble_assemble, stateAfter_header (k := k + 1) (by omega)]
  · have read := assemblyLength_sent (f := f) (k := k + 1) short (by omega)
    by_cases inPayload : k < f.payload.length + 4
    · rw [stateAfter_payload (by omega) inPayload]
      dsimp only
      rw [length, read]
      by_cases more : k + 1 < f.payload.length + 4
      · rw [if_pos more, assembling, assembling, assemble_assemble, stateAfter_payload (k := k + 1) (by omega) more]
      · rw [if_neg more, assembling, assembling, assemble_assemble, stateAfter_check (k := k + 1) (by omega)]
    · rw [stateAfter_check (k := k) (by omega)]
      dsimp only
      rw [length, read, if_pos (by omega), assembling, assembling, assemble_assemble, stateAfter_check (k := k + 1) (by omega)]

/-- The characters after the first go into assembly one by one. -/
theorem run_later (powered : s.powered = true) (short : f.payload.length ≤ 240) (h : k ≤ f.payload.length + 4) :
    run ((((f.sent.drop 1).take k).map later).map Instr.characterReceipt) (assembling f 1 s) = some (assembling f (k + 1) s) := by
  induction k with
  | zero => rfl
  | succ k ih =>
    have place : k < (f.sent.drop 1).length := by rw [List.length_drop, length_sent]; omega
    have last : (f.sent.drop 1)[k] = f.sent[k + 1]'(by rw [length_sent]; omega) := by
      simp only [List.getElem_drop, Nat.add_comm 1 k]
    have received : exec (.characterReceipt (later (f.sent[k + 1]'(by rw [length_sent]; omega)))) (assembling f (k + 1) s) =
        .next (assembling f (k + 2) s) := by
      have arm (c : Character) (u : State) : exec (.characterReceipt c) u = whilePowered u (receiveCharacter c) := rfl
      rw [arm, whilePowered_of_powered (s := assembling f (k + 1) s) powered, receive_later short (by omega) (by omega)]
    rw [← List.take_concat_get' _ _ place, last, List.map_append, List.map_append, run_append, ih (by omega), Option.bind_some]
    exact run_one received []

end Frames

/-- The last character of a good frame hands it to its disposal (R8, R9). -/
theorem completeFrame_good {f : Frame} (short : f.payload.length ≤ 240) (s : State) :
    completeFrame f.sent s = dispose f (huntWith 0 s) := by
  have read : assemblyLength f.sent = f.payload.length := by
    have all := assemblyLength_sent (f := f) (k := f.sent.length) short (by rw [length_sent]; omega)
    rwa [List.take_length] at all
  have payload : ((f.sent.drop 4).take f.payload.length) = f.payload := by
    change (f.payload ++ bytes2 (crc16 f.bytes).toNat).take f.payload.length = f.payload
    exact List.take_left' rfl
  have body : f.sent.take (f.payload.length + 4) = f.bytes := List.take_left' (length_bytes f)
  have crc : assembledCrc f.sent = (crc16 f.bytes).toNat := by
    have tail : f.sent.drop (f.payload.length + 4) = bytes2 (crc16 f.bytes).toNat := List.drop_left' (length_bytes f)
    rw [assembledCrc, read, tail]
    have value := number2_bytes (crc16 f.bytes).isLt
    simpa [numberOf, bytes2, number2] using value
  have frame : assembledFrame f.sent = f := by
    rw [assembledFrame, read, payload]
    rfl
  rw [completeFrame, crc, read, body, if_pos rfl, frame]
  rfl

/-- Settles O7: character by character the frame goes into assembly, and the last one completes it. -/
theorem charactersDeliverFrame : Obligations.CharactersDeliverFrame := by
  intro f s powered hunting short
  have size : f.sent.length = f.payload.length + 6 := length_sent f
  have characters : f.characters = { data := f.dest, mark := true, stopBit := true } :: (f.sent.drop 1).map later := rfl
  have first : f.characters.dropLast =
      { data := f.dest, mark := true, stopBit := true } :: ((f.sent.drop 1).take (f.payload.length + 4)).map later := by
    rw [characters, List.dropLast_eq_take, List.length_cons, List.length_map, List.length_drop, size, Nat.add_sub_cancel,
      show f.payload.length + 6 - 1 = (f.payload.length + 4) + 1 by omega, List.take_succ_cons, List.map_take]
  have place : f.payload.length + 5 < f.sent.length := by omega
  have last : f.characters.drop (f.payload.length + 5) = [later (f.sent[f.payload.length + 5])] := by
    rw [characters, List.drop_succ_cons, ← List.map_drop, List.drop_drop, show 1 + (f.payload.length + 4) = f.payload.length + 5 by omega,
      List.drop_eq_getElem_cons place, List.drop_eq_nil_of_le (by omega)]
    rfl
  have marked : exec (.characterReceipt { data := f.dest, mark := true, stopBit := true }) s = .next (assembling f 1 s) := by
    have arm (c : Character) : exec (.characterReceipt c) s = whilePowered s (receiveCharacter c) := rfl
    have received : receiveCharacter { data := f.dest, mark := true, stopBit := true } s = assembling f 1 s := by
      simp only [receiveCharacter, not_true_eq_false, if_false, if_true, hunting]
      rfl
    rw [arm, whilePowered_of_powered powered, received]
  have completes : exec (.frameCompletion (later (f.sent[f.payload.length + 5]))) (assembling f (f.payload.length + 5) s) =
      .next (dispose f (huntWith 0 s)) := by
    have arm (c : Character) (u : State) : exec (.frameCompletion c) u = whilePowered u (receiveCharacter c) := rfl
    have received (data : Byte) : receiveCharacter (later data) (assembling f (f.payload.length + 5) s) =
        nextCharacter data (assembling f (f.payload.length + 5) s) := rfl
    have assembly : (assembling f (f.payload.length + 5) s).loop.assembly = f.sent.take (f.payload.length + 5) := rfl
    have state : (assembling f (f.payload.length + 5) s).loop.assembler = .check := by
      change stateAfter f.payload.length (f.payload.length + 5) = .check
      exact stateAfter_check (by omega)
    have whole : f.sent.take (f.payload.length + 6) = f.sent := List.take_of_length_le (by omega)
    have read : assemblyLength f.sent = f.payload.length := by
      have all := assemblyLength_sent (f := f) (k := f.sent.length) short (by omega)
      rwa [List.take_length] at all
    rw [arm, whilePowered_of_powered (s := assembling f (f.payload.length + 5) s) powered, received, nextCharacter, assembly, state,
      take_sent_succ (by omega), whole]
    dsimp only
    rw [if_neg (by rw [read]; omega), completeFrame_good short]
    rfl
  rw [first, last, List.map_cons, List.cons_append, run_one marked, run_append, run_later powered short le_rfl, Option.bind_some]
  exact run_one completes []

/-! ## Frames that are not completed (R6, R7, R9) -/

theorem badFrame_frame (s : State) : sameBut [.receiver, .attention] s (badFrame s) = true := by
  have counted : sameBut [.receiver, .attention] s (s.onLoop fun l => { l with badFrames := min 8 (l.badFrames + 1) }) = true := by
    simp [sameBut, allParts, samePart]
  unfold badFrame
  dsimp only
  split
  · exact sameBut_trans counted (sameBut_mono (setAttention_frame _ _) (by decide))
  · exact counted

theorem badFrame_loop (s : State) : (badFrame s).loop = { s.loop with badFrames := min 8 (s.loop.badFrames + 1) } := by
  unfold badFrame
  dsimp only
  split <;> rfl

theorem isRaised_badFrame (s : State) :
    isRaised .lineErrors (badFrame s) = (isRaised .lineErrors s || decide (7 ≤ s.loop.badFrames)) := by
  unfold badFrame
  dsimp only
  split
  · next full =>
    have many : 7 ≤ s.loop.badFrames := by
      have := full
      simp only [State.onLoop_loop] at this
      omega
    rw [isRaised_setAttention]
    simp [many]
  · next few =>
    have some_ : ¬ 7 ≤ s.loop.badFrames := by
      intro many
      exact few (by simp only [State.onLoop_loop]; omega)
    simp only [some_, decide_false, Bool.or_false]
    rfl

theorem hunt_frame (s : State) : sameBut [.receiver, .attention] s (hunt s) = true := by
  simp [sameBut, allParts, samePart, hunt]

/-- What an abandoned frame leaves (R7, R9). -/
theorem abandon_effect (s : State) : sameBut [.receiver, .attention] s (abandon s) = true ∧
    (abandon s).loop = (huntWith (min 8 (s.loop.badFrames + 1)) s).loop ∧
    isRaised .lineErrors (abandon s) = (isRaised .lineErrors s || decide (7 ≤ s.loop.badFrames)) :=
  ⟨sameBut_trans (hunt_frame s) (badFrame_frame _), badFrame_loop _, isRaised_badFrame _⟩

theorem assemble_frame (state : AssemblerState) (assembly : List Byte) (s : State) :
    sameBut [.receiver, .attention] s (assemble state assembly s) = true := by
  simp [sameBut, allParts, samePart, assemble]

/-- Settles O8. -/
theorem assemblerStartsAndAbandons : Obligations.AssemblerStartsAndAbandons := by
  refine ⟨fun c s powered hunting stop mark => ?_, fun c s powered hunting bare => ?_, fun c s powered busy stop => ?_,
    fun c s powered busy stop mark => ?_, fun s powered busy overdue => ?_⟩
  · have row : exec (.characterReceipt c) s = whilePowered s (receiveCharacter c) := rfl
    rw [row, whilePowered_of_powered powered, receiveCharacter, if_neg (by simp [stop]), if_pos mark, if_pos hunting]
    rfl
  · have row : exec (.characterReceipt c) s = whilePowered s (receiveCharacter c) := rfl
    rw [row, whilePowered_of_powered powered, receiveCharacter, if_pos hunting]
    split
    · rfl
    · next stop =>
      have mark : c.mark = false := bare.resolve_left fun h => stop (by simp [h])
      rw [if_neg (by simp [mark]), nextCharacter]
      simp only [hunting]
  · have received : receiveCharacter c s = abandon s := by
      rw [receiveCharacter, if_pos (by simp [stop]), if_neg busy]
    exact answers_event (f := receiveCharacter c) rfl powered (received ▸ abandon_effect s)
  · have received : receiveCharacter c s = assemble .header [c.data] (abandon s) := by
      rw [receiveCharacter, if_neg (by simp [stop]), if_pos mark, if_neg busy]
    obtain ⟨same, loop, raised⟩ := abandon_effect s
    have clock : (abandon s).clock = s.clock := sameBut_clock same (by decide)
    have assembled : (assemble .header [c.data] (abandon s)).loop =
        { (huntWith (min 8 (s.loop.badFrames + 1)) s).loop with
          assembler := .header, assembly := [c.data]
          gapTimer := some { start := s.clock, cycles := 10 * (88 * (s.loop.inDivisor + 1)) } } := by
      simp only [assemble, gapTimerOf, State.onLoop_loop, loop, clock]
      rfl
    refine answers_event (f := receiveCharacter c) rfl powered ?_
    rw [received]
    exact ⟨sameBut_trans same (assemble_frame _ _ _), assembled, raised⟩
  · have expired : gapExpiry s = abandon s := if_pos ⟨busy, overdue⟩
    exact answers_event (f := gapExpiry) rfl powered (expired ▸ abandon_effect s)

end Sys2Proof.Machine
end

section
/-! SUPPORT. The arbiter's four steps and a send start (R17 to R19), the tracking and the rewrite of LEVEL frames (R78, R79, R87
to R91), and the obligations O10 and O11. -/

namespace Sys2Proof.Machine

variable {s t : State}

/-! ## A send completion (R17, R18) -/

/-- The port is FREE, with the profile's divisor (R2, R17). -/
def freed (s : State) : State := s.onLoop fun l => { l with sending := none, outDivisor := s.command.profile.lineDivisor }

theorem sendCompletion_none (overdue : lineDue (s.loop.sending.map Sending.span) s.clock = true) (none_ : select s.loop = none) :
    sendCompletion s = freed s := by
  have free : select (freed s).loop = none := none_
  have arbitrated : arbitrate (freed s) = freed s := by
    simp only [arbitrate, free]
    rfl
  exact (if_pos overdue).trans arbitrated

theorem sendCompletion_select {sel : Selection} (overdue : lineDue (s.loop.sending.map Sending.span) s.clock = true)
    (selected : select s.loop = some sel) : sendCompletion s = startSend sel (freed s) := by
  have free : select (freed s).loop = some sel := selected
  have arbitrated : arbitrate (freed s) = startSend sel (freed s) := by
    simp only [arbitrate, free]
    rfl
  exact (if_pos overdue).trans arbitrated

/-- A frame that is no LEVEL frame is sent as it is (R19). -/
theorem startSend_plain {sel : Selection} (plain : sel.frame.kind ≠ kindLevel) (s : State) :
    startSend sel (freed s) = sendStarted sel.frame sel.forward sel.origin sel.run s := by
  simp only [startSend, sendOutputs, fixedBytes, if_neg plain]
  rfl

theorem find_urgent_none {origin : List OriginFrame} (h : ∀ q ∈ origin, q.urgent = false) : origin.find? OriginFrame.urgent = none :=
  List.find?_eq_none.2 fun q hq => by simp [h q hq]

theorem find_urgent_first {before after : List OriginFrame} {q : OriginFrame} (h : ∀ q ∈ before, q.urgent = false)
    (urgent : q.urgent = true) : (before ++ q :: after).find? OriginFrame.urgent = some q := by
  rw [List.find?_append, find_urgent_none h, Option.none_or, List.find?_cons_of_pos urgent]

theorem erase_urgent_first {before after : List OriginFrame} {q : OriginFrame} (h : ∀ q ∈ before, q.urgent = false)
    (urgent : q.urgent = true) : (before ++ q :: after).eraseP OriginFrame.urgent = before ++ after := by
  rw [List.eraseP_append_right _ fun x hx => by simp [h x hx], List.eraseP_cons_of_pos urgent]

/-! ## LEVEL frames at the send start (R19, R91) -/

@[simp] theorem outputLevel_onLoop (f : LoopPort → LoopPort) (s : State) (e : PolicyEntry) :
    outputLevel (s.onLoop f) e = outputLevel s e := rfl

@[simp] theorem rewriteByte_onLoop (f : LoopPort → LoopPort) (s : State) (segment channel : Nat) (level : Byte) :
    rewriteByte (s.onLoop f) segment channel level = rewriteByte s segment channel level := rfl

theorem rewriteRun_onLoop (f : LoopPort → LoopPort) (s : State) (segment channel : Nat) (levels : List Byte) :
    rewriteRun (s.onLoop f) segment channel levels = rewriteRun s segment channel levels := by
  induction levels generalizing channel with
  | nil => rfl
  | cons level rest ih => simp only [rewriteRun, rewriteByte_onLoop, ih]

theorem rewritePairs_onLoop (f : LoopPort → LoopPort) (s : State) (segment : Nat) (pairs : List Byte) :
    rewritePairs (s.onLoop f) segment pairs = rewritePairs s segment pairs := by
  induction pairs using rewritePairs.induct with
  | case1 hi lo level rest ih => simp only [rewritePairs, rewriteByte_onLoop, ih]
  | case2 rest short => rw [rewritePairs.eq_2 _ _ _ short, rewritePairs.eq_2 _ _ _ short]

theorem rewriteLevels_onLoop (f : LoopPort → LoopPort) (s : State) (payload : List Byte) :
    rewriteLevels (s.onLoop f) payload = rewriteLevels s payload := by
  unfold rewriteLevels
  split
  · rw [rewriteRun_onLoop]
  · rw [rewritePairs_onLoop]
  · rfl

/-- A LEVEL frame that starts out is rewritten, its CRC covers the rewritten bytes, and its channels take the output time (R19,
R91). -/
theorem startSend_level {sel : Selection} (level : sel.frame.kind = kindLevel) (s : State) :
    ∃ t, startSend sel (freed s) = noteOutputs sel.frame.payload t ∧ sameBut [.sender] s t = true ∧
      t.lights = s.lights ∧ t.clock = s.clock ∧ t.loop.forward = sel.forward ∧ t.loop.origin = sel.origin ∧
      t.loop.sending.map Sending.frame = some { sel.frame with payload := rewriteLevels s sel.frame.payload } ∧
      t.loop.sending.map Sending.crc =
        some (crc16 { sel.frame with payload := rewriteLevels s sel.frame.payload : Frame }.bytes) := by
  have fixed : fixedBytes (freed s) sel.frame = { sel.frame with payload := rewriteLevels s sel.frame.payload } := by
    rw [fixedBytes, if_pos level, freed, rewriteLevels_onLoop]
  refine ⟨_, if_pos level, ?_, rfl, rfl, rfl, rfl, congrArg some fixed, ?_⟩
  · simp [sameBut, allParts, samePart, freed, LoopPort.receiving]
  · rw [← fixed]
    rfl

/-- What the noting of output times leaves of the Loop Port Unit. -/
theorem noteOutputs_loop (payload : List Byte) (s : State) : (noteOutputs payload s).loop = s.loop := by
  unfold noteOutputs
  split <;> rfl

/-- Settles O10: each clause is one step of the arbiter's selection. -/
theorem sendCompletionSelects : Obligations.SendCompletionSelects := by
  intro s powered overdue
  have row : exec .sendCompletion s = .next (sendCompletion s) := whilePowered_of_powered powered sendCompletion
  have starts {sel : Selection} (selected : select s.loop = some sel) (plain : sel.frame.kind ≠ kindLevel) :
      exec .sendCompletion s = .next (sendStarted sel.frame sel.forward sel.origin sel.run s) := by
    rw [row, sendCompletion_select overdue selected, startSend_plain plain]
  refine ⟨fun forward origin => ?_, fun before urgent after origin calm isUrgent plain => ?_,
    fun f rest calm forward few plain => ?_, fun q rest calm origin forward plain => ?_,
    fun f rest origin forward many plain => ?_, fun q forward origin level => ?_⟩
  · rw [row, sendCompletion_none overdue (by simp [select, forward, origin])]
    rfl
  · refine starts (sel := { frame := urgent.frame, forward := s.loop.forward, origin := before ++ after, run := 0 }) ?_ plain
    simp only [select, origin, find_urgent_first calm isUrgent, erase_urgent_first calm isUrgent]
  · refine starts (sel := { frame := f, forward := rest, origin := s.loop.origin, run := s.loop.forwardRun + 1 }) ?_ plain
    have run : min 4 (s.loop.forwardRun + 1) = s.loop.forwardRun + 1 := by omega
    cases h : s.loop.origin with
    | nil => simp [select, h, forward, run]
    | cons q others =>
      have none_ : (q :: others).find? OriginFrame.urgent = none := find_urgent_none (h ▸ calm)
      simp [select, h, forward, few, none_]
  · refine starts (sel := { frame := q.frame, forward := s.loop.forward, origin := rest, run := 0 }) ?_ plain
    have none_ : (q :: rest).find? OriginFrame.urgent = none := find_urgent_none (origin ▸ calm)
    cases h : s.loop.forward with
    | nil => simp [select, h, origin, none_]
    | cons f others =>
      have many : ¬ s.loop.forwardRun < 4 := by
        rcases forward with none_ | many
        · rw [h] at none_
          nomatch none_
        · omega
      simp [select, h, origin, many, none_]
  · refine starts (sel := { frame := f, forward := rest, origin := [], run := 4 }) ?_ plain
    have run : min 4 (s.loop.forwardRun + 1) = 4 := by omega
    simp [select, origin, forward, run]
  · have selected : select s.loop = some { frame := q.frame, forward := [], origin := [], run := 0 } := by
      cases urgent : q.urgent <;> simp [select, forward, origin, urgent]
    obtain ⟨t, sent, same, _, _, _, queue, frame, _⟩ := startSend_level (sel := { frame := q.frame, forward := [], origin := [], run := 0 }) level s
    refine ⟨_, row, ?_⟩
    rw [sendCompletion_select overdue selected, sent]
    simp only [noteOutputs_loop]
    exact ⟨sameBut_trans (sameBut_mono same (by decide)) (sameBut_mono (noteOutputs_frame _ t) (by decide)), queue, frame⟩

end Sys2Proof.Machine
end

section
/-! SUPPORT. The hand-off of a frame that passes through the part, LEVEL payloads in both forms (R78), tracking (R79), rewriting and
output times (R91), output levels (R87 to R90), and the obligation O11. -/

namespace Sys2Proof.Machine

variable {s t : State} {f : Frame}

/-! ## A frame that passes through (R8, R10, R11) -/

/-- The last character of a frame completes it (R8). -/
theorem receive_last {hi : Byte} {c : Character} (check : s.loop.assembler = .check) (stop : c.stopBit = true)
    (mark : c.mark = false) (short : f.payload.length ≤ 240) (assembly : s.loop.assembly = f.bytes ++ [hi]) :
    receiveCharacter c s = completeFrame (f.bytes ++ [hi] ++ [c.data]) s := by
  have read : assemblyLength (f.bytes ++ [hi] ++ [c.data]) = f.payload.length := by
    have fourth : ((f.bytes ++ [hi] ++ [c.data]).drop 3).headD 0 = byte f.payload.length := rfl
    rw [assemblyLength, fourth, byte_toNat (by omega)]
  have length : (f.bytes ++ [hi] ++ [c.data]).length = f.payload.length + 6 := by
    simp [length_bytes]
  rw [receiveCharacter, if_neg (by simp [stop]), if_neg (by simp [mark]), nextCharacter, assembly, check]
  dsimp only
  rw [length, read, if_neg (by omega)]

/-- The disposal of a frame that another node sent to another: its owner has it, and it is offered on. -/
theorem dispose_passing (valid : f.headerValid = true)
    (other : s.numbered = true → f.source ≠ s.nodeByte ∧ ¬ (f.kind = kindCommand ∧ f.dest = s.nodeByte)) :
    dispose f s = offerForward f (handToOwner f s) := by
  rw [dispose, if_neg (not_not.2 valid), if_neg fun own => (other own.1).1 own.2, if_neg fun own => (other own.1).2 own.2]

theorem exec_passing {c : Character} (h : passingFrame f c s = true) :
    exec (.frameCompletion c) s = .next (offerForward f (handToOwner f (huntWith 0 s))) := by
  simp only [passingFrame, Bool.and_eq_true, decide_eq_true_eq] at h
  obtain ⟨⟨powered, valid⟩, check, short, assembly, rfl, other⟩ := h
  have arm (c : Character) : exec (.frameCompletion c) s = whilePowered s (receiveCharacter c) := rfl
  have whole : f.bytes ++ [byte ((crc16 f.bytes).toNat / 256)] ++ [byte (crc16 f.bytes).toNat] = f.sent := by
    simp [Frame.sent, bytes2]
  rw [arm, whilePowered_of_powered powered, receive_last check rfl rfl short assembly, whole, completeFrame_good short,
    dispose_passing (s := huntWith 0 s) valid other]

/-- A frame that passes through leaves what its owner makes of it, and is then offered on. -/
theorem passes_of {c : Character} {holds : State → Prop} (h : passingFrame f c s = true)
    (owner : holds (handToOwner f (huntWith 0 s))) : passes f c s holds :=
  ⟨_, exec_passing h, owner⟩

/-! ## The two forms (R78) -/

theorem levelForm_run {head hi lo : Byte} {levels : List Byte} (form : head.toNat / 16 = 0) (segment : head.toNat % 16 ≤ 3)
    (some_ : 1 ≤ levels.length) (few : levels.length ≤ 236) :
    levelForm (head :: hi :: lo :: levels) = some (.run, head.toNat % 16) := by
  have length : 4 ≤ (head :: hi :: lo :: levels).length ∧ (head :: hi :: lo :: levels).length ≤ 239 := by
    simp only [List.length_cons]
    omega
  simp only [levelForm, if_neg (Nat.not_lt.2 segment), if_pos (And.intro form length)]

/-- The bytes of pair-form channels and levels. -/
def pairBytes (pairs : List (Byte × Byte × Byte)) : List Byte := pairs.flatMap fun (hi, lo, level) => [hi, lo, level]

theorem length_pairBytes (pairs : List (Byte × Byte × Byte)) : (pairBytes pairs).length = 3 * pairs.length := by
  induction pairs with
  | nil => rfl
  | cons pair rest ih =>
    simp only [pairBytes] at ih
    simp only [pairBytes, List.flatMap_cons, List.length_append, List.length_cons, List.length_nil, ih]
    omega

theorem levelForm_pair {head : Byte} {pairs : List (Byte × Byte × Byte)} (form : head.toNat / 16 = 1)
    (segment : head.toNat % 16 ≤ 3) (few : pairs.length ≤ 79) :
    levelForm (head :: pairBytes pairs) = some (.pair, head.toNat % 16) := by
  have length : (head :: pairBytes pairs).length % 3 = 1 ∧ (head :: pairBytes pairs).length ≤ 238 := by
    rw [List.length_cons, length_pairBytes]
    omega
  have run : ¬ (head.toNat / 16 = 0 ∧ 4 ≤ (head :: pairBytes pairs).length ∧ (head :: pairBytes pairs).length ≤ 239) := by
    rintro ⟨zero, _⟩
    omega
  rw [levelForm, if_neg (Nat.not_lt.2 segment), if_neg run, if_pos ⟨form, length⟩]

/-- A payload of neither form. -/
def levelRejected (payload : List Byte) : Prop :=
  payload = [] ∨ ∃ head rest, payload = head :: rest ∧
    (3 < head.toNat % 16 ∨ 1 < head.toNat / 16 ∨
      (head.toNat / 16 = 0 ∧ (rest.length < 3 ∨ 238 < rest.length)) ∨
      (head.toNat / 16 = 1 ∧ (rest.length % 3 ≠ 0 ∨ 237 < rest.length)))

theorem levelForm_rejected {payload : List Byte} (h : levelRejected payload) : levelForm payload = none := by
  obtain rfl | ⟨head, rest, rfl, h⟩ := h
  · rfl
  · have run : 3 < head.toNat % 16 ∨
        ¬ (head.toNat / 16 = 0 ∧ 4 ≤ (head :: rest).length ∧ (head :: rest).length ≤ 239) := by
      rw [List.length_cons]
      omega
    have pair : 3 < head.toNat % 16 ∨
        ¬ (head.toNat / 16 = 1 ∧ (head :: rest).length % 3 = 1 ∧ (head :: rest).length ≤ 238) := by
      rw [List.length_cons]
      omega
    rw [levelForm]
    split
    · rfl
    · next segment => rw [if_neg (run.resolve_left segment), if_neg (pair.resolve_left segment)]

theorem carriedLevels_rejected {payload : List Byte} (h : levelRejected payload) : carriedLevels payload = none := by
  simp only [carriedLevels, levelForm_rejected h]

theorem rewriteLevels_rejected {payload : List Byte} (h : levelRejected payload) (s : State) : rewriteLevels s payload = payload := by
  simp only [rewriteLevels, levelForm_rejected h]

theorem readPairs_pairBytes (pairs : List (Byte × Byte × Byte)) :
    readPairs (pairBytes pairs) = pairs.map fun (hi, lo, level) => (number2 hi lo, level) := by
  induction pairs with
  | nil => rfl
  | cons pair rest ih => exact congrArg _ ih

/-! ## Tracking (R79) -/

/-- The last level that a list of channels and levels gives a channel. -/
def lastLevel (items : List (Nat × Byte)) (channel : Nat) : Option Byte :=
  (items.reverse.find? fun item => decide (item.1 = channel)).map Prod.snd

theorem lastLevel_cons (item : Nat × Byte) (rest : List (Nat × Byte)) (channel : Nat) :
    lastLevel (item :: rest) channel =
      (lastLevel rest channel).or (if item.1 = channel then some item.2 else none) := by
  rw [lastLevel, List.reverse_cons, List.find?_append, lastLevel]
  cases rest.reverse.find? fun item => decide (item.1 = channel) with
  | some found => rfl
  | none => by_cases same : item.1 = channel <;> simp [same]

/-- A channel's entry as a console's level for it leaves it (R79, R80). -/
def trackedEntry (s : State) (segment : Nat) (e : PolicyEntry) : Option Byte → PolicyEntry
  | none => e
  | some level =>
    if e.defn.segment = segment ∧ e.defn.channel ≤ 511 then
      { e with
        lastLevel := level, lastConsole := some s.clock
        silence := some { start := s.clock, length := s.command.profile.refreshLimit } }
    else e

theorem trackChannel_eq (segment : Nat) (item : Nat × Byte) (s : State) :
    trackChannel segment item s = s.onLights fun l =>
      { l with policy := l.policy.map fun e => trackedEntry s segment e (if item.1 = e.defn.channel then some item.2 else none) } := by
  have entry (e : PolicyEntry) (near : ¬ 511 < item.1) :
      (if e.defn.hasKey segment item.1 then
        { e with lastLevel := item.2, lastConsole := some s.clock, silence := some (s.timerOf s.command.profile.refreshLimit) }
      else e) = trackedEntry s segment e (if item.1 = e.defn.channel then some item.2 else none) := by
    by_cases same : item.1 = e.defn.channel
    · have range : e.defn.channel ≤ 511 := by omega
      simp [trackedEntry, PolicyDef.hasKey, same, range, State.timerOf]
    · have other : ¬ e.defn.channel = item.1 := fun h => same h.symm
      simp [trackedEntry, PolicyDef.hasKey, same, other]
  unfold trackChannel
  split
  · next far =>
    have same (e : PolicyEntry) : trackedEntry s segment e (if item.1 = e.defn.channel then some item.2 else none) = e := by
      by_cases h : item.1 = e.defn.channel
      · have range : ¬ e.defn.channel ≤ 511 := by omega
        simp [trackedEntry, h, range]
      · simp [trackedEntry, h]
    simp only [same, List.map_id']
    rfl
  · next near => simp only [entry _ near]

theorem trackedEntry_defn (s : State) (segment : Nat) (e : PolicyEntry) (level : Option Byte) :
    (trackedEntry s segment e level).defn = e.defn := by
  unfold trackedEntry
  split
  · rfl
  · split <;> rfl

/-- A later level of a channel replaces an earlier one. -/
theorem trackedEntry_twice (s : State) (segment : Nat) (e : PolicyEntry) (first second : Option Byte) :
    trackedEntry s segment (trackedEntry s segment e first) second = trackedEntry s segment e (second.or first) := by
  cases second with
  | none => rfl
  | some level =>
    by_cases key : e.defn.segment = segment ∧ e.defn.channel ≤ 511 <;> cases first <;> simp [trackedEntry, key]

theorem trackChannels_eq (segment : Nat) (items : List (Nat × Byte)) (s : State) :
    forEach items (trackChannel segment) s = s.onLights fun l =>
      { l with policy := l.policy.map fun e => trackedEntry s segment e (lastLevel items e.defn.channel) } := by
  induction items generalizing s with
  | nil =>
    simp only [lastLevel, List.reverse_nil, List.find?_nil, Option.map_none, trackedEntry, List.map_id']
    rfl
  | cons item rest ih =>
    rw [forEach_cons, ih, trackChannel_eq]
    simp only [State.onLights, List.map_map, lastLevel_cons]
    congr 2
    refine List.map_congr_left fun e _ => ?_
    exact (trackedEntry_twice s segment e _ _).trans (by rw [trackedEntry_defn])

theorem lastLevel_readRun (start : Nat) (levels : List Byte) (channel : Nat) :
    lastLevel (readRun start levels) channel = if start ≤ channel then levels[channel - start]? else none := by
  induction levels generalizing start with
  | nil => simp [readRun, lastLevel]
  | cons level rest ih =>
    rw [readRun, lastLevel_cons, ih]
    by_cases same : start = channel
    · subst same
      simp
    · by_cases after : start + 1 ≤ channel
      · have before : start ≤ channel := by omega
        have place : channel - start = channel - (start + 1) + 1 := by omega
        simp [after, before, same, place]
      · have before : ¬ start ≤ channel := by omega
        simp [after, before, same]

theorem lastLevel_pairs (pairs : List (Byte × Byte × Byte)) (channel : Nat) :
    lastLevel (pairs.map fun (hi, lo, level) => (number2 hi lo, level)) channel =
      (pairs.reverse.find? fun (hi, lo, _) => decide (number2 hi lo = channel)).map fun (_, _, level) => level := by
  rw [lastLevel, ← List.map_reverse, List.find?_map, Option.map_map]
  rfl

/-! ## Rewriting (R91) -/

theorem rewriteRun_eq (s : State) (segment channel : Nat) (levels : List Byte) :
    rewriteRun s segment channel levels =
      levels.zipIdx.map fun (received, i) => rewriteByte s segment (channel + i) received := by
  induction levels generalizing channel with
  | nil => rfl
  | cons level rest ih =>
    rw [rewriteRun, ih, List.zipIdx_cons, List.map_cons, List.zipIdx_succ, List.map_map]
    refine congrArg _ (List.map_congr_left fun item _ => ?_)
    obtain ⟨received, i⟩ := item
    simp only [Function.comp_apply, Nat.add_right_comm channel 1 i, Nat.add_assoc]

theorem rewritePairs_eq (s : State) (segment : Nat) (pairs : List (Byte × Byte × Byte)) :
    rewritePairs s segment (pairBytes pairs) =
      pairs.flatMap fun (hi, lo, received) => [hi, lo, rewriteByte s segment (number2 hi lo) received] := by
  induction pairs with
  | nil => rfl
  | cons pair rest ih =>
    obtain ⟨hi, lo, received⟩ := pair
    change hi :: lo :: rewriteByte s segment (number2 hi lo) received :: rewritePairs s segment (pairBytes rest) = _
    rw [ih]
    rfl

/-! ## Output times (R91) -/

theorem channels_readRun (start : Nat) (levels : List Byte) (channel : Nat) :
    ((readRun start levels).map Prod.fst).contains channel = decide (start ≤ channel ∧ channel < start + levels.length) := by
  induction levels generalizing start with
  | nil => simp [readRun]
  | cons level rest ih =>
    simp only [readRun, List.map_cons, List.contains_cons, ih, List.length_cons]
    by_cases same : channel = start
    · simp [same]
    · have other : (channel == start) = false := by simpa using same
      rw [other, Bool.false_or]
      exact decide_eq_decide.2 (by omega)

theorem channels_pairs (pairs : List (Byte × Byte × Byte)) (channel : Nat) :
    ((pairs.map fun (hi, lo, level) => (number2 hi lo, level)).map Prod.fst).contains channel =
      pairs.any fun (hi, lo, _) => decide (number2 hi lo = channel) := by
  induction pairs with
  | nil => rfl
  | cons pair rest ih =>
    obtain ⟨hi, lo, level⟩ := pair
    have head : (channel == number2 hi lo) = decide (number2 hi lo = channel) := by
      rw [Bool.eq_iff_iff, beq_iff_eq, decide_eq_true_eq]
      exact eq_comm
    simp only [List.map_cons, List.contains_cons, ih, List.any_cons, head]

/-! ## A LEVEL frame at the OUT port -/

/-- A LEVEL frame that alone waits is the one selected. -/
theorem select_alone (alone : (s.loop.forward = [f] ∧ s.loop.origin = []) ∨
      (s.loop.forward = [] ∧ s.loop.origin.map OriginFrame.frame = [f])) :
    ∃ run, select s.loop = some { frame := f, forward := [], origin := [], run := run } := by
  obtain ⟨forward, origin⟩ | ⟨forward, origin⟩ := alone
  · exact ⟨min 4 (s.loop.forwardRun + 1), by simp only [select, forward, origin, List.find?_nil]⟩
  · obtain ⟨q, queue, rfl⟩ : ∃ q, s.loop.origin = [q] ∧ q.frame = f := by
      obtain ⟨q, rest, queue, frame, none_⟩ := List.map_eq_cons_iff.1 origin
      exact ⟨q, by rw [queue, List.map_eq_nil_iff.1 none_], frame⟩
    cases urgent : q.urgent with
    | true => exact ⟨0, by simp [select, queue, forward, urgent]⟩
    | false => exact ⟨0, by simp [select, queue, forward, urgent]⟩

/-- What the send start of a LEVEL frame that alone waits leaves, given the channels that take its time. -/
theorem send_level_alone (overdue : lineDue (s.loop.sending.map Sending.span) s.clock = true) (level : f.kind = kindLevel)
    (alone : (s.loop.forward = [f] ∧ s.loop.origin = []) ∨ (s.loop.forward = [] ∧ s.loop.origin.map OriginFrame.frame = [f])) :
    sameBut [.sender, .outputs] s (sendCompletion s) = true ∧ (sendCompletion s).loop.forward = [] ∧
      (sendCompletion s).loop.origin = [] ∧
      (sendCompletion s).loop.sending.map Sending.frame = some { f with payload := rewriteLevels s f.payload } ∧
      (sendCompletion s).loop.sending.map Sending.crc =
        some (crc16 { f with payload := rewriteLevels s f.payload : Frame }.bytes) ∧
      ∃ t, sendCompletion s = noteOutputs f.payload t ∧ t.lights = s.lights ∧ t.clock = s.clock := by
  obtain ⟨run, selected⟩ := select_alone alone
  obtain ⟨t, sent, same, lights, clock, forward, origin, frame, crc⟩ :=
    startSend_level (sel := { frame := f, forward := [], origin := [], run := run }) level s
  have completed : sendCompletion s = noteOutputs f.payload t := (sendCompletion_select overdue selected).trans sent
  refine ⟨sendCompletion_frame s, ?_, ?_, ?_, ?_, t, completed, lights, clock⟩
  · rw [completed, noteOutputs_loop]
    exact forward
  · rw [completed, noteOutputs_loop]
    exact origin
  · rw [completed, noteOutputs_loop]
    exact frame
  · rw [completed, noteOutputs_loop]
    exact crc

/-- The channels that a payload carries take the output time. -/
theorem noteOutputs_policy {payload : List Byte} {segment : Nat} {items : List (Nat × Byte)}
    (carried : carriedLevels payload = some (segment, items)) (s : State) :
    (noteOutputs payload s).lights.policy = s.lights.policy.map fun e =>
      if e.defn.channel ≤ 511 ∧ (decide (e.defn.segment = segment) && (items.map Prod.fst).contains e.defn.channel) = true then
        { e with lastOutput := some s.clock } else e := by
  simp only [noteOutputs, carried, State.onLights_lights]
  refine List.map_congr_left fun e _ => ?_
  simp only [Bool.and_eq_true, decide_eq_true_eq, and_left_comm]

/-! ## Output levels (5.5) -/

theorem scaleLevel_le {level : Nat} (h : level ≤ 65535) : scaleLevel level ≤ 255 := by
  unfold scaleLevel
  omega

theorem consoleLevel_le (e : PolicyEntry) : e.consoleLevel ≤ 255 := by
  unfold PolicyEntry.consoleLevel
  split
  · exact Nat.zero_le _
  · exact Nat.le_of_lt_succ e.lastLevel.isLt

theorem byte_consoleLevel (e : PolicyEntry) : byte e.consoleLevel = if e.silent then 0 else e.lastLevel := by
  unfold PolicyEntry.consoleLevel
  split
  · rfl
  · exact byte_of_toNat _

theorem houseLevel_owned {e : PolicyEntry} {group : Group} (h : s.lights.groups[e.defn.group.toNat]? = some group) :
    houseLevel s e =
      if group.owner = .console then e.consoleLevel
      else if e.defn.merge = 1 then max (scaleLevel group.level) e.consoleLevel
      else if e.defn.merge = 2 then min (scaleLevel group.level) e.consoleLevel
      else scaleLevel group.level := by
  simp only [houseLevel, h]

theorem houseLevel_le {e : PolicyEntry} {group : Group} (h : s.lights.groups[e.defn.group.toNat]? = some group)
    (range : group.level ≤ 65535) : houseLevel s e ≤ 255 := by
  have console := consoleLevel_le e
  have scaled := scaleLevel_le range
  rw [houseLevel_owned h]
  split_ifs <;> omega

section Outside

variable {e : PolicyEntry} (clear : overrideActive s = false)
include clear

theorem outputLevel_aisle (role : e.defn.role = .aisle) :
    (outputLevel s e).toNat = max (if e.silent then 0 else e.lastLevel.toNat) e.defn.floor.toNat := by
  have level := consoleLevel_le e
  have floor := e.defn.floor.isLt
  rw [outputLevel, if_neg (by simp [clear]), role]
  exact byte_toNat (by omega)

theorem outputLevel_stageWork (role : e.defn.role = .stageWork) : outputLevel s e = if e.silent then 0 else e.lastLevel := by
  rw [outputLevel, if_neg (by simp [clear]), role]
  exact byte_consoleLevel e

theorem outputLevel_effect (role : e.defn.role = .effect) :
    outputLevel s e = if windowOpen s e.defn.window.toNat ∧ e.silent = false then e.lastLevel else 0 := by
  rw [outputLevel, if_neg (by simp [clear]), role]
  simp only [byte_consoleLevel]
  cases windowOpen s e.defn.window.toNat <;> cases e.silent <;> rfl

theorem outputLevel_house {group : Group} (role : e.defn.role = .house)
    (h : s.lights.groups[e.defn.group.toNat]? = some group) (range : group.level ≤ 65535) :
    (outputLevel s e).toNat =
      if group.owner = .console then (if e.silent then 0 else e.lastLevel.toNat)
      else if e.defn.merge = 1 then max ((group.level * 255 + 32767) / 65535) (if e.silent then 0 else e.lastLevel.toNat)
      else if e.defn.merge = 2 then min ((group.level * 255 + 32767) / 65535) (if e.silent then 0 else e.lastLevel.toNat)
      else (group.level * 255 + 32767) / 65535 := by
  have small := houseLevel_le h range
  rw [outputLevel, if_neg (by simp [clear]), role]
  exact (byte_toNat (by omega)).trans (houseLevel_owned h)

end Outside

/-! ## The obligation -/

theorem handToOwner_level (level : f.kind = kindLevel) (s : State) : handToOwner f s = trackLevels f.payload s := if_pos level

/-- The payload's levels are the ones tracked. -/
theorem trackLevels_carried {payload : List Byte} {segment : Nat} {items : List (Nat × Byte)}
    (carried : carriedLevels payload = some (segment, items)) (s : State) :
    trackLevels payload s = s.onLights fun l =>
      { l with policy := l.policy.map fun e => trackedEntry s segment e (lastLevel items e.defn.channel) } := by
  simp only [trackLevels, carried]
  exact trackChannels_eq segment items s

theorem carriedLevels_run {head hi lo : Byte} {levels : List Byte} (form : head.toNat / 16 = 0) (segment : head.toNat % 16 ≤ 3)
    (some_ : 1 ≤ levels.length) (few : levels.length ≤ 236) :
    carriedLevels (head :: hi :: lo :: levels) = some (head.toNat % 16, readRun (number2 hi lo) levels) := by
  simp only [carriedLevels, levelForm_run form segment some_ few]

theorem carriedLevels_pair {head : Byte} {pairs : List (Byte × Byte × Byte)} (form : head.toNat / 16 = 1)
    (segment : head.toNat % 16 ≤ 3) (few : pairs.length ≤ 79) :
    carriedLevels (head :: pairBytes pairs) =
      some (head.toNat % 16, pairs.map fun (hi, lo, level) => (number2 hi lo, level)) := by
  simp only [carriedLevels, levelForm_pair form segment few, readPairs_pairBytes]

theorem trackLevels_rejected {payload : List Byte} (h : levelRejected payload) (s : State) : trackLevels payload s = s := by
  simp only [trackLevels, carriedLevels_rejected h]

theorem noteOutputs_rejected {payload : List Byte} (h : levelRejected payload) (s : State) : noteOutputs payload s = s := by
  simp only [noteOutputs, carriedLevels_rejected h]

theorem rewriteLevels_run {head hi lo : Byte} {levels : List Byte} (form : head.toNat / 16 = 0) (segment : head.toNat % 16 ≤ 3)
    (some_ : 1 ≤ levels.length) (few : levels.length ≤ 236) (s : State) :
    rewriteLevels s (head :: hi :: lo :: levels) =
      head :: hi :: lo :: levels.zipIdx.map fun (received, i) =>
        rewriteByte s (head.toNat % 16) (number2 hi lo + i) received := by
  simp only [rewriteLevels, levelForm_run form segment some_ few, rewriteRun_eq]

theorem rewriteLevels_pair {head : Byte} {pairs : List (Byte × Byte × Byte)} (form : head.toNat / 16 = 1)
    (segment : head.toNat % 16 ≤ 3) (few : pairs.length ≤ 79) (s : State) :
    rewriteLevels s (head :: pairBytes pairs) =
      head :: pairs.flatMap fun (hi, lo, received) => [hi, lo, rewriteByte s (head.toNat % 16) (number2 hi lo) received] := by
  simp only [rewriteLevels, levelForm_pair form segment few, rewritePairs_eq]

/-- Settles O11: the two forms give the channels and levels that tracking, the rewrite and the output times go by. -/
theorem governedLevelsAreRewritten : Obligations.GovernedLevelsAreRewritten := by
  refine ⟨fun f c s passing level => ?_, fun s => ?_, fun s f powered overdue level alone => ?_, fun s e => ?_⟩
  · have tracked {segment : Nat} {items : List (Nat × Byte)} (carried : carriedLevels f.payload = some (segment, items)) :
        passes f c s fun t => t = (huntWith 0 s).onLights fun l =>
          { l with policy := l.policy.map fun e => trackedEntry s segment e (lastLevel items e.defn.channel) } :=
      passes_of passing ((handToOwner_level level _).trans (trackLevels_carried carried _))
    refine ⟨fun head hi lo levels payload form segment some_ few => ?_, fun head pairs payload form segment few => ?_,
      fun rejected => ⟨passes_of passing ?_, rewriteLevels_rejected rejected s⟩⟩
    · have run := tracked (payload ▸ carriedLevels_run form segment some_ few)
      simp only [lastLevel_readRun] at run
      exact run
    · have pair := tracked (payload ▸ carriedLevels_pair form segment few)
      simp only [lastLevel_pairs] at pair
      exact pair
    · exact (handToOwner_level level _).trans (trackLevels_rejected rejected _)
  · exact ⟨fun head hi lo levels form segment some_ few => rewriteLevels_run form segment some_ few s,
      fun head pairs form segment few => rewriteLevels_pair form segment few s⟩
  · obtain ⟨same, forward, origin, frame, crc, t, completed, lights, clock⟩ := send_level_alone overdue level alone
    have starts {carried : Nat → Nat → Bool} (policy : (noteOutputs f.payload t).lights.policy = t.lights.policy.map fun e =>
          if e.defn.channel ≤ 511 ∧ carried e.defn.segment e.defn.channel then { e with lastOutput := some t.clock } else e) :
        answers .sendCompletion s fun t =>
          sameBut [.sender, .outputs] s t ∧ t.loop.forward = [] ∧ t.loop.origin = [] ∧
          t.loop.sending.map Sending.frame = some { f with payload := rewriteLevels s f.payload } ∧
          t.loop.sending.map Sending.crc = some (crc16 { f with payload := rewriteLevels s f.payload : Frame }.bytes) ∧
          t.lights.policy = s.lights.policy.map fun e =>
            if e.defn.channel ≤ 511 ∧ carried e.defn.segment e.defn.channel then { e with lastOutput := some s.clock } else e := by
      rw [lights, clock] at policy
      exact answers_event (f := sendCompletion) rfl powered ⟨same, forward, origin, frame, crc, completed ▸ policy⟩
    refine ⟨fun head hi lo levels payload form segment some_ few => starts (carried := fun segment channel =>
        decide (segment = head.toNat % 16 ∧ number2 hi lo ≤ channel ∧ channel < number2 hi lo + levels.length)) ?_,
      fun head pairs payload form segment few => starts (carried := fun segment channel =>
        decide (segment = head.toNat % 16) && pairs.any fun (hi, lo, _) => decide (number2 hi lo = channel)) ?_,
      fun rejected => ⟨?_, starts (carried := fun _ _ => false) ?_⟩⟩
    · have policy := noteOutputs_policy (payload ▸ carriedLevels_run form segment some_ few : carriedLevels f.payload = _) t
      simp only [channels_readRun, ← Bool.decide_and] at policy
      exact policy
    · have policy := noteOutputs_policy (payload ▸ carriedLevels_pair form segment few : carriedLevels f.payload = _) t
      simp only [channels_pairs] at policy
      exact policy
    · rw [rewriteLevels_rejected rejected]
    · rw [noteOutputs_rejected rejected]
      simp
  · exact ⟨fun active => if_pos active, fun clear => ⟨outputLevel_aisle clear, outputLevel_stageWork clear, outputLevel_effect clear,
      fun group role h range => outputLevel_house clear role h range⟩⟩

end Sys2Proof.Machine
end

section
/-! SUPPORT. What is seen of the shared operations from outside: the entries they add to the report, the flags they raise, and
the origin queue they leave. -/

namespace Sys2Proof.Machine

variable {s t u : State} {changed : List Part} {flag : Flag}

/-! ## What a part that stays says of its fields -/

theorem profile_of_sameBut (same : sameBut changed s t = true) (h : Part.command ∉ changed) :
    t.command.profile = s.command.profile := by
  simpa only [CommandUnit.managing] using congrArg CommandUnit.profile (sameBut_command same h)

theorem node_of_sameBut (same : sameBut changed s t = true) (h : Part.receiver ∉ changed) : t.loop.node = s.loop.node := by
  simpa only [LoopPort.receiving] using congrArg LoopPort.node (sameBut_receiver same h)

theorem ring_of_sameBut (same : sameBut changed s t = true) (h : Part.receiver ∉ changed) :
    t.loop.ring = s.loop.ring ∧ t.loop.k7 = s.loop.k7 := by
  have loop := sameBut_receiver same h
  have ring (l : LoopPort) : l.receiving.ring = l.ring := rfl
  have k7 (l : LoopPort) : l.receiving.k7 = l.k7 := rfl
  exact ⟨by rw [← ring, loop, ring], by rw [← k7, loop, k7]⟩

theorem numbered_of_sameBut (same : sameBut changed s t = true) (h : Part.receiver ∉ changed) : t.numbered = s.numbered := by
  simp only [State.numbered, node_of_sameBut same h]

theorem isRaised_of_sameBut (same : sameBut changed s t = true) (h : Part.attention ∉ changed) :
    isRaised flag t = isRaised flag s := by
  have k := sameBut_iff.1 same _ h
  simp only [samePart, decide_eq_true_eq] at k
  simp only [isRaised, k.1]

theorem sender_of_sameBut (same : sameBut changed s t = true) (h : Part.sender ∉ changed) :
    t.loop.origin = s.loop.origin ∧ t.loop.sending = s.loop.sending := by
  have k := sameBut_iff.1 same _ h
  simp only [samePart, decide_eq_true_eq] at k
  exact ⟨k.2.1.symm, k.2.2.1.symm⟩

theorem lineReading_of_lines (h : t.lines = s.lines) (line : Nat) : lineReading t line = lineReading s line := by
  simp only [lineReading, h]

theorem report_of_sameBut (same : sameBut changed s t = true) (h : Part.report ∉ changed) : t.phase.report = s.phase.report :=
  sameBut_report same h

/-- Two records whose parts agree are one. -/
theorem phase_of_parts (same : sameBut changed s t = true) (record : Part.record ∉ changed) (report : Part.report ∉ changed) :
    t.phase = s.phase := by
  have r := sameBut_record same record
  have k := sameBut_iff.1 same _ report
  simp only [samePart, decide_eq_true_eq] at k
  have eta (p : PhaseUnit) : p = { p.record with report := p.report, lost := p.lost, fullMarker := p.fullMarker } := rfl
  rw [eta t.phase, r, ← k.1, ← k.2.1, ← k.2.2]
  rfl

/-! ## The entries added -/

/-- With room for them these entries, and no others, join the report. -/
def Adds (entries : List ReportEntry) (s t : State) : Prop :=
  s.phase.report.length + entries.length ≤ 128 → t.phase.report = s.phase.report ++ entries

theorem Adds.none (h : t.phase.report = s.phase.report) : Adds [] s t := fun _ => by rw [h, List.append_nil]

theorem adds_of_sameBut (same : sameBut changed s t = true) (h : Part.report ∉ changed) : Adds [] s t :=
  .none (sameBut_report same h)

theorem Adds.trans {first second : List ReportEntry} (h : Adds first s t) (k : Adds second t u) : Adds (first ++ second) s u := by
  intro room
  rw [List.length_append] at room
  have reached := h (by omega)
  rw [k (by rw [reached, List.length_append]; omega), reached, List.append_assoc]

theorem Adds.from {entries : List ReportEntry} (h : Adds entries t u) (same : t.phase.report = s.phase.report) : Adds entries s u := by
  intro room
  rw [h (by rwa [same]), same]

theorem Adds.to {entries : List ReportEntry} (h : Adds entries s t) (same : u.phase.report = t.phase.report) : Adds entries s u :=
  fun room => by rw [same, h room]

theorem Adds.report (kind : ReportKind) (data : List Byte) (s : State) :
    Adds [entryNow s kind data] s (report kind data s) := by
  intro room
  rw [report_room (n := 0) (by simpa [roomFor] using room)]
  rfl

/-- With room for the entries added, each of them is gained. -/
theorem Adds.gains {entries : List ReportEntry} {entry : ReportEntry} {n : Nat} (h : Adds entries s t) (mem : entry ∈ entries)
    (few : entries.length ≤ n) (room : roomFor n s = true) : gains entry s t = true := by
  simp only [roomFor, decide_eq_true_eq] at room
  have joined := h (by omega)
  simp only [Machine.gains, decide_eq_true_eq, joined, List.count_append]
  have := List.count_pos_iff.2 mem
  omega

theorem Adds.one {entry : ReportEntry} (h : Adds [entry] s t) (room : roomFor 1 s = true) :
    t.phase.report = s.phase.report ++ [entry] :=
  h (by simpa [roomFor] using room)

theorem Adds.gains_one {entry : ReportEntry} (h : Adds [entry] s t) (room : roomFor 1 s = true) : Machine.gains entry s t = true :=
  h.gains (by simp) (by simp) room

/-! ## The flags raised -/

@[simp] theorem isRaised_onLoop (f : LoopPort → LoopPort) (s : State) : isRaised flag (s.onLoop f) = isRaised flag s := rfl
@[simp] theorem isRaised_onLines (f : Vector Line 8 → Vector Line 8) (s : State) : isRaised flag (s.onLines f) = isRaised flag s := rfl
@[simp] theorem isRaised_onPhase (f : PhaseUnit → PhaseUnit) (s : State) : isRaised flag (s.onPhase f) = isRaised flag s := rfl
@[simp] theorem isRaised_onZones (f : ZoneMonitor → ZoneMonitor) (s : State) : isRaised flag (s.onZones f) = isRaised flag s := rfl
@[simp] theorem isRaised_onCurtain (f : Curtain → Curtain) (s : State) : isRaised flag (s.onCurtain f) = isRaised flag s := rfl
@[simp] theorem isRaised_onLights (f : HouseLights → HouseLights) (s : State) : isRaised flag (s.onLights f) = isRaised flag s := rfl
@[simp] theorem isRaised_onCalls (f : CallUnit → CallUnit) (s : State) : isRaised flag (s.onCalls f) = isRaised flag s := rfl

/-- Setting a flag raises it. -/
theorem isRaised_set (flag : Flag) (s : State) : isRaised flag (setAttention flag s) = true := by
  simp [isRaised_setAttention]

/-- An entry raises no flag but REPORT_FULL. -/
theorem isRaised_report (other : flag ≠ .reportFull) (kind : ReportKind) (data : List Byte) (s : State) :
    isRaised flag (report kind data s) = isRaised flag s := by
  have marked (t : State) : isRaised flag (markFull t) = isRaised flag t := by
    unfold markFull
    split
    · rfl
    · simp [isRaised_setAttention, other]
  unfold report appendEntry
  split
  · rfl
  · split <;> exact marked _

/-- An offered frame raises no flag but ORIGIN_OVERRUN. -/
theorem isRaised_offer (other : flag ≠ .originOverrun) (kind dest : Byte) (payload : List Byte) (urgent : Bool) (s : State) :
    isRaised flag (offer kind dest payload urgent s) = isRaised flag s := by
  have joined (f : OriginFrame) : isRaised flag (joinOrigin f s) = isRaised flag s := by
    unfold joinOrigin
    split_ifs <;> simp [isRaised_setAttention, other]
  unfold offer
  split
  · rw [isRaised_of_sameBut (arbitrate_frame _) (by decide), joined]
  · rfl

theorem isRaised_notice (other : flag ≠ .originOverrun) (urgent : Bool) (s : State) :
    isRaised flag (notice urgent s) = isRaised flag s := by
  rw [notice, isRaised_offer other, isRaised_reportAttention]

/-- A REPLY raises no flag but ORIGIN_OVERRUN. -/
theorem isRaised_replied (other : flag ≠ .originOverrun) (h : CommandHeader) (code : Byte) (answer : Answer) (s : State) :
    isRaised flag (replied h code answer s) = isRaised flag s :=
  isRaised_offer other _ _ _ _ s

/-! ## The origin queue -/

theorem quietQueue_iff : quietQueue s = true ↔ s.loop.sending.isSome = true ∧ s.loop.origin = [] := by
  simp [quietQueue]

/-- While a frame is being sent, a frame of another kind leaves the one that stands first. -/
theorem head_offer {q : OriginFrame} {kind : Byte} (sending : s.loop.sending.isSome = true) (alone : s.loop.origin = [q])
    (other : q.frame.kind ≠ kind) (dest : Byte) (payload : List Byte) (urgent : Bool) :
    (offer kind dest payload urgent s).loop.origin.head? = some q ∧
      ∀ r ∈ (offer kind dest payload urgent s).loop.origin, r = q ∨ r.frame.kind = kind := by
  unfold offer
  split
  · rw [joinOrigin, alone, if_neg (by simp [coalesces, Ne.symm other]), if_pos (by simp [Config.originCapacity]),
      arbitrate_sending (by simpa using sending)]
    simp [alone]
  · simp [alone]

end Sys2Proof.Machine
end

section
/-! SUPPORT. What is seen of the Curtain Supervisor's operations from outside: the curtain record, the performance record, the
entries, the flags and the DRIVE frame that each leaves. -/

namespace Sys2Proof.Machine

variable {s t : State} {flag : Flag}

/-! ## A change of state (R126) -/

/-- The CHANGE entry of a move (R126, R221). -/
def changeEntry (next : Move) (s : State) : ReportEntry :=
  entryNow s .curtain ([0, byte (curtainCode next.state next.cause), s.curtain.code, byte next.mode.code] ++ bytes2 s.curtain.position)

/-- What follows the record and the frame of a change: its entry, the flag, the NOTICE (R126). -/
def announceCurtain (previous : Byte) (s : State) : State :=
  notice true (curtainAttention (reportCurtain 0 s.curtain.code previous s.curtain.position s))

theorem changeCurtain_eq (next : Move) (s : State) :
    changeCurtain next s = announceCurtain s.curtain.code (offerStateDrive (s.onCurtain (moved next s))) := rfl

theorem announceCurtain_adds (previous : Byte) (s : State) :
    Adds [entryNow s .curtain ([0, s.curtain.code, previous, byte s.curtain.mode.code] ++ bytes2 s.curtain.position)] s
      (announceCurtain previous s) :=
  (Adds.report _ _ s).to (sameBut_report
    (sameBut_trans (sameBut_mono (b := offerParts) (curtainAttention_frame _) (by decide)) (notice_frame true _)) (by decide))

theorem changeCurtain_adds (next : Move) (s : State) : Adds [changeEntry next s] s (changeCurtain next s) := by
  have drive := offerStateDrive_frame (s.onCurtain (moved next s))
  have entry := announceCurtain_adds s.curtain.code (offerStateDrive (s.onCurtain (moved next s)))
  rw [entryNow, sameBut_curtain drive (by decide), sameBut_clock drive (by decide)] at entry
  rw [changeCurtain_eq]
  have report : (offerStateDrive (s.onCurtain (moved next s))).phase.report = (s.onCurtain (moved next s)).phase.report := sameBut_report drive (by decide)
  exact entry.from report

@[simp] theorem changeCurtain_record (next : Move) (s : State) : (changeCurtain next s).phase.record = s.phase.record :=
  sameBut_record (changeCurtain_frame next s) (by decide)

@[simp] theorem changeCurtain_profile (next : Move) (s : State) : (changeCurtain next s).command.profile = s.command.profile :=
  profile_of_sameBut (changeCurtain_frame next s) (by decide)

theorem isRaised_offerStateDrive (other : flag ≠ .originOverrun) (s : State) :
    isRaised flag (offerStateDrive s) = isRaised flag s := by
  have offered (command : DriveCommand) : isRaised flag (offerDrive command s) = isRaised flag s := by
    unfold offerDrive
    split
    · rfl
    · exact isRaised_offer other _ _ _ _ s
  unfold offerStateDrive
  split
  · rfl
  · split
    · rfl
    · exact offered _

/-- A change raises CURTAIN_FAULT at FAULT and RELEASED, and no flag of another block. -/
theorem isRaised_changeCurtain (report : flag ≠ .reportFull) (origin : flag ≠ .originOverrun) (next : Move) (s : State) :
    isRaised flag (changeCurtain next s) =
      (isRaised flag s || decide (flag = .curtainFault ∧ (next.state = .fault ∨ next.state = .released))) := by
  have state (t : State) (kind : ReportKind) (data : List Byte) : (Machine.report kind data t).curtain = t.curtain :=
    sameBut_curtain (report_frame _ _ t) (by decide)
  have drive := sameBut_curtain (offerStateDrive_frame (s.onCurtain (moved next s))) (by decide)
  have attention (t : State) (h : t.curtain.state = next.state) : isRaised flag (curtainAttention t) =
      (isRaised flag t || decide (flag = .curtainFault ∧ (next.state = .fault ∨ next.state = .released))) := by
    unfold curtainAttention
    rw [h]
    split
    · next faulty => simp [isRaised_setAttention, faulty]
    · next sound => simp [sound]
  rw [changeCurtain, isRaised_notice origin, attention _ (by rw [reportCurtain, state, drive]; rfl), reportCurtain,
    isRaised_report report, isRaised_offerStateDrive origin, isRaised_onCurtain]

/-- The DRIVE frame of a curtain record (R127). -/
def driveFrame (command : DriveCommand) (mode : Mode) (s : State) : OriginFrame :=
  queued s kindDrive (byte s.command.profile.driveNode) [command.code, byte mode.code] true

theorem driveFrame_kind (command : DriveCommand) (mode : Mode) (s : State) :
    (driveFrame command mode s).frame.kind = kindDrive := rfl

theorem offerStateDrive_quiet {command : DriveCommand} (drive : s.curtain.state.drive = some command)
    (free : s.curtain.flags.localControl = false) (numbered : s.numbered = true) (node : s.command.profile.driveNode ≠ 0)
    (quiet : quietQueue s = true) :
    offerStateDrive s = s.onLoop fun l => { l with origin := [driveFrame command s.curtain.mode s] } := by
  simp only [offerStateDrive, drive, free, offerDrive, if_neg node]
  exact offer_quiet numbered quiet _ _ _ _

/-- A NOTICE leaves the frame that stands alone in the queue first. -/
theorem announceCurtain_head {q : OriginFrame} (sending : s.loop.sending.isSome = true) (alone : s.loop.origin = [q])
    (other : q.frame.kind ≠ kindNotice) (previous : Byte) : (announceCurtain previous s).loop.origin.head? = some q := by
  have kept := sameBut_trans (sameBut_mono (b := [.report, .attention])
      (reportCurtain_frame 0 s.curtain.code previous s.curtain.position s) (by decide))
    (sameBut_trans (sameBut_mono (curtainAttention_frame _) (by decide)) (sameBut_mono (reportAttention_frame _) (by decide)))
  have sender := sender_of_sameBut kept (by decide)
  exact (head_offer (sender.2 ▸ sending) (sender.1.trans alone) other _ _ _).1

/-- Into a quiet queue the DRIVE frame goes first, and the NOTICE of the change after it (R126, R127). -/
theorem announceDrive_head {command : DriveCommand} (drive : s.curtain.state.drive = some command)
    (free : s.curtain.flags.localControl = false) (numbered : s.numbered = true) (node : s.command.profile.driveNode ≠ 0)
    (quiet : quietQueue s = true) (previous : Byte) :
    (announceCurtain previous (offerStateDrive s)).loop.origin.head? = some (driveFrame command s.curtain.mode s) := by
  rw [offerStateDrive_quiet drive free numbered node quiet]
  have other : (driveFrame command s.curtain.mode s).frame.kind ≠ kindNotice := by
    rw [driveFrame_kind]
    decide
  have sending := (quietQueue_iff.1 quiet).1
  refine announceCurtain_head ?_ ?_ ?_ _
  · exact sending
  · rfl
  · exact other

/-- Into a quiet queue a change offers the DRIVE frame of the new state first, and a NOTICE (R126, R127). -/
theorem changeCurtain_origin {next : Move} {command : DriveCommand} (drive : next.state.drive = some command)
    (free : s.curtain.flags.localControl = false) (numbered : s.numbered = true) (node : s.command.profile.driveNode ≠ 0)
    (quiet : quietQueue s = true) :
    (changeCurtain next s).loop.origin.head? = some (driveFrame command next.mode s) := by
  rw [changeCurtain_eq]
  exact announceDrive_head (s := s.onCurtain (moved next s)) drive free numbered node quiet s.curtain.code

/-! ## The demonstration's results (R166) -/

/-- The DEMO entry of a result (R166, R221). -/
def demoEntry (status : DemoStatus) (s : State) : ReportEntry :=
  entryNow s .demo ([byte status.code, optionByte (status.reason.map DemoReason.code)] ++ bytes2 s.phase.demoTime ++
    [s.curtain.sequence.markByte])

/-- The curtain record with the dwell timer stopped. -/
def Curtain.undwelled (c : Curtain) : Curtain := { c with sequence := { c.sequence with dwellTimer := none } }

section
variable (c : Curtain)
@[simp] theorem Curtain.undwelled_state : c.undwelled.state = c.state := rfl
@[simp] theorem Curtain.undwelled_mode : c.undwelled.mode = c.mode := rfl
@[simp] theorem Curtain.undwelled_cause : c.undwelled.cause = c.cause := rfl
@[simp] theorem Curtain.undwelled_pending : c.undwelled.pending = c.pending := rfl
@[simp] theorem Curtain.undwelled_k5 : c.undwelled.k5 = c.k5 := rfl
@[simp] theorem Curtain.undwelled_emergencyTimer : c.undwelled.emergencyTimer = c.emergencyTimer := rfl
@[simp] theorem Curtain.undwelled_dwellTimer : c.undwelled.sequence.dwellTimer = none := rfl
end

theorem recordDemo_adds (status : DemoStatus) (s : State) : Adds [demoEntry status s] s (recordDemo status s) := by
  refine (Adds.report .demo _ (setDemoStatus status (stopDwell s))).from (s := s) rfl |>.to ?_
  rfl

theorem recordDemo_curtain (status : DemoStatus) (s : State) : (recordDemo status s).curtain = s.curtain.undwelled :=
  sameBut_curtain (report_frame .demo _ (setDemoStatus status (stopDwell s))) (by decide)

theorem recordDemo_record (status : DemoStatus) (s : State) :
    (recordDemo status s).phase.record = { s.phase.record with demoStatus := status } :=
  sameBut_record (report_frame .demo _ (setDemoStatus status (stopDwell s))) (by decide)

theorem isRaised_recordDemo (report : flag ≠ .reportFull) (status : DemoStatus) (s : State) :
    isRaised flag (recordDemo status s) = (isRaised flag s || decide (flag = .demoResult)) := by
  rw [recordDemo, isRaised_setAttention, isRaised_report report]
  rfl

theorem failDemo_going {reason : DemoReason} (h : s.phase.demoStatus.inProgress = true) :
    failDemo reason s = recordDemo (.failed reason) s := if_pos h

/-- A failed demonstration stops its dwell timer and changes nothing else of the curtain record. -/
theorem failDemo_curtain (reason : DemoReason) (s : State) :
    (failDemo reason s).curtain = if s.phase.demoStatus.inProgress then s.curtain.undwelled else s.curtain := by
  unfold failDemo
  split
  · exact recordDemo_curtain _ s
  · rfl

theorem failDemo_record (reason : DemoReason) (s : State) :
    (failDemo reason s).phase.record =
      { s.phase.record with demoStatus := if s.phase.demoStatus.inProgress then .failed reason else s.phase.demoStatus } := by
  unfold failDemo
  split
  · exact recordDemo_record _ s
  · rfl

theorem failDemo_adds (reason : DemoReason) (s : State) :
    Adds (if s.phase.demoStatus.inProgress then [demoEntry (.failed reason) s] else []) s (failDemo reason s) := by
  unfold failDemo
  split
  · exact recordDemo_adds _ s
  · exact .none rfl

theorem isRaised_failDemo (report : flag ≠ .reportFull) (reason : DemoReason) (s : State) :
    isRaised flag (failDemo reason s) =
      (isRaised flag s || (decide (flag = .demoResult) && s.phase.demoStatus.inProgress)) := by
  unfold failDemo
  split
  · next going => rw [isRaised_recordDemo report, going, Bool.and_true]
  · next idle => simp [idle]

/-! ## The release (R145) -/

/-- The move into RELEASED. -/
def releaseMove (cause : Option FaultCause) : Move := { state := .released, cause := cause, mode := .emergency, pending := none }

/-- The state from which RELEASED is entered: the estimator seeded where it does not run, a descent start time present. -/
def releasing (s : State) : State :=
  (if s.curtain.estimator.running then s else seedEstimator s).onCurtain fun c =>
    { c with descentStart := some (c.descentStart.getD s.clock) }

theorem enterReleased_eq (cause : Option FaultCause) (s : State) :
    enterReleased cause s = changeCurtain (releaseMove cause) (releasing s) := by
  have clock : (if s.curtain.estimator.running then s else seedEstimator s).clock = s.clock := by split <;> rfl
  simp only [enterReleased, releasing, clock, releaseMove]

theorem releasing_frame (s : State) : sameBut [.curtain] s (releasing s) = true := by
  unfold releasing
  split
  · exact onCurtain_frame s _
  · exact sameBut_trans (onCurtain_frame s _) (onCurtain_frame _ _)

/-- The curtain record in RELEASED, whatever it was before. -/
theorem enterReleased_curtain (cause : Option FaultCause) (s : State) :
    (enterReleased cause s).curtain.state = .released ∧ (enterReleased cause s).curtain.mode = .emergency ∧
      (enterReleased cause s).curtain.cause = cause ∧ (enterReleased cause s).curtain.k5 = true ∧
      (enterReleased cause s).curtain.emergencyTimer = none := by
  rw [enterReleased_eq, changeCurtain_curtain]
  exact ⟨rfl, rfl, rfl, rfl, rfl⟩

theorem enterReleased_record (cause : Option FaultCause) (s : State) :
    (enterReleased cause s).phase.record = s.phase.record :=
  sameBut_record (enterReleased_frame cause s) (by decide)

/-- Where C1 does not read ACTIVE, a release ends in RELEASED. -/
theorem release_open {cause : Option FaultCause} (h : lineReading s 1 ≠ .active) :
    release cause s = failDemo .fault (enterReleased cause s) := by
  have lines := sameBut_lines (sameBut_trans (ironParts_le (enterReleased_frame cause s)) (failDemo_frame .fault _)) (by decide)
  rw [release, if_neg (by rwa [lineReading_of_lines lines])]

theorem release_released {cause : Option FaultCause} (h : lineReading s 1 ≠ .active) :
    (release cause s).curtain.state = .released ∧ (release cause s).curtain.mode = .emergency ∧
      (release cause s).curtain.cause = cause ∧ (release cause s).curtain.k5 = true ∧
      (release cause s).curtain.emergencyTimer = none := by
  rw [release_open h, failDemo_curtain]
  obtain ⟨state, mode, fault, relay, timer⟩ := enterReleased_curtain cause s
  split
  · simp [state, mode, fault, relay, timer]
  · exact ⟨state, mode, fault, relay, timer⟩

theorem isRaised_release {cause : Option FaultCause} (h : lineReading s 1 ≠ .active) :
    isRaised .curtainFault (release cause s) = true := by
  rw [release_open h, isRaised_failDemo (by decide), enterReleased_eq, isRaised_changeCurtain (by decide) (by decide)]
  simp [releaseMove]

/-- The ring opened, and the Curtain Supervisor told (R20, R146). -/
def ringOpened (s : State) : State :=
  ((setAttention .ringOpen s).onLoop fun l => { l with ring := .broken, ringTimer := none, k7 := false }).onCurtain
    fun c => { c with ring := .broken }

/-- Settles O12: the timer's change of the ring, and the telling of it by the release of R146. -/
theorem ringTimerOpensRing : Obligations.RingTimerOpensRing := by
  intro s powered ok overdue
  have row : exec .ringTimerExpiry s = .next (setRing .broken none (setAttention .ringOpen s)) := by
    have arm : exec .ringTimerExpiry s = whilePowered s ringExpiry := rfl
    rw [arm, whilePowered_of_powered powered, ringExpiry, if_pos ⟨ok, overdue⟩]
  have opened := sameBut_trans (changed := [.receiver, .curtain, .attention])
    (sameBut_mono (setAttention_frame .ringOpen s) (by decide))
    (sameBut_trans (u := ringOpened s)
      (by simp [sameBut, allParts, samePart, LoopPort.receiving]) (sameBut_mono (onCurtain_frame _ _) (by decide)))
  refine ⟨fun quiet => ⟨_, row, ?_⟩, fun alarm told floor released reading => ⟨_, row, ?_⟩⟩
  · have still : setRing .broken none (setAttention .ringOpen s) = ringOpened s := by
      rw [setRing, curtainToldRing]
      exact if_neg (by simp [quiet, setAttention])
    rw [still]
    exact ⟨opened, rfl, rfl, isRaised_set _ _⟩
  · have release : setRing .broken none (setAttention .ringOpen s) =
        Machine.release (if s.curtain.state = .fault then s.curtain.cause else none) (ringOpened s) := by
      rw [setRing, curtainToldRing]
      exact if_pos ⟨by simp [setAttention, told], rfl, alarm, floor, released⟩
    obtain ⟨state, mode, -, relay, -⟩ :=
      release_released (s := ringOpened s) (cause := if s.curtain.state = .fault then s.curtain.cause else none) reading
    have frame := release_frame (if s.curtain.state = .fault then s.curtain.cause else none) (ringOpened s)
    obtain ⟨ring, k7⟩ := ring_of_sameBut frame (by decide)
    rw [release]
    exact ⟨sameBut_trans (sameBut_mono opened (by decide)) (sameBut_mono frame (by decide)),
      ring, k7, state, mode, relay⟩

end Sys2Proof.Machine
end

section
/-! SUPPORT. The contact lines and the clock: what an acceptance's hand-off can change, the samples of one line, and the
obligations O13 and O14. -/

namespace Sys2Proof.Machine

variable {s t : State} {line : Nat} {l : Line} {x : LineState}

/-! ## The hand-off of an acceptance (R29, R33) -/

theorem movePanel_frame (new : ZoneState) (cause : ZoneCause) (s : State) : sameBut zoneParts s (movePanel new cause s) = true := by
  unfold movePanel
  dsimp only
  split
  · exact sameBut_refl _ s
  · exact sameBut_trans (sameBut_mono (onZones_frame s _) (by decide))
      (sameBut_trans (reportZone_frame _ _ _ _ _) (zoneFaultAttention_frame _ _ _))

theorem handC0_frame (reading : Reading) (s : State) : sameBut alarmParts s (handC0 reading s) = true :=
  zoneStep_frame _ (zoneParts_le (sameBut_trans (sameBut_mono (onZones_frame s _) (by decide))
    (sameBut_trans (movePanel_frame _ _ _) (confirmedFault_frame _ _ _ _ _ _))))

theorem limitFaulted_frame (cause : FaultCause) (s : State) : sameBut curtainParts s (limitFaulted cause s) = true := by
  unfold limitFaulted
  split
  · exact sameBut_refl _ s
  · exact faultCurtain_frame _ s

theorem floorReached_frame (s : State) : sameBut curtainParts s (floorReached s) = true := by
  unfold floorReached
  split
  case h_1 | h_2 => exact sameBut_trans (ironParts_le (arrive_frame s)) (judgeDescent_frame _)
  case h_3 | h_4 => exact moveCurtain_frame _ (fun t => sameBut_refl _ t) s
  case h_5 | h_6 => exact faultCurtain_frame _ s
  all_goals exact sameBut_refl _ s

theorem topReached_frame (s : State) : sameBut curtainParts s (topReached s) = true := by
  have passed (t : State) : sameBut curtainParts t (if t.phase.demoStatus = .raising then recordDemo .passed t else t) = true := by
    split
    · exact recordDemo_frame _ t
    · exact sameBut_refl _ t
  unfold topReached
  split
  case h_1 => exact moveCurtain_frame _ passed s
  case h_2 | h_3 => exact moveCurtain_frame _ (fun t => sameBut_refl _ t) s
  case h_4 | h_5 => exact faultCurtain_frame _ s
  all_goals exact sameBut_refl _ s

theorem handC1_frame (previous new : Reading) (s : State) : sameBut curtainParts s (handC1 previous new s) = true := by
  unfold handC1
  split
  case h_4 => exact floorReached_frame s
  case h_5 => exact limitFaulted_frame _ s
  case h_6 =>
    split
    · exact moveCurtain_frame _ (failDemo_frame _) s
    · exact sameBut_refl _ s
  all_goals exact sameBut_refl _ s

theorem handC2_frame (previous new : Reading) (s : State) : sameBut curtainParts s (handC2 previous new s) = true := by
  unfold handC2
  split
  case h_4 => exact topReached_frame s
  case h_5 => exact limitFaulted_frame _ s
  case h_6 =>
    split
    · exact moveCurtain_frame _ (fun t => sameBut_refl _ t) s
    · exact sameBut_refl _ s
  all_goals exact sameBut_refl _ s

theorem handC3_frame (previous new : Reading) (s : State) : sameBut curtainParts s (handC3 previous new s) = true := by
  have entry (event : Byte) (t : State) : sameBut curtainParts t (reportStanding event t.curtain.position t) = true :=
    sameBut_mono (reportStanding_frame _ _ t) (by decide)
  have stops (code : Byte) (t : State) : sameBut curtainParts t (edgeStops code t) = true :=
    sameBut_trans (sameBut_mono (reportCurtain_frame _ _ _ _ t) (by decide)) (failDemo_frame _ _)
  unfold handC3
  split
  · split
    · exact entry 2 s
    · exact moveCurtain_frame _ (stops _) s
  · exact sameBut_refl _ s

theorem handC7_frame (previous new : Reading) (s : State) : sameBut [.curtain] s (handC7 previous new s) = true := by
  unfold handC7
  split
  · exact onCurtain_frame s _
  · split
    · exact startFlow_frame s
    · exact sameBut_refl _ s

theorem changeShowStop_frame (value : Bool) (cause : PhaseCause) (s : State) :
    sameBut phaseParts s (changeShowStop value cause s) = true :=
  sameBut_trans (sameBut_mono (onPhase_frame s _) (by decide))
    (sameBut_trans (sameBut_mono (reportPhase_frame _ _ _ _) (by decide))
      (sameBut_trans (sameBut_mono (selection_frame _) (by decide)) (sameBut_mono (notice_frame _ _) (by decide))))

theorem setShowStop_frame (cause : PhaseCause) (s : State) : sameBut phaseParts s (setShowStop cause s).2 = true := by
  unfold setShowStop
  split
  · exact sameBut_refl _ s
  · split
    · exact sameBut_refl _ s
    · exact changeShowStop_frame _ _ s

theorem holdHouse_frame (cause : PhaseCause) (s : State) : sameBut alarmParts s (holdHouse cause s).2 = true := by
  unfold holdHouse
  split
  · exact changePhase_frame _ _ _ (fun t => sameBut_mono (reportHold_frame _ _ t) (by decide)) s
  · exact sameBut_refl _ s

theorem pendingDecrement_frame (s : State) : sameBut phaseParts s (pendingDecrement s) = true := by
  unfold pendingDecrement
  split
  · exact sameBut_trans (sameBut_mono (onPhase_frame s _) (by decide)) (sameBut_mono (announce_frame _ _ _) (by decide))
  · exact sameBut_refl _ s

theorem endHold_frame (s : State) : sameBut phaseParts s (endHold s) = true :=
  sameBut_trans (pendingDecrement_frame s)
    (sameBut_trans (sameBut_mono (onPhase_frame _ _) (by decide)) (sameBut_mono (reportHold_frame _ _ _) (by decide)))

theorem releaseHold_frame (cause : PhaseCause) (s : State) : sameBut alarmParts s (releaseHold cause s).2 = true := by
  unfold releaseHold
  split
  · exact changePhase_frame _ _ _ (fun t => sameBut_mono (endHold_frame t) (by decide)) s
  · exact sameBut_refl _ s

/-- The hand-off of an acceptance stays within the alarm's parts, whichever the line (R33). -/
theorem handOff_frame (line : Nat) (previous new : Reading) (s : State) : sameBut alarmParts s (handOff line previous new s) = true := by
  unfold handOff
  split
  · exact handC0_frame new s
  · exact curtainParts_le (handC1_frame _ _ s)
  · exact curtainParts_le (handC2_frame _ _ s)
  · exact curtainParts_le (handC3_frame _ _ s)
  · unfold handC5
    split
    · exact sameBut_mono (setShowStop_frame _ s) (by decide)
    · exact sameBut_refl _ s
  · unfold handC6
    split
    · exact holdHouse_frame _ s
    · split
      · exact releaseHold_frame _ s
      · exact sameBut_refl _ s
  · exact sameBut_mono (handC7_frame _ _ s) (by decide)
  · exact sameBut_refl _ s

/-- What precedes the hand-off: the line's record, its CONTACT entry and CONTACT_FAULT (R29). -/
def noteAcceptance (line : Nat) (l : Line) (new : LineState) (s : State) : State :=
  let entered := reportContact line (edgesOf s line) l.accepted new (setLine line (l.accept line (edgesOf s line) new s.clock) s)
  if faultState new then setAttention .contactFault entered else entered

theorem acceptState_eq (line : Nat) (l : Line) (new : LineState) (s : State) :
    acceptState line l new s =
      handOff line l.reading (readingOf line new l.reading) (noteAcceptance line l new s) := rfl

theorem noteAcceptance_after (line : Nat) (l : Line) (new : LineState) (s : State) :
    sameBut [.report, .attention] (setLine line (l.accept line (edgesOf s line) new s.clock) s) (noteAcceptance line l new s) = true := by
  have entered : sameBut [.report, .attention] (setLine line (l.accept line (edgesOf s line) new s.clock) s)
      (reportContact line (edgesOf s line) l.accepted new (setLine line (l.accept line (edgesOf s line) new s.clock) s)) = true := by
    unfold reportContact
    split
    · exact report_frame _ _ _
    · exact sameBut_refl _ _
  unfold noteAcceptance
  dsimp only
  split
  · exact sameBut_trans entered (sameBut_mono (setAttention_frame _ _) (by decide))
  · exact entered

/-- An acceptance leaves the clock, and of the lines changes the one it accepts. -/
theorem acceptState_lines (line : Nat) (l : Line) (new : LineState) (s : State) :
    (acceptState line l new s).lines = s.lines.setIfInBounds line (l.accept line (edgesOf s line) new s.clock) ∧
      (acceptState line l new s).clock = s.clock := by
  have after := noteAcceptance_after line l new s
  have handed := handOff_frame line l.reading (readingOf line new l.reading) (noteAcceptance line l new s)
  rw [acceptState_eq, sameBut_lines handed (by decide), sameBut_clock handed (by decide), sameBut_lines after (by decide),
    sameBut_clock after (by decide)]
  exact ⟨rfl, rfl⟩

/-! ## The samples of a line (R28) -/

theorem exec_contactSample (powered : s.powered = true) (line : Nat) (x : LineState) :
    exec (.contactSample line x) s = .next (takeSample line x s) := whilePowered_of_powered powered (takeSample line x)

theorem exec_contactAcceptance (powered : s.powered = true) (line : Nat) :
    exec (.contactAcceptance line) s = .next (acceptLine line s) := whilePowered_of_powered powered (acceptLine line)

theorem takeSample_waits (h : s.lines[line]? = some l) (waits : l.completes x (persistenceOf s line) = false) :
    takeSample line x s = setLine line (l.sampled x) s := by
  simp only [takeSample, h, waits]
  rfl

theorem takeSample_accepts (h : s.lines[line]? = some l) (completes : l.completes x (persistenceOf s line) = true) :
    takeSample line x s = acceptState line l x s := by
  simp only [takeSample, h, completes, if_pos]

/-- The candidate of a state other than the accepted one, after this many samples of it. -/
def Line.waiting (l : Line) (x : LineState) (n : Nat) : Line := { l with candidate := some x, count := n }

theorem sampled_other (other : x ≠ l.accepted) :
    l.sampled x = l.waiting x (if l.candidate = some x then l.count + 1 else 1) := if_neg other

theorem completes_iff (other : x ≠ l.accepted) (persistence : Nat) :
    l.completes x persistence = decide (persistence ≤ if l.candidate = some x then l.count + 1 else 1) := by
  rw [Line.completes, sampled_other other, decide_eq_true other, Bool.true_and]
  rfl

/-- A line's record, once set, is read back, and set again it is replaced. -/
theorem lines_setLine (h : s.lines[line]? = some l) (new : Line) : (setLine line new s).lines[line]? = some new := by
  obtain ⟨range, -⟩ := Vector.getElem?_eq_some_iff.1 h
  simp [setLine, range]

theorem setLine_setLine (first second : Line) (s : State) : setLine line second (setLine line first s) = setLine line second s := by
  simp [setLine, State.onLines]

/-- Fewer samples than the persistence leave the line waiting with their number. -/
theorem run_samples (powered : s.powered = true) (h : s.lines[line]? = some l) (other : x ≠ l.accepted) (fresh : l.candidate = none)
    {n : Nat} (some_ : 1 ≤ n) (few : n < persistenceOf s line) :
    run (List.replicate n (.contactSample line x)) s = some (setLine line (l.waiting x n) s) := by
  induction n, some_ using Nat.le_induction with
  | base =>
    have waits : l.completes x (persistenceOf s line) = false := by
      rw [completes_iff other, fresh]
      simpa using few
    rw [List.replicate_one, run_one (exec_contactSample powered line x), takeSample_waits h waits, sampled_other other, fresh]
    rfl
  | succ n some_ ih =>
    have waits : (l.waiting x n).completes x (persistenceOf s line) = false := by
      rw [completes_iff (l := l.waiting x n) other]
      simpa [Line.waiting] using few
    rw [List.replicate_succ', run_append, ih (by omega), Option.bind_some,
      run_one (exec_contactSample (s := setLine line (l.waiting x n) s) powered line x), takeSample_waits (lines_setLine h _) waits,
      sampled_other (l := l.waiting x n) other, setLine_setLine]
    simp [Line.waiting, run]

/-- The last of as many samples as the persistence accepts their state. -/
theorem run_persistence (powered : s.powered = true) (h : s.lines[line]? = some l) (other : x ≠ l.accepted)
    (fresh : l.candidate = none) (some_ : 1 ≤ persistenceOf s line) :
    ∃ u before, run (List.replicate (persistenceOf s line) (.contactSample line x)) s = some (acceptState line before x u) ∧
      u.lines.setIfInBounds line (before.accept line (edgesOf u line) x u.clock) =
        s.lines.setIfInBounds line (before.accept line (edgesOf u line) x u.clock) ∧ u.clock = s.clock := by
  obtain ⟨n, count⟩ := Nat.exists_eq_add_of_le' some_
  rcases Nat.eq_zero_or_pos n with rfl | positive
  · have completes : l.completes x (persistenceOf s line) = true := by simp [completes_iff other, fresh, count]
    refine ⟨s, l, ?_, rfl, rfl⟩
    rw [count, List.replicate_one, run_one (exec_contactSample powered line x), takeSample_accepts h completes]
    rfl
  · have completes : (l.waiting x n).completes x (persistenceOf s line) = true := by
      rw [completes_iff (l := l.waiting x n) other, count]
      simp [Line.waiting]
    refine ⟨setLine line (l.waiting x n) s, l.waiting x n, ?_, by simp [setLine], rfl⟩
    rw [count, List.replicate_succ', run_append, run_samples powered h other fresh positive (by omega), Option.bind_some,
      run_one (exec_contactSample (s := setLine line (l.waiting x n) s) powered line x), takeSample_accepts (lines_setLine h _) completes]
    rfl

/-- Settles O14, by the record of the line after each sample. -/
theorem samplesFilterByPersistence : Obligations.SamplesFilterByPersistence := by
  intro s line l x powered h
  refine ⟨fun candidate other enough => ?_, fun early => ?_, fun n other fresh some_ few _ => run_samples powered h other fresh some_ few,
    fun other fresh some_ _ => ?_, ?_, fun other changes long => ?_⟩
  · have completes : l.completes x (persistenceOf s line) = true := by simp [completes_iff other, candidate, enough]
    rw [exec_contactAcceptance powered, exec_contactSample powered, acceptLine, h]
    simp [candidate, completes]
  · rw [exec_contactAcceptance powered, acceptLine, h]
    cases candidate : l.candidate with
    | none => simp [candidate]
    | some y =>
      have short := early.resolve_left (by simp [candidate])
      have waits : l.completes y (persistenceOf s line) = false := by
        by_cases same : y = l.accepted
        · simp [Line.completes, same]
        · simpa [completes_iff same, candidate] using short
      simp [candidate, waits]
  · obtain ⟨u, before, ran, lines, clock⟩ := run_persistence powered h other fresh some_
    obtain ⟨after, still⟩ := acceptState_lines line before x u
    exact ⟨_, before.accept line (edgesOf u line) x u.clock, ran, after.trans lines, rfl, rfl, rfl, still.trans clock⟩
  · have waits : l.completes l.accepted (persistenceOf s line) = false := by simp [Line.completes]
    rw [exec_contactSample powered, takeSample_waits h waits, Line.sampled, if_pos rfl]
    rfl
  · have waits : l.completes x (persistenceOf s line) = false := by simp [completes_iff other, changes, long]
    rw [exec_contactSample powered, takeSample_waits h waits, sampled_other other, if_neg changes]
    rfl

/-! ## The clock (R23, R50, R51) -/

/-- A wrap's own clearing of the due mark, where the countdown of the phase does not run. -/
theorem prescalerWraps_idle (wrap : s.phase.wrapDue = true)
    (idle : ((s.phase.phase = .preshow ∨ s.phase.phase = .houseOpen) ∧ s.phase.curtainUp = 0) ∨
      (s.phase.phase = .interval ∧ s.phase.intervalLeft = 0) ∨ s.phase.phase = .closed ∨ s.phase.phase = .running ∨
      s.phase.phase = .egress ∨ s.phase.phase = .evacuating) :
    prescalerWraps s = s.onPhase fun p => { p with wrapDue := false } := by
  have acts : wrapActs (s.onPhase fun p => { p with wrapDue := false }) = s.onPhase fun p => { p with wrapDue := false } := by
    unfold wrapActs
    rw [State.onPhase_phase]
    obtain ⟨phase | phase, zero⟩ | ⟨phase, zero⟩ | phase | phase | phase | phase := idle <;> simp [phase]
    · exact fun positive => absurd positive (by omega)
    · exact fun positive => absurd positive (by omega)
    · exact fun positive => absurd positive (by omega)
  rw [prescalerWraps, if_pos wrap, acts]

/-- Settles O13, by the equations of a wrap. -/
theorem clockCountsDown : Obligations.ClockCountsDown := by
  refine ⟨fun s powered => ?_, fun s powered wrap => ⟨fun phase positive => ?_, fun phase positive => ?_, fun phase => ?_⟩,
    fun s powered wrap idle => ?_⟩
  · have arm : exec .showClockAdvance s = whilePowered s advanceClock := rfl
    rw [arm, whilePowered_of_powered powered]
    rfl
  · refine ⟨_, exec_prescalerWrap powered, prescalerWraps_frame s, ?_⟩
    rw [prescalerWraps_curtainUp wrap phase rfl positive]
    exact ⟨announce_record _ _ _, fun id e he scheduled offset => fired_announce he scheduled offset⟩
  · refine ⟨_, exec_prescalerWrap powered, prescalerWraps_frame s, ?_⟩
    rw [prescalerWraps_interval wrap phase rfl positive]
    exact ⟨announce_record _ _ _, fun id e he scheduled offset => fired_announce he scheduled offset⟩
  · rw [exec_prescalerWrap powered, prescalerWraps_held wrap phase]
  · rw [exec_prescalerWrap powered, prescalerWraps_idle wrap idle]

end Sys2Proof.Machine
end

section
/-! SUPPORT. The house groups, the silence of a channel and the refresh check, and the obligations O17 to O20. -/

namespace Sys2Proof.Machine

variable {s t : State}

/-! ## What a command in progress leaves -/

section
variable (code : Byte) (h : CommandHeader) (s : State)
@[simp] theorem begin_loop : (begin code h s).loop = s.loop := rfl
@[simp] theorem begin_lines : (begin code h s).lines = s.lines := rfl
@[simp] theorem begin_lights : (begin code h s).lights = s.lights := rfl
@[simp] theorem begin_zones : (begin code h s).zones = s.zones := rfl
@[simp] theorem begin_curtain : (begin code h s).curtain = s.curtain := rfl
@[simp] theorem begin_bells : (begin code h s).bells = s.bells := rfl
@[simp] theorem begin_clock : (begin code h s).clock = s.clock := rfl
@[simp] theorem begin_profile : (begin code h s).command.profile = s.command.profile := rfl
@[simp] theorem groupEntries_begin (g : Nat) : groupEntries (begin code h s) g = groupEntries s g := rfl
end

/-! ## HFAD and the fade steps (R82, R83) -/

section
variable {g level time : Nat} {group : Group}

theorem houseFade_console (h : s.lights.groups[g]? = some group) (short : time ≤ 36000) (console : group.owner = .console) :
    houseFade g level time s = (.refusedState, s) := by
  simp [houseFade, h, Nat.not_lt.2 short, console]

theorem houseFade_long (h : s.lights.groups[g]? = some group) (long : 36000 < time) :
    houseFade g level time s = (.refusedRange, s) := by
  simp [houseFade, h, long]

theorem houseFade_part (h : s.lights.groups[g]? = some group) (short : time ≤ 36000) (part : group.owner = .part) :
    houseFade g level time s = (.done, setGroup g
      (if time = 0 then { group with level := level, fade := none, stepTimer := none }
      else
        { group with
          fade := some { start := group.level, target := level, steps := 4 * time, index := 0 }
          stepTimer := some { start := s.clock, length := 25 } }) s) := by
  simp only [houseFade, h, if_neg (Nat.not_lt.2 short), part, reduceCtorEq, if_false]
  split <;> rfl

theorem fadeStep_due {fade : Fade} (h : s.lights.groups[g]? = some group) (fading : group.fade = some fade)
    (overdue : due group.stepTimer s.clock = true) :
    fadeStep g s = setGroup g
      (if fade.index + 1 < fade.steps then
        { group with
          level := fade.levelAt (fade.index + 1)
          fade := some { fade with index := fade.index + 1 }
          stepTimer := some { start := s.clock, length := 25 } }
      else { group with level := fade.target, fade := none, stepTimer := none }) s := by
  simp only [fadeStep, h, fading, overdue, if_pos]
  split <;> rfl

end

/-- Settles O19, by the equations of `houseFade` and `fadeStep`. -/
theorem fadesMoveGroupLevel : Obligations.FadesMoveGroupLevel := by
  refine ⟨fun h s g group level time a at_ => ⟨fun console short => ?_, fun long => ?_, fun part short => ?_⟩,
    fun s g group fade powered at_ fading overdue => ?_⟩
  · exact onlyReplies_simple rfl a (houseFade_console at_ short console)
  · exact onlyReplies_simple rfl a (houseFade_long at_ long)
  · refine replies_simple rfl a (houseFade_part (s := begin 0x38 h s) at_ short part) ?_
    have instant : time.toNat = 0 ↔ time = 0 := by simp [BitVec.toNat_eq]
    simp only [begin_clock, instant]
    rfl
  · have row : exec (.fadeStep g) s = .next (fadeStep g s) := whilePowered_of_powered powered (fadeStep g)
    rw [row, fadeStep_due at_ fading overdue]
    rfl

/-! ## HREL and HTAK (R84, R85) -/

/-- Settles O20, by the cases of `releaseGroup` and `takeGroup`. -/
theorem groupsChangeOwner : Obligations.GroupsChangeOwner := by
  refine fun h s g a => ⟨fun above => ?_, fun group at_ => ⟨fun console => ?_, fun part => ?_, fun part some_ silent => ?_,
    fun part speaks => ?_, fun console => ?_⟩⟩
  · have outside : s.lights.groups[g.toNat]? = none := by simp; omega
    exact ⟨onlyReplies_simple rfl a (by simp [releaseGroup, outside]), onlyReplies_simple rfl a (by simp [takeGroup, outside])⟩
  · exact onlyReplies_simple rfl a (by simp [releaseGroup, at_, console])
  · exact onlyReplies_simple rfl a (by simp [takeGroup, at_, part])
  · refine onlyReplies_simple rfl a ?_
    simp only [releaseGroup, begin_lights, at_, part, reduceCtorEq, if_false, groupEntries_begin]
    exact if_pos ⟨some_, silent⟩
  · have free : ¬ (groupEntries s g.toNat ≠ [] ∧ (groupEntries s g.toNat).all PolicyEntry.silent = true) := by
      rintro ⟨some_, silent⟩
      obtain none_ | speaking := speaks
      · exact some_ none_
      · rw [List.any_eq_not_all_not] at speaking
        simp [silent] at speaking
    refine replies_simple rfl a (u := setGroup g.toNat { group with owner := .console, fade := none, stepTimer := none } (begin 0x39 h s))
      ?_ rfl
    simp only [releaseGroup, begin_lights, at_, part, reduceCtorEq, if_false, groupEntries_begin]
    exact if_neg free
  · refine replies_simple rfl a (u := setGroup g.toNat
      { level := takenLevel s g.toNat, owner := .part, fade := none, stepTimer := none } (begin 0x3A h s)) ?_ rfl
    simp only [takeGroup, begin_lights, at_, console]
    rfl

/-! ## Silence (R80, R86) -/

/-- The policy with one channel silent. -/
def silenced (segment channel : Nat) (s : State) : State :=
  s.onLights fun l =>
    { l with policy := l.policy.map fun e => if e.defn.hasKey segment channel then { e with silence := none } else e }

/-- Silence changes neither a group's members nor their last console levels. -/
theorem groupEntries_silenced (segment channel g : Nat) (s : State) :
    groupEntries (silenced segment channel s) g =
      (groupEntries s g).map fun e => if e.defn.hasKey segment channel then { e with silence := none } else e := by
  simp only [groupEntries, silenced, State.onLights_lights, List.filter_map]
  congr 2
  funext e
  simp only [Function.comp_apply]
  split <;> rfl

theorem takenLevel_silenced (segment channel g : Nat) (s : State) :
    takenLevel (silenced segment channel s) g = takenLevel s g := by
  rw [takenLevel, groupEntries_silenced, List.map_map, takenLevel]
  congr 3
  funext e
  simp only [Function.comp_apply]
  split <;> rfl

theorem findPolicy_mem {segment channel : Nat} {e : PolicyEntry} (h : findPolicy s segment channel = some e) :
    e ∈ s.lights.policy := List.mem_of_find?_eq_some h

theorem silenceExpiry_due {segment channel : Nat} {e : PolicyEntry} (h : findPolicy s segment channel = some e)
    (overdue : due e.silence s.clock = true) :
    silenceExpiry segment channel s =
      if e.defn.role = .house then takeBackCheck e.defn.group.toNat (silenced segment channel s) else silenced segment channel s := by
  simp only [silenceExpiry, h, if_pos overdue]
  rfl

theorem takeBackCheck_taken {g : Nat} {group : Group} (h : s.lights.groups[g]? = some group) (console : group.owner = .console)
    (some_ : groupEntries s g ≠ []) (silent : (groupEntries s g).all PolicyEntry.silent = true) :
    takeBackCheck g s = setAttention .consoleSilent
      (setGroup g { level := takenLevel s g, owner := .part, fade := none, stepTimer := none } s) := by
  simp only [takeBackCheck, h, if_pos (And.intro console (And.intro some_ silent))]

theorem takeBackCheck_kept {g : Nat} {group : Group} (h : s.lights.groups[g]? = some group)
    (kept : group.owner = .part ∨ (groupEntries s g).any (fun e => !e.silent) = true) : takeBackCheck g s = s := by
  simp only [takeBackCheck, h]
  refine if_neg ?_
  rintro ⟨console, -, silent⟩
  obtain part | speaks := kept
  · rw [part] at console
    exact Owner.noConfusion console
  · rw [List.any_eq_not_all_not] at speaks
    simp [silent] at speaks

/-- Settles O18: the take-back check sees the silenced channel's group, with its members and their last levels. -/
theorem silenceExpiryTakesGroupBack : Obligations.SilenceExpiryTakesGroupBack := by
  intro s segment channel e powered found overdue
  have row : exec (.silenceTimerExpiry segment channel) s = .next (silenceExpiry segment channel s) :=
    whilePowered_of_powered powered (silenceExpiry segment channel)
  refine ⟨fun other => ?_, fun group house at_ => ⟨fun kept => ?_, fun console silent => ?_⟩⟩
  · rw [row, silenceExpiry_due found overdue, if_neg other]
    rfl
  · rw [row, silenceExpiry_due found overdue, if_pos house, takeBackCheck_kept (s := silenced segment channel s) at_ kept]
    rfl
  · have member : e ∈ groupEntries s e.defn.group.toNat :=
      List.mem_filter.2 ⟨findPolicy_mem found, by simp [PolicyDef.inGroup, house]⟩
    have some_ : groupEntries (silenced segment channel s) e.defn.group.toNat ≠ [] := by
      rw [groupEntries_silenced]
      exact fun none_ => List.ne_nil_of_mem member (List.map_eq_nil_iff.1 none_)
    rw [answers, row, silenceExpiry_due found overdue, if_pos house,
      takeBackCheck_taken (s := silenced segment channel s) at_ console some_ silent, takenLevel_silenced]
    refine ⟨_, rfl, ?_, rfl, isRaised_set _ _, rfl⟩
    refine sameBut_trans ?_ (sameBut_mono (setAttention_frame _ _) (by decide))
    have outputs : (silenced segment channel s).lights.policy.map PolicyEntry.lastOutput = s.lights.policy.map PolicyEntry.lastOutput := by
      simp only [silenced, State.onLights_lights, List.map_map]
      refine List.map_congr_left fun d _ => ?_
      simp only [Function.comp_apply]
      split <;> rfl
    simp [sameBut, allParts, samePart, setGroup, outputs]
    simp [silenced]

/-! ## The refresh check (R92, R93) -/

/-- The refresh frame of a segment that has due channels. -/
def refreshFrame (s : State) (segment : Nat) : Option OriginFrame :=
  match s.lights.policy.filter fun e => decide (e.defn.segment = segment) && refreshDue s e with
  | [] => none
  | entries => some (queued s kindLevel allNodes (refreshPayload s segment entries) (overrideActive s))

theorem refreshFrame_frame {segment : Nat} {q : OriginFrame} (h : refreshFrame s segment = some q) :
    ∃ entries, q.frame = (queued s kindLevel allNodes (refreshPayload s segment entries) (overrideActive s)).frame := by
  unfold refreshFrame at h
  split at h
  · exact absurd h (by simp)
  · exact ⟨_, congrArg OriginFrame.frame (Option.some.inj h).symm⟩

/-- While a frame is being sent, a frame that coalesces with none joins the queue at its tail. -/
theorem offer_joins {kind dest : Byte} {payload : List Byte} {urgent : Bool} (numbered : s.numbered = true)
    (sending : s.loop.sending.isSome = true) (room : s.loop.origin.length < 16)
    (apart : ∀ q ∈ s.loop.origin, coalesces (queued s kind dest payload urgent).frame q.frame = false) :
    offer kind dest payload urgent s =
      s.onLoop fun l => { l with origin := l.origin ++ [queued s kind dest payload urgent] } := by
  have none_ : (s.loop.origin.any fun q => coalesces (queued s kind dest payload urgent).frame q.frame) = false := by
    simpa using apart
  have joined : joinOrigin (queued s kind dest payload urgent) s =
      s.onLoop fun l => { l with origin := l.origin ++ [queued s kind dest payload urgent] } := by
    rw [joinOrigin, if_neg (by simp [none_]), if_pos (by simpa [Config.originCapacity] using room)]
  have offered : offer kind dest payload urgent s = arbitrate (joinOrigin (queued s kind dest payload urgent) s) := if_pos numbered
  rw [offered, joined, arbitrate_sending (by simpa using sending)]

/-- A segment without due channels offers nothing; any other offers its refresh frame. -/
theorem refreshSegment_cases (segment : Nat) (s : State) :
    (refreshFrame s segment = none ∧ refreshSegment segment s = s) ∨
      ∃ payload urgent, refreshFrame s segment = some (queued s kindLevel allNodes payload urgent) ∧
        refreshSegment segment s = offer kindLevel allNodes payload urgent s := by
  unfold refreshFrame refreshSegment
  cases s.lights.policy.filter fun e => decide (e.defn.segment = segment) && refreshDue s e with
  | nil => exact .inl ⟨rfl, rfl⟩
  | cons e rest => exact .inr ⟨_, _, rfl, rfl⟩

theorem refreshSegment_joins {segment : Nat} (numbered : s.numbered = true) (sending : s.loop.sending.isSome = true)
    (room : s.loop.origin.length < 16)
    (apart : ∀ q ∈ s.loop.origin, ∀ p, refreshFrame s segment = some p → coalesces p.frame q.frame = false) :
    refreshSegment segment s = s.onLoop fun l => { l with origin := l.origin ++ (refreshFrame s segment).toList } := by
  obtain ⟨none_, still⟩ | ⟨payload, urgent, some_, offers⟩ := refreshSegment_cases segment s
  · rw [still, none_]
    simp [State.onLoop]
  · rw [offers, some_, offer_joins numbered sending room fun q hq => apart q hq _ some_]
    rfl

theorem levelSegment_refresh {segment : Nat} (range : segment < 4) (entries : List PolicyEntry) :
    levelSegment (refreshPayload s segment entries) = some segment := by
  simp only [refreshPayload, levelSegment, List.head?_cons, Option.map_some, byte, BitVec.toNat_ofNat]
  congr 1
  omega

/-- Refresh frames of different segments do not coalesce. -/
theorem refreshFrames_apart {m n : Nat} {p q : OriginFrame} (hm : m < 4) (hn : n < 4) (apart : m ≠ n)
    (hp : refreshFrame s m = some p) (hq : refreshFrame s n = some q) : coalesces p.frame q.frame = false := by
  obtain ⟨a, ha⟩ := refreshFrame_frame hp
  obtain ⟨b, hb⟩ := refreshFrame_frame hq
  simp [coalesces, ha, hb, queued, levelSegment_refresh, hm, hn, apart]

theorem forEach_refresh (numbered : s.numbered = true) (quiet : quietQueue s = true) {n : Nat} (few : n ≤ 4) :
    forEach (List.range n) refreshSegment s =
      s.onLoop fun l => { l with origin := (List.range n).filterMap (refreshFrame s) } := by
  obtain ⟨sending, empty⟩ := quietQueue_iff.1 quiet
  induction n with
  | zero => simp [State.onLoop, ← empty]
  | succ n ih =>
    have split_ : forEach (List.range (n + 1)) refreshSegment s = refreshSegment n (forEach (List.range n) refreshSegment s) := by
      simp [forEach, List.range_succ]
    have frames (l : List OriginFrame) (m : Nat) :
        refreshFrame (s.onLoop fun lp => { lp with origin := l }) m = refreshFrame s m := rfl
    rw [split_, ih (by omega), refreshSegment_joins (by exact numbered) (by exact sending)]
    · have last : [n].filterMap (refreshFrame s) = (refreshFrame s n).toList := by
        rw [List.filterMap_cons]
        cases refreshFrame s n <;> rfl
      rw [frames, List.range_succ, List.filterMap_append, last, State.onLoop_onLoop]
      rfl
    · have := List.length_filterMap_le (refreshFrame s) (List.range n)
      simp only [State.onLoop_loop]
      rw [List.length_range] at this
      omega
    · intro q hq p hp
      obtain ⟨m, hm, made⟩ := List.mem_filterMap.1 hq
      rw [List.mem_range] at hm
      exact refreshFrames_apart (by omega) (by omega) (by omega) hp made

/-- Settles O17: the frames of the four segments join a quiet queue one after the other. -/
theorem refreshCheckOffersDueChannels : Obligations.RefreshCheckOffersDueChannels := by
  unfold Obligations.RefreshCheckOffersDueChannels
  intro s powered expired dueOf restarted
  have row : exec .refreshCheck s = .next (forEach (List.range 4) refreshSegment restarted) := by
    have arm : exec .refreshCheck s = whilePowered s refreshCheck := rfl
    rw [arm, whilePowered_of_powered powered, refreshCheck, if_pos expired]
  refine ⟨fun idle => ?_, fun numbered quiet => ?_⟩
  · rw [row]
    refine congrArg _ (forEach_induction (fun t => t = restarted) refreshSegment _ _ (fun segment mem t ht => ?_) rfl)
    subst ht
    have none_ : (restarted.lights.policy.filter fun e => decide (e.defn.segment = segment) && refreshDue restarted e) = [] :=
      idle segment (List.mem_range.1 mem)
    simp only [refreshSegment, none_]
  · rw [row, forEach_refresh (s := restarted) numbered quiet le_rfl]
    rfl

end Sys2Proof.Machine
end

section
/-! SUPPORT. The generators and the player: what a list of generators set alike leaves, the run of a pattern, the frames of the
stations, a sounding's end and beginning, and the obligations O34 to O37. -/

namespace Sys2Proof.Machine

variable {s t : State}

/-! ## Generators set alike -/

/-- The generators with each of these set to one record. -/
def setAll (bells : List Nat) (g : Generator) (generators : Vector Generator 4) : Vector Generator 4 :=
  bells.foldl (fun v b => v.setIfInBounds b g) generators

theorem setAll_getElem? (bells : List Nat) (g : Generator) (generators : Vector Generator 4) {b : Nat} (range : b < 4) :
    (setAll bells g generators)[b]? = if b ∈ bells then some g else generators[b]? := by
  induction bells generalizing generators with
  | nil => rfl
  | cons a rest ih =>
    rw [setAll, List.foldl_cons, ← setAll, ih]
    by_cases later : b ∈ rest
    · simp [later]
    · by_cases first : a = b
      · subst first
        simp [range]
      · simp [later, first, Ne.symm first]

theorem setAll_other {bells : List Nat} {b : Nat} (other : b ∉ bells) (g : Generator) (generators : Vector Generator 4) :
    (setAll bells g generators)[b]? = generators[b]? := by
  by_cases range : b < 4
  · rw [setAll_getElem? _ _ _ range, if_neg other]
  · rw [Vector.getElem?_eq_none (by omega), Vector.getElem?_eq_none (by omega)]

/-- Generators set one after the other to the same record are set together. -/
theorem forEach_generators {f : Nat → State → State} {g : Generator} (h : ∀ b t, t.clock = s.clock → f b t = setGenerator b g t)
    (bells : List Nat) : forEach bells f s = s.onBells fun u => { u with generators := setAll bells g u.generators } := by
  suffices all : ∀ t, t.clock = s.clock →
      forEach bells f t = t.onBells fun u => { u with generators := setAll bells g u.generators } from all s rfl
  induction bells with
  | nil => exact fun t _ => rfl
  | cons b rest ih => exact fun t clock => by rw [forEach_cons, h b t clock, ih (setGenerator b g t) clock]; rfl

theorem stopRoutes_eq (copy : StartCopy) (s : State) :
    stopRoutes copy s = s.onBells fun u => { u with generators := setAll copy.bells .initial u.generators } :=
  forEach_generators (fun _ _ _ => rfl) copy.bells

theorem ringing_of_clock (clock : t.clock = s.clock) (latched : Latched) (r k : Nat) : ringing latched r k t = ringing latched r k s := by
  simp only [ringing, State.timerOf_eq, clock]

theorem startGenerators_eq (number : Nat) (p : Pattern) (bells : List Nat) (s : State) :
    forEach bells (startGenerator number p) s = s.onBells fun u =>
      { u with generators := setAll bells (ringing { number := number, pattern := p } 1 1 s) u.generators } :=
  forEach_generators (fun b t clock => by rw [startGenerator, ringing_of_clock clock]) bells

/-! ## A pattern's run (R193, R195, R196) -/

section Run
variable {latched : Latched} {r k fuel : Nat}

theorem ringTimes_ringing (latched : Latched) (r k fuel : Nat) (s : State) :
    ringTimes s latched (fuel + 1) (ringing latched r k s) =
      (latched.pattern.ring * 10 + (ringTimes s latched fuel (nextSegment (ringing latched r k s) latched s)).1,
        latched.pattern.ring * 10 + (ringTimes s latched fuel (nextSegment (ringing latched r k s) latched s)).2) := rfl

/-- Between two strokes of a burst: the ring, the gap, and the next stroke. -/
theorem ringTimes_stroke (h : r < latched.pattern.rings) :
    ringTimes s latched (fuel + 2) (ringing latched r k s) =
      (latched.pattern.ring * 10 + (latched.pattern.gap * 10 + (ringTimes s latched fuel (ringing latched (r + 1) k s)).1),
        latched.pattern.ring * 10 + (ringTimes s latched fuel (ringing latched (r + 1) k s)).2) := by
  have gap : nextSegment (ringing latched r k s) latched s =
      { ringing latched r k s with state := .gap, timer := some (s.timerOf (latched.pattern.gap * 10)), relay := false } := if_pos h
  rw [ringTimes_ringing, gap]
  simp [ringTimes, nextSegment, ringing]

/-- Between two bursts: the last ring, the burst gap if there is one, and the first stroke of the next. -/
theorem ringTimes_burst (last : latched.pattern.rings ≤ r) (h : k < latched.pattern.bursts) (gap : 0 < latched.pattern.burstGap) :
    ringTimes s latched (fuel + 2) (ringing latched r k s) =
      (latched.pattern.ring * 10 + (latched.pattern.burstGap * 100 + (ringTimes s latched fuel (ringing latched 1 (k + 1) s)).1),
        latched.pattern.ring * 10 + (ringTimes s latched fuel (ringing latched 1 (k + 1) s)).2) := by
  have pause : nextSegment (ringing latched r k s) latched s =
      { ringing latched r k s with
        state := .burstGap, timer := some (s.timerOf (latched.pattern.burstGap * 100)), relay := false } :=
    (if_neg (Nat.not_lt.2 last)).trans ((if_pos h).trans (if_pos gap))
  rw [ringTimes_ringing, pause]
  simp [ringTimes, nextSegment, ringing]

theorem ringTimes_burst_close (last : latched.pattern.rings ≤ r) (h : k < latched.pattern.bursts) (close : latched.pattern.burstGap = 0) :
    ringTimes s latched (fuel + 1) (ringing latched r k s) =
      (latched.pattern.ring * 10 + (ringTimes s latched fuel (ringing latched 1 (k + 1) s)).1,
        latched.pattern.ring * 10 + (ringTimes s latched fuel (ringing latched 1 (k + 1) s)).2) := by
  have next : nextSegment (ringing latched r k s) latched s = ringing latched 1 (k + 1) s :=
    (if_neg (Nat.not_lt.2 last)).trans ((if_pos h).trans (if_neg (by omega)))
  rw [ringTimes_ringing, next]

theorem ringTimes_initial (latched : Latched) (fuel : Nat) (s : State) : ringTimes s latched fuel .initial = (0, 0) := by
  cases fuel <;> rfl

/-- The last ring of the last burst. -/
theorem ringTimes_last (last : latched.pattern.rings ≤ r) (h : latched.pattern.bursts ≤ k) :
    ringTimes s latched (fuel + 1) (ringing latched r k s) = (latched.pattern.ring * 10, latched.pattern.ring * 10) := by
  have next : nextSegment (ringing latched r k s) latched s = .initial :=
    (if_neg (Nat.not_lt.2 last)).trans (if_neg (Nat.not_lt.2 h))
  rw [ringTimes_ringing, next, ringTimes_initial]
  rfl

/-- The milliseconds of one burst. -/
def Pattern.burstTime (p : Pattern) : Nat := p.rings * (p.ring * 10) + (p.rings - 1) * (p.gap * 10)

/-- The run from a stroke: the rest of its burst, and the bursts after it, each with its gap before it. -/
theorem ringTimes_from (fuel : Nat) : ∀ d e r k : Nat, r + d = latched.pattern.rings → k + e = latched.pattern.bursts → 1 ≤ r →
    2 * d + 1 + e * (2 * latched.pattern.rings) ≤ fuel →
    ringTimes s latched fuel (ringing latched r k s) =
      (d * (latched.pattern.ring * 10 + latched.pattern.gap * 10) + latched.pattern.ring * 10 +
          e * (latched.pattern.burstTime + latched.pattern.burstGap * 100),
        (d + 1) * (latched.pattern.ring * 10) + e * (latched.pattern.rings * (latched.pattern.ring * 10))) := by
  induction fuel using Nat.strong_induction_on with
  | _ fuel ih =>
    intro d e r k strokes bursts first enough
    have burst (m : Nat) (h : latched.pattern.rings = m + 1) : latched.pattern.burstTime =
        m * (latched.pattern.ring * 10 + latched.pattern.gap * 10) + latched.pattern.ring * 10 := by
      rw [Pattern.burstTime, h, Nat.add_sub_cancel]
      ring
    cases d with
    | succ d =>
      obtain ⟨fuel, rfl⟩ : ∃ f, fuel = f + 2 := ⟨fuel - 2, by omega⟩
      rw [ringTimes_stroke (by omega), ih fuel (by omega) d e (r + 1) k (by omega) bursts (by omega) (by omega)]
      exact Prod.ext (by ring) (by ring)
    | zero =>
      cases e with
      | zero =>
        obtain ⟨fuel, rfl⟩ : ∃ f, fuel = f + 1 := ⟨fuel - 1, by omega⟩
        rw [ringTimes_last (by omega) (by omega)]
        simp
      | succ e =>
        obtain ⟨m, rings⟩ : ∃ m, latched.pattern.rings = m + 1 := ⟨latched.pattern.rings - 1, by omega⟩
        have count : (e + 1) * (2 * latched.pattern.rings) = e * (2 * latched.pattern.rings) + 2 * latched.pattern.rings := by ring
        rcases Nat.eq_zero_or_pos latched.pattern.burstGap with close | gap
        · obtain ⟨fuel, rfl⟩ : ∃ f, fuel = f + 1 := ⟨fuel - 1, by omega⟩
          rw [ringTimes_burst_close (by omega) (by omega) close,
            ih fuel (by omega) m e 1 (k + 1) (by omega) (by omega) le_rfl (by omega), burst m rings, close, rings]
          exact Prod.ext (by ring) (by ring)
        · obtain ⟨fuel, rfl⟩ : ∃ f, fuel = f + 2 := ⟨fuel - 2, by omega⟩
          rw [ringTimes_burst (by omega) (by omega) gap,
            ih fuel (by omega) m e 1 (k + 1) (by omega) (by omega) le_rfl (by omega), burst m rings, rings]
          exact Prod.ext (by ring) (by ring)

end Run

theorem inRange_iff (p : Pattern) : p.inRange = true ↔ 1 ≤ p.ring ∧ p.ring ≤ 256 ∧ 1 ≤ p.gap ∧ p.gap ≤ 256 ∧ 1 ≤ p.rings ∧
    p.rings ≤ 16 ∧ p.burstGap ≤ 100 ∧ 1 ≤ p.bursts ∧ p.bursts ≤ 8 := by
  simp [Pattern.inRange]

/-- A pattern in range runs for its duration, within the segments that 256 expiries cover. -/
theorem ringTimes_pattern {p : Pattern} (range : p.inRange = true) (number : Nat) (s : State) :
    ringTimes s { number := number, pattern := p } 256 (ringing { number := number, pattern := p } 1 1 s) =
      (p.duration, p.bursts * p.rings * p.ring * 10) := by
  obtain ⟨-, -, -, -, rings, ringsMax, -, bursts, burstsMax⟩ := (inRange_iff p).1 range
  obtain ⟨m, strokes⟩ : ∃ m, p.rings = m + 1 := ⟨p.rings - 1, by omega⟩
  obtain ⟨n, rounds⟩ : ∃ n, p.bursts = n + 1 := ⟨p.bursts - 1, by omega⟩
  have segments : n * (2 * p.rings) ≤ 7 * (2 * p.rings) := Nat.mul_le_mul_right _ (by omega)
  rw [ringTimes_from (latched := { number := number, pattern := p }) 256 m n 1 1 (by dsimp only; omega) (by dsimp only; omega) le_rfl
    (by dsimp only; omega)]
  simp only [Pattern.duration, Pattern.burstTime, strokes, rounds, Nat.add_sub_cancel]
  exact Prod.ext (by ring) (by ring)

theorem duration_bounds {p : Pattern} (range : p.inRange = true) : 10 ≤ p.duration ∧ p.duration ≤ 704880 := by
  obtain ⟨ring, ringMax, -, gapMax, rings, ringsMax, pauseMax, bursts, burstsMax⟩ := (inRange_iff p).1 range
  constructor
  · calc 10 = 1 * (1 * 1 * 10 + 0) + 0 := rfl
      _ ≤ p.duration := by unfold Pattern.duration; gcongr <;> omega
  · calc p.duration ≤ 8 * (16 * 256 * 10 + (16 - 1) * 256 * 10) + (8 - 1) * 100 * 100 := by unfold Pattern.duration; gcongr
      _ = 704880 := rfl

/-! ## The player's expiry (R184, R185) -/

theorem exec_playerTimer (powered : s.powered = true) : exec .playerTimerExpiry s = .next (playerExpiry s) :=
  whilePowered_of_powered powered playerExpiry

section Player
variable {call : CallInstance} {copy : StartCopy} {timer : Timer}

theorem playerExpiry_sounding (player : s.calls.player = .sounding call copy timer) (expired : timer.expired s.clock = true) :
    playerExpiry s = selection (playerExpires s) := by
  simp only [playerExpiry, player, expired, if_pos]

theorem playerExpiry_gap (player : s.calls.player = .gap call copy timer) (expired : timer.expired s.clock = true) :
    playerExpiry s = selection (beginSounding call copy s) := by
  simp only [playerExpiry, playerExpires, player, expired, if_pos]

theorem selection_sounding (player : s.calls.player = .sounding call copy timer) (long : timer.length ≠ 0) : selection s = s :=
  selection_busy (by simp [playerBusy, player, long])

theorem selection_gap (player : s.calls.player = .gap call copy timer) (long : timer.length ≠ 0) : selection s = s :=
  selection_busy (by simp [playerBusy, player, long])

/-- An idle player finds nothing in an empty queue. -/
theorem selection_empty (player : s.calls.player = .idle) (empty : s.calls.queue = []) : selection s = s := by
  simp [selection, settlePlayer, player, empty, walkQueue, Player.isIdle]

/-- A sounding's first changes: the player and the frames of the stations. -/
def soundingOpened (call : CallInstance) (copy : StartCopy) (s : State) : State :=
  forEach copy.stations (offerStart call copy) (setPlayer (.sounding call copy (s.timerOf (soundingTime s copy))) s)

theorem soundingOpened_after (call : CallInstance) (copy : StartCopy) (s : State) :
    sameBut offerParts (setPlayer (.sounding call copy (s.timerOf (soundingTime s copy))) s) (soundingOpened call copy s) = true :=
  forEach_frame _ (fun _ t => offer_frame _ _ _ _ t) _ _

theorem beginSounding_quiet (none_ : soundingPattern s copy = none) (call : CallInstance) :
    beginSounding call copy s = soundingOpened call copy s := by
  simp only [beginSounding, none_]
  rfl

theorem beginSounding_rings {number : Nat} {p : Pattern} (rung : soundingPattern s copy = some (number, p)) (call : CallInstance) :
    beginSounding call copy s = (soundingOpened call copy s).onBells fun u =>
      { u with generators := setAll copy.bells (ringing { number := number, pattern := p } 1 1 s) u.generators } := by
  have clock : (soundingOpened call copy s).clock = s.clock :=
    (sameBut_clock (soundingOpened_after call copy s) (by decide)).trans rfl
  have begun : beginSounding call copy s = forEach copy.bells (startGenerator number p) (soundingOpened call copy s) := by
    simp only [beginSounding, rung]
    rfl
  rw [begun, startGenerators_eq, ringing_of_clock clock]

/-- A sounding takes the player for its sounding time. -/
theorem beginSounding_calls (call : CallInstance) (copy : StartCopy) (s : State) :
    (beginSounding call copy s).calls =
      { s.calls with player := .sounding call copy { start := s.clock, length := soundingTime s copy } } := by
  have opened : (soundingOpened call copy s).calls =
      { s.calls with player := .sounding call copy { start := s.clock, length := soundingTime s copy } } :=
    sameBut_calls (soundingOpened_after call copy s) (by decide)
  cases rung : soundingPattern s copy with
  | none => rw [beginSounding_quiet rung, opened]
  | some found => rw [beginSounding_rings (number := found.1) (p := found.2) rung, State.onBells_calls, opened]

theorem soundingOpened_bells (call : CallInstance) (copy : StartCopy) (s : State) :
    (soundingOpened call copy s).bells = s.bells :=
  (sameBut_bells (soundingOpened_after call copy s) (by decide)).trans rfl

theorem soundingPattern_some {number : Nat} {p : Pattern} (named : copy.pattern = some number) (defined : patternOf s number = some p) :
    soundingPattern s copy = some (number, p) := by
  simp [soundingPattern, named, defined]

/-- The frames of a sounding change nothing but what offers can. -/
theorem beginSounding_after (call : CallInstance) (copy : StartCopy) (s : State) :
    sameBut [.sender, .outputs, .attention, .calls, .bells] s (beginSounding call copy s) = true := by
  have opened : sameBut [.sender, .outputs, .attention, .calls, .bells] s (soundingOpened call copy s) = true :=
    sameBut_trans (sameBut_mono (setPlayer_frame _ s) (by decide)) (sameBut_mono (soundingOpened_after call copy s) (by decide))
  cases rung : soundingPattern s copy with
  | none => rwa [beginSounding_quiet rung]
  | some found =>
    rw [beginSounding_rings (number := found.1) (p := found.2) rung]
    exact sameBut_trans opened (sameBut_mono (onBells_frame _ _) (by decide))

end Player

theorem nextSegment_ring {g : Generator} (ring : g.state = .ring) (latched : Latched) (s : State) :
    nextSegment g latched s =
      if g.r < latched.pattern.rings then
        { g with state := .gap, timer := some (s.timerOf (latched.pattern.gap * 10)), relay := false }
      else if g.k < latched.pattern.bursts then
        if 0 < latched.pattern.burstGap then
          { g with state := .burstGap, timer := some (s.timerOf (latched.pattern.burstGap * 100)), relay := false }
        else ringing latched 1 (g.k + 1) s
      else .initial := by
  simp only [nextSegment, ring]

/-- Settles O35, by the cases of `nextSegment`. -/
theorem segmentTimerPlaysPattern : Obligations.SegmentTimerPlaysPattern := by
  unfold Obligations.SegmentTimerPlaysPattern
  intro s b g latched powered at_ held overdue p becomes rings
  have row (next : Generator) (h : nextSegment g latched s = next) : becomes next := by
    have arm : exec (.segmentTimerExpiry b) s = whilePowered s (segmentExpiry b) := rfl
    have expiry : segmentExpiry b s = setGenerator b next s := by simp only [segmentExpiry, at_, held, overdue, if_pos, h]
    exact (arm.trans (whilePowered_of_powered powered _)).trans (congrArg _ expiry)
  refine ⟨fun ring more => row _ ?_, fun ring last more gap => row _ ?_, fun ring last more close => row _ ?_,
    fun ring last end_ => row _ ?_, fun gap => row _ ?_, fun pause => row _ ?_⟩
  · rw [nextSegment_ring ring]
    exact if_pos more
  · rw [nextSegment_ring ring]
    exact (if_neg (Nat.not_lt.2 last)).trans ((if_pos more).trans (if_pos gap))
  · rw [nextSegment_ring ring]
    exact (if_neg (Nat.not_lt.2 last)).trans ((if_pos more).trans (if_neg (Nat.not_lt.2 (Nat.le_of_eq close))))
  · rw [nextSegment_ring ring]
    exact (if_neg (Nat.not_lt.2 last)).trans (if_neg (Nat.not_lt.2 end_))
  · simp only [nextSegment, gap]
    rfl
  · simp only [nextSegment, pause]
    rfl

/-- Settles O36, by the run of a pattern and the sounding time of the same pattern. -/
theorem patternDurationIsRunTime : Obligations.PatternDurationIsRunTime := by
  refine ⟨fun s number p range => ⟨ringTimes_pattern range number s, rfl, duration_bounds range |>.1, duration_bounds range |>.2,
    fun ring rings bursts => ?_, fun ring gap rings pause bursts => ?_⟩,
    fun s call copy timer number b p powered player expired named defined range rung inside => ?_⟩
  · simp [Pattern.duration, ring, rings, bursts]
  · simp [Pattern.duration, ring, gap, rings, pause, bursts]
  · have pattern := soundingPattern_some named defined
    have time : p.duration ≤ soundingTime s copy := by
      have some_ : copy.bells ≠ [] := List.ne_nil_of_mem rung
      simp only [soundingTime, pattern, if_neg some_]
      exact Nat.le_max_left _ _
    have long : soundingTime s copy ≠ 0 := by
      have := duration_bounds range
      omega
    have begun := beginSounding_calls call copy s
    have clock : (beginSounding call copy s).clock = s.clock := sameBut_clock (beginSounding_after call copy s) (by decide)
    rw [answers, exec_playerTimer powered, playerExpiry_gap player expired,
      selection_sounding (congrArg CallUnit.player begun) long]
    refine ⟨_, rfl, _, ringing { number := number, pattern := p } 1 1 s, congrArg CallUnit.player begun, rfl, ?_, rfl, rfl, ?_⟩
    · rw [beginSounding_rings pattern, State.onBells_bells, setAll_getElem? _ _ _ inside, if_pos rung]
    · rw [← ringing_of_clock clock, ringTimes_pattern range]
      exact time

/-! ## The NOTICE (R217) -/

theorem notice_unnumbered (unnumbered : s.numbered = false) (urgent : Bool) : notice urgent s = reportAttention s :=
  if_neg (by rw [show (reportAttention s).numbered = s.numbered from rfl, unnumbered]; exact Bool.false_ne_true)

/-- Into a quiet queue a NOTICE of the present state goes alone. -/
theorem notice_quiet (numbered : s.numbered = true) (quiet : quietQueue s = true) (urgent : Bool) :
    notice urgent s =
      (reportAttention s).onLoop fun l => { l with origin := [queued s kindNotice allNodes (noticePayload s) urgent] } :=
  offer_quiet (s := reportAttention s) numbered quiet _ _ _ _

/-- The notice timer restarted (R217). -/
def renoticed (s : State) : State := s.onCommand fun c => { c with noticeTimer := s.timerOf c.profile.noticeInterval }

/-- Settles O37: the timer's restart is a change of the Command Unit alone, and the NOTICE a frame offered to the queue. -/
theorem noticeTimerSendsNotice : Obligations.NoticeTimerSendsNotice := by
  intro s powered expired
  have row : exec .noticeTimerExpiry s = .next (notice false (renoticed s)) := by
    have arm : exec .noticeTimerExpiry s = whilePowered s noticeExpiry := rfl
    rw [arm, whilePowered_of_powered powered, noticeExpiry, if_pos expired]
    rfl
  have restarted : sameBut [.attention, .command] s (renoticed s) = true :=
    sameBut_mono (onCommand_frame s _) (by decide)
  have frame := notice_frame false (renoticed s)
  have command := sameBut_command frame (by decide)
  refine ⟨_, row, sameBut_trans (sameBut_mono restarted (by decide)) (sameBut_mono frame (by decide)), ?_, ?_, ?_,
    fun unnumbered => ?_, fun numbered quiet => ?_⟩
  · exact (congrArg CommandUnit.noticeTimer command :)
  · exact (congrArg CommandUnit.profile command :)
  · exact (congrArg CommandUnit.store command :)
  · rw [notice_unnumbered (s := renoticed s) unnumbered]
    exact ⟨sameBut_trans restarted (sameBut_mono (reportAttention_frame _) (by decide)), rfl, rfl⟩
  · rw [notice_quiet (s := renoticed s) numbered quiet]
    exact ⟨rfl, rfl, rfl⟩

/-! ## Frames for distinct stations (R184, R186) -/

section Stations

variable {α : Type} {dest : α → Byte} {payload : α → List Byte} {kind : Byte} {urgent : Bool}

/-- While a frame is being sent, frames of one kind for distinct destinations join the queue in their order. -/
theorem forEach_offers (numbered : s.numbered = true) (sending : s.loop.sending.isSome = true) {stations : List α}
    (distinct : (stations.map dest).Nodup) (room : s.loop.origin.length + stations.length ≤ 16)
    (apart : ∀ q ∈ s.loop.origin, q.frame.kind ≠ kind ∨ ∀ a ∈ stations, q.frame.dest ≠ dest a) :
    forEach stations (fun a => offer kind (dest a) (payload a) urgent) s =
      s.onLoop fun l => { l with origin := l.origin ++ stations.map fun a => queued s kind (dest a) (payload a) urgent } := by
  induction stations generalizing s with
  | nil => simp [State.onLoop]
  | cons a rest ih =>
    rw [List.map_cons, List.nodup_cons] at distinct
    rw [List.length_cons] at room
    have alone (q : OriginFrame) (h : q ∈ s.loop.origin) : coalesces (queued s kind (dest a) (payload a) urgent).frame q.frame = false := by
      refine decide_eq_false ?_
      rintro ⟨sameKind, sameDest, -⟩
      obtain other | elsewhere := apart q h
      · exact absurd sameKind.symm other
      · exact absurd sameDest.symm (elsewhere a (by simp))
    rw [forEach_cons, offer_joins numbered sending (by omega) alone, ih]
    · simp [State.onLoop, queued, State.nodeByte]
    · exact numbered
    · exact sending
    · exact distinct.2
    · simp only [State.onLoop_loop, List.length_append, List.length_cons, List.length_nil]
      omega
    · intro q h
      simp only [State.onLoop_loop, List.mem_append, List.mem_singleton] at h
      obtain before | rfl := h
      · exact (apart q before).imp_right fun elsewhere b hb => elsewhere b (List.mem_cons_of_mem a hb)
      · exact .inr fun b hb same => distinct.1 (List.mem_map.2 ⟨b, hb, same.symm⟩)

/-- Into a quiet queue they go as they are. -/
theorem forEach_offers_quiet (numbered : s.numbered = true) (quiet : quietQueue s = true) {stations : List α}
    (distinct : (stations.map dest).Nodup) (few : stations.length ≤ 16) :
    forEach stations (fun a => offer kind (dest a) (payload a) urgent) s =
      s.onLoop fun l => { l with origin := stations.map fun a => queued s kind (dest a) (payload a) urgent } := by
  obtain ⟨sending, empty⟩ := quietQueue_iff.1 quiet
  rw [forEach_offers numbered sending distinct (by simp [empty, few]) (by simp [empty])]
  simp [State.onLoop, empty]

end Stations

/-! ## The player timer (R185) -/

/-- The bells of a sounding's routes are stopped, and nothing else. -/
theorem stopRoutes_generators {copy : StartCopy} {b : Nat} (rung : b ∈ copy.bells) (range : b < 4) (s : State) :
    (stopRoutes copy s).bells.generators[b]? = some Generator.initial := by
  rw [stopRoutes_eq, State.onBells_bells, setAll_getElem? _ _ _ range, if_pos rung]

/-- The call's fields after one more sounding. -/
def sounded (call : CallInstance) (left : Repeats) : CallInstance :=
  { call with soundings := min 255 (call.soundings + 1), repeats := some left }

theorem playerExpires_more {call : CallInstance} {copy : StartCopy} {timer : Timer} {n : Nat}
    (player : s.calls.player = .sounding call copy timer) (more : call.repeats = some (.count (n + 2))) :
    playerExpires s =
      setPlayer (.gap (sounded call (.count (n + 1))) copy { start := s.clock, length := copy.gap * 1000 }) (stopRoutes copy s) := by
  have clock : (stopRoutes copy s).clock = s.clock := sameBut_clock (stopRoutes_frame copy s) (by decide)
  have left : (call.repeats.getD (.count 1)).less = .count (n + 1) := by rw [more]; rfl
  simp only [playerExpires, player, left]
  rw [if_neg (by simp), State.timerOf_eq, clock]
  rfl

theorem playerExpires_last {call : CallInstance} {copy : StartCopy} {timer : Timer}
    (player : s.calls.player = .sounding call copy timer) (last : call.repeats = some (.count 1)) :
    playerExpires s = reportCall (sounded call (.count 0)) .done (setPlayer .idle (stopRoutes copy s)) := by
  have left : (call.repeats.getD (.count 1)).less = .count 0 := by rw [last]; rfl
  simp only [playerExpires, player, left, if_pos]
  rfl

/-- A call's entry, and nothing else but what the report's room makes of it. -/
theorem reportCall_frame_report (call : CallInstance) (outcome : CallOutcome) (s : State) :
    sameBut [.report, .attention] s (reportCall call outcome s) = true := report_frame _ _ s

theorem reportCall_adds (call : CallInstance) (outcome : CallOutcome) (s : State) :
    Adds [entryNow s .call [byte call.id, byte outcome.code, byte call.source.code, byte call.priority, byte call.soundings, 0xFF]] s
      (reportCall call outcome s) := Adds.report _ _ s

theorem soundingTime_slot {copy : StartCopy} (slot : copy.slot.isSome = true) (s : State) :
    soundingTime s copy = max
      (match copy.pattern.bind (patternOf s) with
        | some p => if copy.bells = [] then 0 else p.duration
        | none => 0)
      (copy.messageTime * 1000) := by
  obtain ⟨named, slot⟩ := Option.isSome_iff_exists.1 slot
  simp only [soundingTime, slot, soundingPattern]
  cases copy.pattern with
  | none => rfl
  | some number =>
    simp only [Option.bind_some]
    cases patternOf s number <;> rfl

theorem soundingPattern_none {copy : StartCopy} (h : copy.pattern.bind (patternOf s) = none) : soundingPattern s copy = none := by
  unfold soundingPattern
  split
  · rfl
  · next number named =>
    rw [named, Option.bind_some] at h
    rw [h, Option.map_none]

theorem soundingOpened_loop {call : CallInstance} {copy : StartCopy} (numbered : s.numbered = true) (quiet : quietQueue s = true)
    (distinct : (copy.stations.map fun station => byte station.1).Nodup) (few : copy.stations.length ≤ 16) :
    (soundingOpened call copy s).loop.origin = copy.stations.map fun station =>
      queued s kindCall (byte station.1) ([1, byte call.id, optionByte copy.slot] ++ maskBytes 2 station.2)
        (decide (call.priority = 3)) := by
  have frames := forEach_offers_quiet (s := setPlayer (.sounding call copy (s.timerOf (soundingTime s copy))) s)
    (kind := kindCall) (urgent := decide (call.priority = 3)) (dest := fun station : Nat × BitVec 12 => byte station.1)
    (payload := fun station => [1, byte call.id, optionByte copy.slot] ++ maskBytes 2 station.2) numbered quiet distinct few
  exact congrArg (fun t => t.loop.origin) frames

/-- Settles O34, by the equations of the player's expiry; none of the three is followed by a selection. -/
theorem playerTimerAdvancesCall : Obligations.PlayerTimerAdvancesCall := by
  refine ⟨fun s call copy timer n powered player expired more gap => ?_, fun s call copy timer powered player expired last empty => ?_,
    fun s call copy timer powered player expired slot long => ?_⟩
  · have calls : (stopRoutes copy s).calls = s.calls := stopRoutes_calls copy s
    rw [answers, exec_playerTimer powered, playerExpiry_sounding player expired, playerExpires_more player more,
      selection_gap rfl (show copy.gap * 1000 ≠ 0 by omega)]
    refine ⟨_, rfl, sameBut_trans (sameBut_mono (stopRoutes_frame copy s) (by decide)) (sameBut_mono (setPlayer_frame _ _) (by decide)),
      ?_, fun b rung range => stopRoutes_generators rung range s⟩
    rw [setPlayer, State.onCalls_calls, calls]
    rfl
  · have stopped := stopRoutes_frame copy s
    have reported := reportCall_frame_report (sounded call (.count 0)) .done (setPlayer .idle (stopRoutes copy s))
    have idle : (reportCall (sounded call (.count 0)) .done (setPlayer .idle (stopRoutes copy s))).calls =
        { s.calls with player := .idle } := by
      rw [reportCall_calls, setPlayer, State.onCalls_calls, stopRoutes_calls]
    have entry := reportCall_adds (sounded call (.count 0)) .done (setPlayer .idle (stopRoutes copy s))
    have clock : (stopRoutes copy s).clock = s.clock := sameBut_clock stopped (by decide)
    have before : (stopRoutes copy s).phase.report = s.phase.report := sameBut_report stopped (by decide)
    rw [answers, exec_playerTimer powered, playerExpiry_sounding player expired, playerExpires_last player last,
      selection_empty (congrArg CallUnit.player idle) ((congrArg CallUnit.queue idle).trans empty)]
    refine ⟨_, rfl, ?_, idle, fun b rung range => ?_, fun room => ?_⟩
    · exact sameBut_trans (sameBut_mono stopped (by decide))
        (sameBut_trans (sameBut_mono (setPlayer_frame _ _) (by decide)) (sameBut_mono reported (by decide)))
    · rw [sameBut_bells reported (by decide)]
      exact stopRoutes_generators rung range s
    · have added := (entry.from (s := s) before).one room
      rw [entryNow, show (setPlayer .idle (stopRoutes copy s)).clock = s.clock from clock] at added
      exact added
  · have time := soundingTime_slot slot s
    have positive : soundingTime s copy ≠ 0 := by
      have : copy.messageTime * 1000 ≤ soundingTime s copy := time ▸ Nat.le_max_right _ _
      omega
    have calls := beginSounding_calls call copy s
    rw [answers, exec_playerTimer powered, playerExpiry_gap player expired,
      selection_sounding (congrArg CallUnit.player calls) positive]
    refine ⟨_, rfl, beginSounding_after call copy s, calls.trans (congrArg (fun length => { s.calls with player := .sounding call copy { start := s.clock, length := length } }) time),
      ?_, fun none_ => ?_, fun number p named rung => ?_,
      fun numbered quiet few distinct => ?_⟩
    · cases rung : soundingPattern s copy with
      | none => rw [beginSounding_quiet rung, soundingOpened_bells]
      | some found =>
        rw [beginSounding_rings (number := found.1) (p := found.2) rung, State.onBells_bells, soundingOpened_bells]
    · rw [beginSounding_quiet (soundingPattern_none none_), soundingOpened_bells]
    · have defined : patternOf s number = some p := by rwa [named, Option.bind_some] at rung
      rw [beginSounding_rings (soundingPattern_some named defined), State.onBells_bells, soundingOpened_bells]
      refine ⟨fun b rung range => ?_, fun b other => setAll_other other _ _⟩
      rw [setAll_getElem? _ _ _ range, if_pos rung]
      rfl
    · have opened := soundingOpened_loop (call := call) numbered quiet distinct few
      cases rung : soundingPattern s copy with
      | none => rw [beginSounding_quiet rung, opened]
      | some found => rw [beginSounding_rings (number := found.1) (p := found.2) rung, State.onBells_loop, opened]

end Sys2Proof.Machine
end

section
/-! SUPPORT. What the work of the Call Unit keeps: the definitions, areas, selectors and patterns, and every entry of the report;
and the obligation O33. -/

namespace Sys2Proof.Machine

variable {s t u : State}

/-! ## The report without a safety entry -/

/-- An entry of another kind than a safety kind removes none. -/
theorem appendEntry_grows {entry : ReportEntry} (other : entry.kind.safety = false) (s : State) :
    s.phase.report <+: (appendEntry entry s).phase.report := by
  rw [appendEntry_report, other]
  split
  · exact List.prefix_append _ _
  · exact List.prefix_refl _

/-! ## The work of the Call Unit -/

/-- The call definitions, areas, selectors and patterns stand, and the report is only added to. -/
structure CallWork (s t : State) : Prop where
  defs : t.calls.defs = s.calls.defs
  areas : t.calls.areas = s.calls.areas
  selectors : t.calls.selectors = s.calls.selectors
  patterns : t.bells.patterns = s.bells.patterns
  grows : s.phase.report <+: t.phase.report

namespace CallWork

theorem refl (s : State) : CallWork s s := ⟨rfl, rfl, rfl, rfl, List.prefix_refl _⟩

theorem trans (h : CallWork s t) (k : CallWork t u) : CallWork s u :=
  ⟨k.defs.trans h.defs, k.areas.trans h.areas, k.selectors.trans h.selectors, k.patterns.trans h.patterns,
    h.grows.trans k.grows⟩

theorem gains {entry : ReportEntry} (h : CallWork t u) (k : Machine.gains entry s t = true) : Machine.gains entry s u = true := by
  simp only [Machine.gains, decide_eq_true_eq] at k ⊢
  exact lt_of_lt_of_le k (h.grows.sublist.count_le entry)

theorem offer (kind dest : Byte) (payload : List Byte) (urgent : Bool) (s : State) :
    CallWork s (Machine.offer kind dest payload urgent s) := by
  have frame := offer_frame kind dest payload urgent s
  have calls := sameBut_calls frame (by decide)
  exact ⟨by rw [calls], by rw [calls], by rw [calls], by rw [sameBut_bells frame (by decide)],
    by rw [sameBut_report frame (by decide)]⟩

theorem report (data : List Byte) (s : State) : CallWork s (Machine.report .call data s) := by
  have frame := report_frame .call data s
  have calls := sameBut_calls frame (by decide)
  exact ⟨by rw [calls], by rw [calls], by rw [calls], by rw [sameBut_bells frame (by decide)],
    appendEntry_grows rfl s⟩

theorem setAttention (flag : Flag) (s : State) : CallWork s (Machine.setAttention flag s) :=
  ⟨rfl, rfl, rfl, rfl, List.prefix_refl _⟩

theorem setQueue (queue : List CallInstance) (s : State) : CallWork s (Machine.setQueue queue s) :=
  ⟨rfl, rfl, rfl, rfl, List.prefix_refl _⟩

theorem setPlayer (player : Player) (s : State) : CallWork s (Machine.setPlayer player s) :=
  ⟨rfl, rfl, rfl, rfl, List.prefix_refl _⟩

theorem forEach {α : Type} {f : α → State → State} (h : ∀ a t, CallWork t (f a t)) (items : List α) (s : State) :
    CallWork s (Machine.forEach items f s) :=
  forEach_induction (CallWork s) f items s (fun a _ t ht => ht.trans (h a t)) (refl s)

theorem setGenerator (b : Nat) (g : Generator) (s : State) : CallWork s (Machine.setGenerator b g s) :=
  ⟨rfl, rfl, rfl, rfl, List.prefix_refl _⟩

theorem reportCall (call : CallInstance) (outcome : CallOutcome) (s : State) : CallWork s (Machine.reportCall call outcome s) :=
  report _ s

theorem stopRoutes (copy : StartCopy) (s : State) : CallWork s (Machine.stopRoutes copy s) :=
  forEach (fun b t => setGenerator b _ t) _ s

theorem beginSounding (call : CallInstance) (copy : StartCopy) (s : State) : CallWork s (Machine.beginSounding call copy s) := by
  have opened := (setPlayer (.sounding call copy (s.timerOf (soundingTime s copy))) s).trans
    (forEach (fun (station : Nat × BitVec 12) t => offer kindCall (byte station.1)
      ([1, byte call.id, optionByte copy.slot] ++ maskBytes 2 station.2) (decide (call.priority = 3)) t) copy.stations _)
  simp only [Machine.beginSounding]
  split
  · exact opened
  · exact opened.trans (forEach (fun b t => setGenerator b _ t) _ _)

theorem startCall (call : CallInstance) (s : State) : CallWork s (Machine.startCall call s) := by
  simp only [Machine.startCall]
  split
  · exact reportCall _ _ s
  · split
    · exact reportCall _ _ s
    · exact beginSounding _ _ s

theorem walkQueue (kept rest : List CallInstance) (s : State) : CallWork s (Machine.walkQueue kept rest s) := by
  induction rest generalizing kept s with
  | nil => exact refl s
  | cons call rest ih =>
    simp only [Machine.walkQueue]
    split
    · exact ((setQueue _ s).trans (reportCall _ _ _)).trans (ih _ _)
    · split
      · split
        · exact ((setQueue _ s).trans (startCall _ _)).trans (ih _ _)
        · exact (setQueue _ s).trans (startCall _ _)
      · exact ih _ s

theorem playerExpires (s : State) : CallWork s (Machine.playerExpires s) := by
  simp only [Machine.playerExpires]
  split
  · exact refl s
  · split
    · exact (stopRoutes _ s).trans ((setPlayer _ _).trans (reportCall _ _ _))
    · exact (stopRoutes _ s).trans (setPlayer _ _)
  · exact beginSounding _ _ s

theorem settlePlayer (fuel : Nat) (s : State) : CallWork s (Machine.settlePlayer fuel s) := by
  induction fuel generalizing s with
  | zero => exact refl s
  | succ n ih =>
    simp only [Machine.settlePlayer]
    split
    · split
      · exact walkQueue _ _ s
      · exact (walkQueue _ _ s).trans (ih _)
    · split
      · exact (playerExpires s).trans (ih _)
      · exact refl s

theorem selection (s : State) : CallWork s (Machine.selection s) := settlePlayer 256 s

theorem abortSounding (call : CallInstance) (copy : StartCopy) (s : State) : CallWork s (Machine.abortSounding call copy s) :=
  (stopRoutes copy s).trans ((forEach (fun (station : Nat × BitVec 12) t => offer kindCall (byte station.1)
    [2, byte call.id] (decide (call.priority = 3)) t) copy.stations _).trans (setPlayer .idle _))

end CallWork

/-! ## An abort (R186) -/

section Abort
variable (call : CallInstance) (copy : StartCopy)

theorem abortSounding_after (s : State) : sameBut [.sender, .outputs, .attention, .calls, .bells] s (abortSounding call copy s) = true :=
  sameBut_trans (sameBut_mono (stopRoutes_frame copy s) (by decide))
    (sameBut_trans (sameBut_mono (forEach_frame _ (fun _ t => offer_frame _ _ _ _ t) copy.stations _) (by decide))
      (sameBut_mono (setPlayer_frame _ _) (by decide)))

theorem abortSounding_calls (s : State) : (abortSounding call copy s).calls = { s.calls with player := .idle } := by
  rw [abortSounding, setPlayer, State.onCalls_calls, offerStops_calls, stopRoutes_calls]

theorem abortSounding_bells (s : State) :
    (abortSounding call copy s).bells = { s.bells with generators := setAll copy.bells .initial s.bells.generators } := by
  have offers : (forEach copy.stations (offerStop call) (stopRoutes copy s)).bells = (stopRoutes copy s).bells :=
    sameBut_bells (forEach_frame (changed := offerParts) _ (fun _ t => offer_frame _ _ _ _ t) copy.stations _) (by decide)
  rw [abortSounding, setPlayer, State.onCalls_bells, offers, stopRoutes_eq, State.onBells_bells]

theorem abortSounding_generators {b : Nat} (range : b < 4) (s : State) : (abortSounding call copy s).bells.generators[b]? =
    if b ∈ copy.bells then some Generator.initial else s.bells.generators[b]? := by
  rw [abortSounding_bells, setAll_getElem? _ _ _ range]

variable {call copy} in
theorem abortSounding_origin (numbered : s.numbered = true) (quiet : quietQueue s = true)
    (distinct : (copy.stations.map fun station => byte station.1).Nodup) (few : copy.stations.length ≤ 16) :
    (abortSounding call copy s).loop.origin = copy.stations.map fun station =>
      queued s kindCall (byte station.1) [2, byte call.id] (decide (call.priority = 3)) := by
  have frames := forEach_offers_quiet (s := stopRoutes copy s)
    (kind := kindCall) (urgent := decide (call.priority = 3)) (dest := fun station : Nat × BitVec 12 => byte station.1)
    (payload := fun _ => [2, byte call.id]) (by rwa [stopRoutes_eq]) (by rwa [stopRoutes_eq]) distinct few
  have stopped : (stopRoutes copy s).loop = s.loop := by rw [stopRoutes_eq, State.onBells_loop]
  refine (congrArg (fun t => t.loop.origin) frames).trans ?_
  simp only [State.onLoop_loop, queued, State.nodeByte, stopped]

end Abort

/-! ## CALX (R188) -/

/-- The ids that CALX knows, EVAC but in EVACUATING. -/
def cancellable (id : Nat) (s : State) : Prop := id ≤ 31 ∨ id = 63 ∨ (id = 62 ∧ s.phase.phase ≠ .evacuating)

section Cancel
variable {id : Nat} {call : CallInstance} {copy : StartCopy} {timer : Timer}

/-- An id that CALX knows passes its first two checks. -/
theorem cancellable_passes (named : cancellable id s) :
    ¬ ¬ (id ≤ 31 ∨ id = evacId ∨ id = staffId) ∧ ¬ (id = evacId ∧ s.phase.phase = .evacuating) := by
  simp only [evacId, staffId]
  obtain small | staff | ⟨evac, other⟩ := named
  · omega
  · omega
  · exact ⟨by omega, fun both => other both.2⟩

theorem cancelCall_queued (named : cancellable id s) (found : (s.calls.queue.find? fun c => decide (c.id = id)) = some call) :
    cancelCall id s = (.done, selection (reportCall call .cancelled
      (setQueue (s.calls.queue.eraseP fun c => decide (c.id = id)) s))) := by
  obtain ⟨known, free⟩ := cancellable_passes named
  rw [cancelCall, if_neg known, if_neg free]
  simp only [found]

theorem cancelCall_player (named : cancellable id s) (none_ : (s.calls.queue.find? fun c => decide (c.id = id)) = none)
    (player : s.calls.player = .sounding call copy timer ∨ s.calls.player = .gap call copy timer) (same : call.id = id) :
    cancelCall id s = (.done, selection (reportCall call .cancelled (abortSounding call copy s))) := by
  obtain ⟨known, free⟩ := cancellable_passes named
  rw [cancelCall, if_neg known, if_neg free]
  simp only [none_]
  obtain player | player := player
  · simp only [player, Player.call, Player.copy, if_pos same]
  · simp only [player, Player.call, Player.copy, if_pos same]

theorem cancelCall_absent (named : cancellable id s) (absent : callHeld s id = false) : cancelCall id s = (.refusedState, s) := by
  simp only [callHeld, Bool.or_eq_false_iff, List.any_eq_false, decide_eq_false_iff_not] at absent
  have none_ : (s.calls.queue.find? fun c => decide (c.id = id)) = none := List.find?_eq_none.2 absent.1
  obtain ⟨known, free⟩ := cancellable_passes named
  rw [cancelCall, if_neg known, if_neg free]
  simp only [none_]
  split
  · next sounding _ playing _ => exact if_neg fun same => absent.2 (by rw [playing]; exact congrArg some same)
  · rfl

end Cancel

/-! ## An entry and the selection after it -/

/-- The entry of an outcome. -/
def callOutcome (call : CallInstance) (outcome : CallOutcome) (s : State) : ReportEntry :=
  entryNow s .call [byte call.id, byte outcome.code, byte call.source.code, byte call.priority, byte call.soundings, 0xFF]

/-- An instance leaves the queue with its entry, and a selection follows: what it can change and what it keeps. -/
theorem leaves_queue (call : CallInstance) (outcome : CallOutcome) (queue : List CallInstance) (s : State) :
    sameBut callParts s (selection (reportCall call outcome (setQueue queue s))) = true ∧
      CallWork s (selection (reportCall call outcome (setQueue queue s))) ∧
      (roomFor 1 s = true → gains (callOutcome call outcome s) s (selection (reportCall call outcome (setQueue queue s))) = true) ∧
      (playerBusy s = true →
        sameBut [.report, .attention, .calls] s (selection (reportCall call outcome (setQueue queue s))) = true ∧
        (selection (reportCall call outcome (setQueue queue s))).calls = { s.calls with queue := queue } ∧
        (roomFor 1 s = true → (selection (reportCall call outcome (setQueue queue s))).phase.report =
          s.phase.report ++ [callOutcome call outcome s])) := by
  have entry : Adds [callOutcome call outcome s] s (reportCall call outcome (setQueue queue s)) :=
    (reportCall_adds call outcome (setQueue queue s)).from rfl
  have reported := reportCall_frame_report call outcome (setQueue queue s)
  have set_ := setQueue_frame queue s
  refine ⟨?_, ?_, fun room => ?_, fun busy => ?_⟩
  · exact sameBut_trans (sameBut_mono set_ (by decide)) (sameBut_trans (sameBut_mono reported (by decide)) (selection_frame _))
  · exact ((CallWork.setQueue queue s).trans (.reportCall call outcome _)).trans (.selection _)
  · exact (CallWork.selection _).gains (entry.gains_one room)
  · have still : playerBusy (reportCall call outcome (setQueue queue s)) = true := by
      simp only [playerBusy, reportCall_calls]
      exact busy
    rw [selection_busy still]
    refine ⟨sameBut_trans (sameBut_mono set_ (by decide)) (sameBut_mono reported (by decide)), ?_, entry.one⟩
    rw [reportCall_calls]
    rfl

theorem plan_ofCode {plan : Byte} (known : plan.toNat ≤ 1) : Plan.ofCode plan.toNat = some (if plan = 0 then .a else .b) := by
  have zero : plan = 0 ↔ plan.toNat = 0 := by simp [BitVec.toNat_eq]
  simp only [zero]
  obtain first | second : plan.toNat = 0 ∨ plan.toNat = 1 := by omega
  · rw [first]
    rfl
  · rw [second]
    rfl

theorem plan_ofCode_none {plan : Nat} (unknown : 1 < plan) : Plan.ofCode plan = none := by
  obtain ⟨n, rfl⟩ : ∃ n, plan = n + 2 := ⟨plan - 2, by omega⟩
  rfl

theorem exec_callLapse (powered : s.powered = true) (id : Nat) : exec (.callLapse id) s = .next (lapseCall id s) :=
  whilePowered_of_powered powered (lapseCall id)

theorem numbered_of_accepted {h : CommandHeader} (a : accepted h s = true) : s.numbered = true := by
  simp only [accepted, reachesUnit, Bool.and_eq_true] at a
  exact a.1.2.1

/-- Settles O33, by the cases of CALX and of RPLN, and one rule for an instance that leaves the queue. -/
theorem queuedCallsAreCancelledAndLapse : Obligations.QueuedCallsAreCancelledAndLapse := by
  refine ⟨fun h s id a => ⟨fun above evac staff => ?_, fun evac evacuating => ?_, fun named absent => ?_, fun call found named => ?_,
    fun call copy timer player same named none_ => ?_⟩, fun s id powered => ⟨fun early => ?_, fun call found overdue => ?_⟩,
    fun h s group plan a => ⟨fun outside => ?_, fun small known => ?_⟩⟩
  · refine onlyReplies_simple rfl a (if_pos ?_)
    simp only [evacId, staffId]
    omega
  · refine onlyReplies_simple rfl a ?_
    rw [cancelCall, if_neg (by simp [evacId, evac]), if_pos ⟨evac, evacuating⟩]
  · exact onlyReplies_simple rfl a (cancelCall_absent (s := begin 0x49 h s) named absent)
  · obtain ⟨frame, work, gained, busy⟩ := leaves_queue call .cancelled (s.calls.queue.eraseP fun c => decide (c.id = id.toNat))
      (begin 0x49 h s)
    exact replies_simple rfl a (cancelCall_queued (s := begin 0x49 h s) named found)
      ⟨frame, work.defs, work.areas, work.selectors, work.patterns, gained, busy⟩
  · have work : CallWork (begin 0x49 h s) (reportCall call .cancelled (abortSounding call copy (begin 0x49 h s))) :=
      (CallWork.abortSounding call copy _).trans (.reportCall call _ _)
    have aborted := abortSounding_after call copy (begin 0x49 h s)
    have reported := reportCall_frame_report call .cancelled (abortSounding call copy (begin 0x49 h s))
    have entry : Adds [callOutcome call .cancelled s] s (reportCall call .cancelled (abortSounding call copy (begin 0x49 h s))) := by
      have added := reportCall_adds call .cancelled (abortSounding call copy (begin 0x49 h s))
      rw [entryNow, sameBut_clock aborted (by decide)] at added
      have before : (abortSounding call copy (begin 0x49 h s)).phase.report = (begin 0x49 h s).phase.report :=
        sameBut_report aborted (by decide)
      exact added.from before
    have calls : (reportCall call .cancelled (abortSounding call copy (begin 0x49 h s))).calls = { s.calls with player := .idle } := by
      rw [reportCall_calls, abortSounding_calls, begin_calls]
    have all := work.trans (.selection _)
    refine replies_simple rfl a (cancelCall_player (s := begin 0x49 h s) named none_ player same)
      ⟨?_, all.defs, all.areas, all.selectors, all.patterns, fun room => (CallWork.selection _).gains (entry.gains_one room),
        fun empty => ?_, fun empty quiet few distinct => ?_⟩
    · exact sameBut_trans (sameBut_mono aborted (by decide))
        (sameBut_trans (sameBut_mono reported (by decide)) (selection_frame _))
    · rw [selection_empty (congrArg CallUnit.player calls) ((congrArg CallUnit.queue calls).trans empty)]
      refine ⟨calls, fun b range => ?_, entry.one⟩
      rw [sameBut_bells reported (by decide), abortSounding_generators _ _ range]
      rfl
    · rw [selection_empty (congrArg CallUnit.player calls) ((congrArg CallUnit.queue calls).trans empty),
        (sender_of_sameBut reported (by decide)).1,
        abortSounding_origin (s := begin 0x49 h s) (numbered_of_accepted a) quiet distinct few, same, byte_of_toNat]
      rfl
  · rw [exec_callLapse powered, lapseCall]
    cases found : s.calls.queue.find? fun c => decide (c.id = id) with
    | none => rfl
    | some call => simp only [early call found, Bool.false_eq_true, if_false]
  · obtain ⟨frame, work, gained, busy⟩ := leaves_queue call .lapsed (s.calls.queue.eraseP fun c => decide (c.id = id)) s
    have lapsed : lapseCall id s =
        selection (reportCall call .lapsed (setQueue (s.calls.queue.eraseP fun c => decide (c.id = id)) s)) := by
      simp only [lapseCall, found, overdue, if_pos]
    rw [answers, exec_callLapse powered, lapsed]
    exact ⟨_, rfl, frame, work.defs, work.areas, work.selectors, work.patterns, gained, busy⟩
  · refine onlyReplies_simple rfl a ?_
    by_cases known : plan.toNat ≤ 1
    · simp only [routePlan, plan_ofCode known, if_pos (outside.resolve_right (Nat.not_lt.2 known))]
    · simp only [routePlan, plan_ofCode_none (Nat.lt_of_not_le known)]
  · have work := (CallWork.selection ((begin 0x4A h s).onCalls fun c =>
      { c with selectors := s.calls.selectors.setIfInBounds group.toNat (if plan = 0 then .a else .b) }))
    have response : routePlan group.toNat plan.toNat (begin 0x4A h s) = (.done, selection ((begin 0x4A h s).onCalls fun c =>
        { c with selectors := c.selectors.setIfInBounds group.toNat (if plan = 0 then .a else .b) })) := by
      simp only [routePlan, plan_ofCode known, if_neg (Nat.not_lt.2 small)]
    refine replies_simple rfl a response
      ⟨sameBut_trans (sameBut_mono (onCalls_frame _ _) (by decide)) (selection_frame _), work.defs, work.areas, work.patterns,
        work.selectors, fun busy => selection_busy busy⟩

end Sys2Proof.Machine
end

section
/-! SUPPORT. A request for a call, case by case, the STAFF request that pre-empts, the first prealarm's step, and the obligation
O32. -/

namespace Sys2Proof.Machine

variable {s t w : State} {id : Nat} {source : CallSource}

/-! ## Requests (R174) -/

theorem preempt_low {priority : Nat} (low : priority ≠ 3) (s : State) : preempt priority s = s := by
  unfold preempt
  split
  · exact if_neg fun h => low h.1
  · rfl

theorem preempt_idle (player : s.calls.player = .idle) (priority : Nat) : preempt priority s = s := by
  simp [preempt, player, Player.call]

theorem requestCall_undefined (undefined : callDefined s id = false) (source : CallSource) :
    requestCall id source s = refuseRequest id source .refusedState s := by
  simp [requestCall, undefined]

theorem requestCall_held (defined : callDefined s id = true) (held : callHeld s id = true) (source : CallSource) :
    requestCall id source s = (.done, selection (reportRequest id source .merged none s)) := by
  simp [requestCall, defined, held]

theorem requestCall_room (defined : callDefined s id = true) (free : callHeld s id = false) (room : s.calls.queue.length < 16)
    (source : CallSource) : requestCall id source s = (.done, enqueueRequest id source s) := by
  simp [requestCall, defined, free, Config.callCapacity, room]

theorem requestCall_displaces (defined : callDefined s id = true) (free : callHeld s id = false) (full : ¬ s.calls.queue.length < 16)
    {victim : CallInstance} (found : displaceable (callPriority s id) s.calls.queue = some victim) (source : CallSource) :
    requestCall id source s = (.done, enqueueRequest id source (displace victim s)) := by
  simp [requestCall, defined, free, Config.callCapacity, full, found]

theorem requestCall_full (defined : callDefined s id = true) (free : callHeld s id = false) (full : ¬ s.calls.queue.length < 16)
    (none_ : displaceable (callPriority s id) s.calls.queue = none) (source : CallSource) :
    requestCall id source s = refuseRequest id source .refusedFull s := by
  simp [requestCall, defined, free, Config.callCapacity, full, none_]

theorem playerBusy_congr (h : t.calls.player = s.calls.player) : playerBusy t = playerBusy s := by
  simp only [playerBusy, h]

/-- A request that only joins the queue while the player is busy. -/
theorem enqueueRequest_busy (low : callPriority s id ≠ 3) (busy : playerBusy s = true) (source : CallSource) :
    enqueueRequest id source s = setQueue (insertCall (newInstance s id source) s.calls.queue) s := by
  have still : playerBusy (setQueue (insertCall (newInstance s id source) s.calls.queue) s) = true := busy
  have priority : (newInstance s id source).priority ≠ 3 := low
  rw [enqueueRequest, preempt_low priority, selection_busy still]

/-- The entry of a request's outcome. -/
def requestOutcome (id : Nat) (source : CallSource) (outcome : CallOutcome) (reason : Option Result) (s : State) : ReportEntry :=
  entryNow s .call [byte id, byte outcome.code, byte source.code, byte (callPriority s id), 0, optionByte (reason.map Result.code)]

theorem reportRequest_frame_report (id : Nat) (source : CallSource) (outcome : CallOutcome) (reason : Option Result) (s : State) :
    sameBut [.report, .attention] s (reportRequest id source outcome reason s) = true := report_frame _ _ s

theorem reportRequest_adds (defined : callDefined s id = true) (source : CallSource) (outcome : CallOutcome) (reason : Option Result) :
    Adds [requestOutcome id source outcome reason s] s (reportRequest id source outcome reason s) := by
  have entry := Adds.report .call [byte id, byte outcome.code, byte source.code, byte (callPriority s id), 0,
    optionByte (reason.map Result.code)] s
  rwa [reportRequest, if_pos defined]

/-- A refusal while the player is busy: its entry, and CALL_LOST for want of room. -/
theorem refuseRequest_busy (busy : playerBusy s = true) (source : CallSource) (reason : Result) :
    refuseRequest id source reason s =
      (reason, if reason = .refusedFull then setAttention .callLost (reportRequest id source .refused (some reason) s)
        else reportRequest id source .refused (some reason) s) := by
  have still (u : State) (h : u.calls = s.calls) : selection u = u :=
    selection_busy ((playerBusy_congr (by rw [h])).trans busy)
  simp only [refuseRequest]
  split
  · rw [still _ (by rw [setAttention_calls, reportRequest_calls])]
  · rw [still _ (reportRequest_calls _ _ _ _ _)]

theorem refuseRequest_busy_frame (busy : playerBusy s = true) (source : CallSource) (reason : Result) :
    sameBut [.report, .attention] s (refuseRequest id source reason s).2 = true := by
  rw [refuseRequest_busy busy]
  dsimp only
  split
  · exact sameBut_trans (reportRequest_frame_report _ _ _ _ _) (sameBut_mono (setAttention_frame _ _) (by decide))
  · exact reportRequest_frame_report _ _ _ _ _

theorem newInstance_congr (defs : t.calls.defs = s.calls.defs) (profile : t.command.profile = s.command.profile)
    (clock : t.clock = s.clock) (id : Nat) (source : CallSource) : newInstance t id source = newInstance s id source := by
  simp only [newInstance, callPriority, callLifetime, callEntry, defs, profile, clock, State.timerOf_eq]

theorem callPriority_congr (defs : t.calls.defs = s.calls.defs) (id : Nat) : callPriority t id = callPriority s id := by
  simp only [callPriority, callEntry, defs]

theorem displaceable_last {kept : List CallInstance} {last : CallInstance} {p : Nat} (lower : last.priority < p) :
    displaceable p (kept ++ [last]) = some last := by
  simp [displaceable, lower]

theorem displaceable_none {kept : List CallInstance} {last : CallInstance} {p : Nat} (high : p ≤ last.priority) :
    displaceable p (kept ++ [last]) = none := by
  simp [displaceable, Nat.not_lt.2 high]

/-! ## A displacement (R177) -/

section Displace
variable (victim : CallInstance) (s : State)

theorem displace_after : sameBut [.report, .attention, .calls] s (displace victim s) = true :=
  sameBut_trans (sameBut_mono (setQueue_frame _ s) (by decide))
    (sameBut_trans (sameBut_mono (reportCall_frame_report _ _ _) (by decide)) (sameBut_mono (setAttention_frame _ _) (by decide)))

theorem displace_calls : (displace victim s).calls = { s.calls with queue := s.calls.queue.dropLast } := by
  rw [displace, setAttention_calls, reportCall_calls]
  rfl

theorem displace_adds : Adds [callOutcome victim .displaced s] s (displace victim s) :=
  ((reportCall_adds victim .displaced (setQueue s.calls.queue.dropLast s)).from rfl).to rfl

end Displace

/-! ## A call that starts (R183, R184) -/

/-- An idle player takes the first eligible instance with routes, which sounds. -/
theorem selection_starts {call : CallInstance} {rest : List CallInstance} (player : s.calls.player = .idle)
    (queue : s.calls.queue = call :: rest) (defined : callDefined s call.id = true) (able : eligible s call = true)
    {sounding : CallInstance} {copy : StartCopy} {timer : Timer}
    (starts : (startCall call (setQueue rest s)).calls.player = .sounding sounding copy timer) (long : timer.length ≠ 0) :
    selection s = startCall call (setQueue rest s) := by
  have walked : walkQueue [] (call :: rest) s = startCall call (setQueue rest s) := by
    simp only [walkQueue, defined, able, List.nil_append, starts, Player.isIdle]
    simp
  have stays (n : Nat) : settlePlayer n (startCall call (setQueue rest s)) = startCall call (setQueue rest s) := by
    cases n with
    | zero => rfl
    | succ n => simp [settlePlayer, starts, Player.isIdle, expiresAtOnce, long]
  have settle : selection s = settlePlayer 256 s := rfl
  rw [settle, settlePlayer]
  simp only [player, Player.isIdle, queue, walked, starts, if_pos, stays, Bool.false_eq_true, if_false]

/-- A call with settings and a route starts its first sounding. -/
theorem startCall_sounds {call : CallInstance} {pattern slot : Option Nat} {message gap : Nat} {repeats : Repeats}
    (settings : callSettings s call.id = some (pattern, slot, message, repeats, gap)) (fresh : call.repeats = none)
    (routed : routeStations s (effectiveAreas s call.id) ≠ []) :
    startCall call s = beginSounding { call with timer := none, repeats := some repeats }
      { stations := routeStations s (effectiveAreas s call.id), bells := routeBells s (effectiveAreas s call.id), pattern := pattern
        slot := slot, messageTime := message, repeats := repeats, gap := gap } s := by
  simp [startCall, settings, routed, fresh]

theorem soundingTime_message {copy : StartCopy} (slot : copy.slot.isSome = true) (s : State) :
    copy.messageTime * 1000 ≤ soundingTime s copy := by
  rw [soundingTime_slot slot]
  exact Nat.le_max_right _ _

/-- An idle player whose queue begins with an eligible call of a message and one station sounds it. -/
theorem selection_sounds {call : CallInstance} {rest : List CallInstance} {pattern slot : Option Nat} {message gap station : Nat}
    {repeats : Repeats} {areas : BitVec 12} (player : s.calls.player = .idle) (queue : s.calls.queue = call :: rest)
    (defined : callDefined s call.id = true) (able : eligible s call = true)
    (settings : callSettings s call.id = some (pattern, slot, message, repeats, gap)) (fresh : call.repeats = none)
    (named : slot.isSome = true) (long : 1 ≤ message) (routes : routeStations s (effectiveAreas s call.id) = [(station, areas)]) :
    ∃ sounding copy, selection s = beginSounding sounding copy (setQueue rest s) ∧
      (sounding.id = call.id ∧ sounding.source = call.source ∧ sounding.priority = call.priority ∧ sounding.repeats = some repeats) ∧
      (copy.stations = [(station, areas)] ∧ copy.slot = slot ∧ copy.pattern = pattern) ∧
      message * 1000 ≤ soundingTime (setQueue rest s) copy := by
  have routed : routeStations (setQueue rest s) (effectiveAreas (setQueue rest s) call.id) = [(station, areas)] := routes
  have started := startCall_sounds (s := setQueue rest s) (call := call) settings fresh (by rw [routed]; simp)
  rw [routed] at started
  have time := soundingTime_message (s := setQueue rest s)
    (copy := { stations := [(station, areas)], bells := routeBells (setQueue rest s) (effectiveAreas (setQueue rest s) call.id)
               pattern := pattern, slot := slot, messageTime := message, repeats := repeats, gap := gap }) named
  have starts : ((startCall call (setQueue rest s)).calls).player = .sounding { call with timer := none, repeats := some repeats }
      { stations := [(station, areas)], bells := routeBells (setQueue rest s) (effectiveAreas (setQueue rest s) call.id)
        pattern := pattern, slot := slot, messageTime := message, repeats := repeats, gap := gap }
      { start := (setQueue rest s).clock, length := soundingTime (setQueue rest s)
          { stations := [(station, areas)], bells := routeBells (setQueue rest s) (effectiveAreas (setQueue rest s) call.id)
            pattern := pattern, slot := slot, messageTime := message, repeats := repeats, gap := gap } } := by
    rw [started, beginSounding_calls]
  refine ⟨_, _, (selection_starts player queue defined able starts ?_).trans started, ⟨rfl, rfl, rfl, rfl⟩, ⟨rfl, rfl, rfl⟩, time⟩
  dsimp only at time ⊢
  omega

/-- The frames of a sounding with one station. -/
theorem beginSounding_origin_one {call : CallInstance} {copy : StartCopy} {station : Nat} {areas : BitVec 12}
    (one : copy.stations = [(station, areas)]) (numbered : s.numbered = true) (sending : s.loop.sending.isSome = true)
    (room : s.loop.origin.length < 16) (apart : ∀ q ∈ s.loop.origin, q.frame.kind ≠ kindCall ∨ q.frame.dest ≠ byte station) :
    (beginSounding call copy s).loop = { s.loop with origin := s.loop.origin ++
      [queued s kindCall (byte station) ([1, byte call.id, optionByte copy.slot] ++ maskBytes 2 areas) (decide (call.priority = 3))] } := by
  have opened : soundingOpened call copy s =
      (setPlayer (.sounding call copy (s.timerOf (soundingTime s copy))) s).onLoop fun l =>
        { l with origin := l.origin ++
          [queued s kindCall (byte station) ([1, byte call.id, optionByte copy.slot] ++ maskBytes 2 areas)
            (decide (call.priority = 3))] } := by
    rw [soundingOpened, one, forEach_cons, forEach_nil]
    refine offer_joins (s := setPlayer (.sounding call copy (s.timerOf (soundingTime s copy))) s) numbered sending room fun q hq => ?_
    refine decide_eq_false ?_
    rintro ⟨sameKind, sameDest, -⟩
    obtain other | elsewhere := apart q hq
    · exact other sameKind.symm
    · exact elsewhere sameDest.symm
  cases rung : soundingPattern s copy with
  | none => rw [beginSounding_quiet rung, opened]; rfl
  | some found => rw [beginSounding_rings (number := found.1) (p := found.2) rung, State.onBells_loop, opened]; rfl

/-! ## CALN (R174) -/

theorem callNow_small (small : id ≤ 31) : callNow id s = requestCall id .command s := if_neg (Nat.not_lt.2 small)

theorem callDefined_begin (code : Byte) (h : CommandHeader) (id : Nat) : callDefined (begin code h s) id = callDefined s id := rfl

section Caln
variable {h : CommandHeader} {call : Byte}

/-- A request that CALN takes while the player is busy only joins the queue. -/
theorem caln_joins (a : accepted h s = true) (small : call.toNat ≤ 31) (low : callPriority s call.toNat ≤ 2)
    (defined : callDefined s call.toNat = true) (free : callHeld s call.toNat = false) (room : s.calls.queue.length < 16)
    (busy : playerBusy s = true) :
    replies (.caln h call) h 0x48 (.plain .done) s fun u =>
      u = (begin 0x48 h s).onCalls fun c => { c with queue := insertCall (newInstance s call.toNat .command) c.queue } := by
  have not3 : callPriority (begin 0x48 h s) call.toNat ≠ 3 := by
    change callPriority s call.toNat ≠ 3
    omega
  have response : callNow call.toNat (begin 0x48 h s) = (.done, enqueueRequest call.toNat .command (begin 0x48 h s)) :=
    (callNow_small small).trans (requestCall_room (s := begin 0x48 h s) defined free room _)
  rw [enqueueRequest_busy (s := begin 0x48 h s) not3 busy] at response
  exact replies_simple rfl a response rfl

theorem caln_merges (a : accepted h s = true) (small : call.toNat ≤ 31) (held : callHeld s call.toNat = true)
    (defined : callDefined s call.toNat = true) (busy : playerBusy s = true) :
    replies (.caln h call) h 0x48 (.plain .done) s fun u =>
      sameBut [.report, .attention] (begin 0x48 h s) u = true ∧
      (roomFor 1 s = true → u.phase.report = s.phase.report ++
        [entryNow s .call [call, 2, 2, byte (callPriority s call.toNat), 0, 0xFF]]) := by
  have response : callNow call.toNat (begin 0x48 h s) =
      (.done, selection (reportRequest call.toNat .command .merged none (begin 0x48 h s))) :=
    (callNow_small small).trans (requestCall_held (s := begin 0x48 h s) defined held _)
  have still : playerBusy (reportRequest call.toNat .command .merged none (begin 0x48 h s)) = true :=
    (playerBusy_congr (by rw [reportRequest_calls, begin_calls])).trans busy
  rw [selection_busy still] at response
  refine replies_simple rfl a response ⟨reportRequest_frame_report _ _ _ _ _, fun room => ?_⟩
  have entry := (reportRequest_adds (s := begin 0x48 h s) defined .command .merged none).one room
  rw [requestOutcome, byte_of_toNat] at entry
  exact entry

/-- A full queue loses its last instance to a request of higher priority. -/
theorem caln_displaces (a : accepted h s = true) (small : call.toNat ≤ 31) (low : callPriority s call.toNat ≤ 2)
    (defined : callDefined s call.toNat = true) (free : callHeld s call.toNat = false) (busy : playerBusy s = true)
    {kept : List CallInstance} {last : CallInstance} (queue : s.calls.queue = kept ++ [last]) (full : kept.length = 15)
    (lower : last.priority < callPriority s call.toNat) :
    replies (.caln h call) h 0x48 (.plain .done) s fun u =>
      sameBut [.report, .attention, .calls] (begin 0x48 h s) u = true ∧
      u.calls = { s.calls with queue := insertCall (newInstance s call.toNat .command) kept } ∧
      isRaised .callLost u = true ∧
      (roomFor 1 s = true → u.phase.report = s.phase.report ++
        [entryNow s .call [byte last.id, 4, byte last.source.code, byte last.priority, byte last.soundings, 0xFF]]) := by
  have found : displaceable (callPriority (begin 0x48 h s) call.toNat) (begin 0x48 h s).calls.queue = some last := by
    rw [begin_calls, queue]
    exact displaceable_last lower
  have response : callNow call.toNat (begin 0x48 h s) =
      (.done, enqueueRequest call.toNat .command (displace last (begin 0x48 h s))) :=
    (callNow_small small).trans
      (requestCall_displaces (s := begin 0x48 h s) defined free (by rw [begin_calls, queue]; simp [full]) found _)
  have after := displace_after last (begin 0x48 h s)
  have calls : (displace last (begin 0x48 h s)).calls = { s.calls with queue := kept } := by
    rw [displace_calls, begin_calls, queue, List.dropLast_concat]
  have defs : (displace last (begin 0x48 h s)).calls.defs = s.calls.defs := by rw [calls]
  have not3 : callPriority (displace last (begin 0x48 h s)) call.toNat ≠ 3 := by
    rw [callPriority_congr defs]
    omega
  have still : playerBusy (displace last (begin 0x48 h s)) = true := (playerBusy_congr (by rw [calls])).trans busy
  have instance_ : newInstance (displace last (begin 0x48 h s)) call.toNat .command = newInstance s call.toNat .command :=
    newInstance_congr defs ((profile_of_sameBut after (by decide)).trans (begin_profile _ _ _))
      ((sameBut_clock after (by decide)).trans rfl) _ _
  rw [enqueueRequest_busy not3 still, instance_, calls] at response
  refine replies_simple rfl a response ⟨sameBut_trans after (sameBut_mono (setQueue_frame _ _) (by decide)), ?_, isRaised_set _ _,
    fun room => ?_⟩
  · rw [setQueue, State.onCalls_calls, calls]
  · exact (displace_adds last (begin 0x48 h s)).one room

theorem caln_full (a : accepted h s = true) (small : call.toNat ≤ 31)
    (defined : callDefined s call.toNat = true) (free : callHeld s call.toNat = false) (busy : playerBusy s = true)
    {kept : List CallInstance} {last : CallInstance} (queue : s.calls.queue = kept ++ [last]) (full : kept.length = 15)
    (high : callPriority s call.toNat ≤ last.priority) :
    replies (.caln h call) h 0x48 (.plain .refusedFull) s fun u =>
      sameBut [.report, .attention] (begin 0x48 h s) u = true ∧ isRaised .callLost u = true ∧
      (roomFor 1 s = true → u.phase.report = s.phase.report ++
        [entryNow s .call [call, 3, 2, byte (callPriority s call.toNat), 0, 5]]) := by
  have none_ : displaceable (callPriority (begin 0x48 h s) call.toNat) (begin 0x48 h s).calls.queue = none := by
    rw [begin_calls, queue]
    exact displaceable_none high
  have response : callNow call.toNat (begin 0x48 h s) = refuseRequest call.toNat .command .refusedFull (begin 0x48 h s) :=
    (callNow_small small).trans
      (requestCall_full (s := begin 0x48 h s) defined free (by rw [begin_calls, queue]; simp [full]) none_ _)
  have frame := refuseRequest_busy_frame (s := begin 0x48 h s) (id := call.toNat) busy .command .refusedFull
  rw [refuseRequest_busy (s := begin 0x48 h s) busy, if_pos rfl] at response frame
  refine replies_simple rfl a response ⟨frame, isRaised_set _ _, fun room => ?_⟩
  have entry := (reportRequest_adds (s := begin 0x48 h s) defined .command .refused (some .refusedFull)).one room
  rw [requestOutcome, byte_of_toNat] at entry
  exact entry

/-- An idle player with an empty queue sounds a requested call that is eligible and has a message and one station. -/
theorem caln_starts (a : accepted h s = true) (small : call.toNat ≤ 31) (low : callPriority s call.toNat ≤ 2) {e : CallEntry}
    {station : Nat} {areas : BitVec 12} (found : callEntry s call.toNat = some e) (empty : s.calls.queue = [])
    (idle : s.calls.player = .idle) (able : eligible s (newInstance s call.toNat .command) = true) (slot : e.defn.slot.isSome = true)
    (long : 1 ≤ e.defn.messageTime) (routes : routeStations s (effectiveAreas s call.toNat) = [(station, areas)]) :
    replies (.caln h call) h 0x48 (.plain .done) s fun u =>
      sameBut callParts (begin 0x48 h s) u = true ∧ u.calls.queue = [] ∧
      (∃ sounding copy timer, u.calls.player = .sounding sounding copy timer ∧ sounding.id = call.toNat ∧ sounding.source = .command ∧
        sounding.repeats = some (.count e.defn.repeats) ∧ copy.stations = [(station, areas)] ∧ timer.start = s.clock ∧
        e.defn.messageTime * 1000 ≤ timer.length) ∧
      (quietQueue s = true → u.loop.origin =
        [queued s kindCall (byte station) ([1, call, optionByte e.defn.slot] ++ maskBytes 2 areas) false]) := by
  have defined : callDefined s call.toNat = true := by simp [callDefined, found]
  have free : callHeld s call.toNat = false := by simp [callHeld, empty, idle, Player.call]
  have staff : call.toNat ≠ evacId ∧ call.toNat ≠ staffId := by
    simp only [evacId, staffId]
    omega
  have settings : callSettings s call.toNat =
      some (e.defn.pattern, e.defn.slot, e.defn.messageTime, .count e.defn.repeats, e.defn.gap) := by
    simp [callSettings, staff, found]
  have response : callNow call.toNat (begin 0x48 h s) =
      (.done, selection (setQueue [newInstance s call.toNat .command] (begin 0x48 h s))) := by
    refine (callNow_small small).trans ((requestCall_room (s := begin 0x48 h s) defined free (by rw [begin_calls, empty]; decide) _).trans ?_)
    rw [enqueueRequest, begin_calls, empty, preempt_idle (by exact idle)]
    rfl
  obtain ⟨sounding, copy, sounds, ⟨id_, source, priority, left⟩, ⟨stations, named, -⟩, time⟩ :=
    selection_sounds (s := setQueue [newInstance s call.toNat .command] (begin 0x48 h s)) idle rfl defined able settings rfl slot long routes
  have calls := beginSounding_calls sounding copy (setQueue [] (setQueue [newInstance s call.toNat .command] (begin 0x48 h s)))
  have set_ (u : State) : sameBut callParts u (setQueue [] u) = true := sameBut_mono (setQueue_frame _ _) (by decide)
  rw [sounds] at response
  refine replies_simple rfl a response ⟨?_, ?_, ?_, fun quiet => ?_⟩
  · exact sameBut_trans (sameBut_trans (sameBut_mono (setQueue_frame _ _) (by decide)) (set_ _)) (beginSounding_frame _ _ _)
  · exact congrArg (fun c => c.queue) calls
  · exact ⟨sounding, copy, _, congrArg (fun c => c.player) calls, id_, source, left, stations, rfl, time⟩
  · obtain ⟨sending, origin⟩ := quietQueue_iff.1 quiet
    have low_ : sounding.priority ≠ 3 := by
      rw [priority]
      change callPriority s call.toNat ≠ 3
      omega
    have loop := beginSounding_origin_one (call := sounding) stations
      (s := setQueue [] (setQueue [newInstance s call.toNat .command] (begin 0x48 h s))) (numbered_of_accepted a) sending
      (by change s.loop.origin.length < 16; simp [origin]) (fun q hq => by
        have : q ∈ s.loop.origin := hq
        simp [origin] at this)
    rw [loop]
    change s.loop.origin ++ _ = _
    rw [origin, id_, named, decide_eq_false low_]
    change [] ++ [queued s kindCall (byte station) ([1, byte call.toNat, optionByte e.defn.slot] ++ maskBytes 2 areas) false] = _
    rw [byte_of_toNat, List.nil_append]

end Caln

end Sys2Proof.Machine
end

section
/-! SUPPORT. The STAFF request that pre-empts a sounding call (R186, R187), the first prealarm's step, and the obligation O32. -/

namespace Sys2Proof.Machine

variable {s t w : State} {call : CallInstance} {copy : StartCopy}

/-! ## The queue with STAFF first -/

theorem insertCall_first {new : CallInstance} {queue : List CallInstance} (lower : ∀ c ∈ queue, c.priority < new.priority) :
    insertCall new queue = new :: queue := by
  cases queue with
  | nil => rfl
  | cons c rest => exact if_neg (Nat.not_le.2 (lower c (by simp)))

theorem requeueCall_after {first again : CallInstance} (lower : again.priority < first.priority) (queue : List CallInstance) :
    requeueCall again (first :: queue) = first :: requeueCall again queue := if_pos lower

/-- A requeued instance with the life it has left (R187). -/
def relived (call : CallInstance) (s : State) : CallInstance :=
  { call with timer := call.expiry.map fun t => { start := s.clock, length := min (t - s.clock).toNat 2147483647 } }

/-- The life of an instance is over (R187). -/
def lifeOver (call : CallInstance) (s : State) : Prop := ∃ t, call.expiry = some t ∧ (s.clock - t).toNat < 2147483648

theorem lifeOver_iff : call.expiry.any (reached s.clock) = true ↔ lifeOver call s := by
  simp [lifeOver, Option.any_eq_true, reached]

theorem requeue_over (spent : lifeOver call s) : requeue call s = reportCall call .lapsed s := by
  rw [requeue]
  exact if_pos (lifeOver_iff.2 spent)

theorem relived_eq (call : CallInstance) (s : State) :
    ({ call with timer := call.expiry.bind fun t => some { start := s.clock, length := duration t s.clock } } : CallInstance) =
      relived call s := by
  have left : (call.expiry.bind fun t => some ({ start := s.clock, length := duration t s.clock } : Timer)) =
      call.expiry.map fun t => { start := s.clock, length := min (t - s.clock).toNat 2147483647 } := by
    cases call.expiry <;> rfl
  rw [left, relived]

theorem requeue_room (lives : ¬ lifeOver call s) (room : s.calls.queue.length < 16) :
    requeue call s = setQueue (requeueCall (relived call s) s.calls.queue) s := by
  rw [requeue]
  dsimp only
  rw [if_neg (fun spent => lives (lifeOver_iff.1 spent)), if_pos (by simpa [Config.callCapacity] using room), relived_eq]

theorem requeue_displaces (lives : ¬ lifeOver call s) (full : ¬ s.calls.queue.length < 16) {victim : CallInstance}
    (found : displaceable 2 s.calls.queue = some victim) :
    requeue call s = setQueue (requeueCall (relived call s) (displace victim s).calls.queue) (displace victim s) := by
  rw [requeue]
  dsimp only
  rw [if_neg (fun spent => lives (lifeOver_iff.1 spent)), if_neg (by simpa [Config.callCapacity] using full), found, relived_eq]

theorem requeue_dropped (lives : ¬ lifeOver call s) (full : ¬ s.calls.queue.length < 16)
    (none_ : displaceable 2 s.calls.queue = none) : requeue call s = setAttention .callLost (reportCall call .aborted s) := by
  rw [requeue]
  dsimp only
  rw [if_neg (fun spent => lives (lifeOver_iff.1 spent)), if_neg (by simpa [Config.callCapacity] using full), none_]

/-! ## What becomes of the aborted instance (R186, R187) -/

/-- An aborted instance of lower priority than STAFF: dropped, or requeued with priority 2. -/
def dispossessed (call : CallInstance) (s : State) : State :=
  if call.priority = 2 then requeue call s else setAttention .callLost (reportCall call .aborted s)

theorem preempt_staff (player : s.calls.player.call = some call ∧ s.calls.player.copy = some copy) (low : call.priority < 3) :
    preempt 3 s = dispossessed call (abortSounding call copy s) := by
  simp only [preempt, player, dispossessed, low, and_true, if_true]

/-- What the disposal of the aborted instance leaves: STAFF first, then this queue, with these entries. -/
structure Disposal (staff : CallInstance) (s t : State) (rest : List CallInstance) (entries : List ReportEntry) : Prop where
  same : sameBut [.report, .attention, .calls] s t = true
  calls : t.calls = { s.calls with queue := staff :: rest }
  entries : Adds entries s t

theorem disposal_outcome {staff : CallInstance} {rest : List CallInstance} (queue : s.calls.queue = staff :: rest) (outcome : CallOutcome) :
    Disposal staff s (reportCall call outcome s) rest [callOutcome call outcome s] where
  same := sameBut_mono (reportCall_frame_report _ _ _) (by decide)
  calls := by rw [reportCall_calls, ← queue]
  entries := reportCall_adds call outcome s

theorem Disposal.lost {staff : CallInstance} {rest : List CallInstance} {entries : List ReportEntry}
    (h : Disposal staff s t rest entries) : Disposal staff s (setAttention .callLost t) rest entries where
  same := sameBut_trans h.same (sameBut_mono (setAttention_frame _ _) (by decide))
  calls := h.calls
  entries := h.entries.to rfl

section Dispossessed
variable {staff : CallInstance} {rest : List CallInstance}

theorem dispossessed_low (queue : s.calls.queue = staff :: rest) (low : call.priority ≤ 1) :
    Disposal staff s (dispossessed call s) rest [callOutcome call .aborted s] ∧ isRaised .callLost (dispossessed call s) = true := by
  rw [dispossessed, if_neg (by omega)]
  exact ⟨(disposal_outcome queue _).lost, isRaised_set _ _⟩

theorem dispossessed_over (queue : s.calls.queue = staff :: rest) (two : call.priority = 2) (spent : lifeOver call s) :
    Disposal staff s (dispossessed call s) rest [callOutcome call .lapsed s] := by
  rw [dispossessed, if_pos two, requeue_over spent]
  exact disposal_outcome queue _

theorem dispossessed_requeued (queue : s.calls.queue = staff :: rest) (two : call.priority = 2) (high : staff.priority = 3)
    (lives : ¬ lifeOver call s) (room : rest.length ≤ 14) :
    Disposal staff s (dispossessed call s) (requeueCall (relived call s) rest) [] := by
  have lower : (relived call s).priority < staff.priority := by
    change call.priority < staff.priority
    omega
  rw [dispossessed, if_pos two, requeue_room lives (by rw [queue, List.length_cons]; omega), queue, requeueCall_after lower]
  exact ⟨sameBut_mono (setQueue_frame _ _) (by decide), rfl, .none rfl⟩

theorem dispossessed_displaces {kept : List CallInstance} {last : CallInstance} (queue : s.calls.queue = staff :: (kept ++ [last]))
    (two : call.priority = 2) (high : staff.priority = 3) (lives : ¬ lifeOver call s) (full : kept.length = 14)
    (lower : last.priority ≤ 1) :
    Disposal staff s (dispossessed call s) (requeueCall (relived call s) kept) [callOutcome last .displaced s] ∧
      isRaised .callLost (dispossessed call s) = true := by
  have below : (relived call s).priority < staff.priority := by
    change call.priority < staff.priority
    omega
  have found : displaceable 2 s.calls.queue = some last := by
    rw [queue, ← List.cons_append]
    exact displaceable_last (by omega)
  have shorter : (displace last s).calls = { s.calls with queue := staff :: kept } := by
    rw [displace_calls, queue, ← List.cons_append, List.dropLast_concat]
  rw [dispossessed, if_pos two, requeue_displaces lives (by rw [queue]; simp [full]) found]
  refine ⟨⟨sameBut_trans (displace_after last s) (sameBut_mono (setQueue_frame _ _) (by decide)), ?_,
    (displace_adds last s).to rfl⟩, isRaised_set _ _⟩
  rw [setQueue, State.onCalls_calls, shorter]
  exact congrArg (fun q => { s.calls with queue := q }) (requeueCall_after below kept)

theorem dispossessed_dropped {kept : List CallInstance} {last : CallInstance} (queue : s.calls.queue = staff :: (kept ++ [last]))
    (two : call.priority = 2) (lives : ¬ lifeOver call s) (full : kept.length = 14) (high : last.priority = 2) :
    Disposal staff s (dispossessed call s) (kept ++ [last]) [callOutcome call .aborted s] ∧
      isRaised .callLost (dispossessed call s) = true := by
  have none_ : displaceable 2 s.calls.queue = none := by
    rw [queue, ← List.cons_append]
    exact displaceable_none (by omega)
  rw [dispossessed, if_pos two, requeue_dropped lives (by rw [queue]; simp [full]) none_]
  exact ⟨(disposal_outcome queue _).lost, isRaised_set _ _⟩

/-- Whatever becomes of the instance, STAFF stands first. -/
theorem dispossessed_disposal (queue : s.calls.queue = staff :: rest) (low : call.priority ≤ 2) (high : staff.priority = 3)
    (waiting : ∀ c ∈ rest, c.priority ≤ 2) (few : rest.length ≤ 15) :
    ∃ after entries, Disposal staff s (dispossessed call s) after entries := by
  by_cases two : call.priority = 2
  · by_cases spent : lifeOver call s
    · exact ⟨_, _, dispossessed_over queue two spent⟩
    · by_cases room : rest.length ≤ 14
      · exact ⟨_, _, dispossessed_requeued queue two high spent room⟩
      · obtain ⟨kept, last, rfl⟩ : ∃ kept last, rest = kept ++ [last] :=
          ⟨rest.dropLast, rest.getLast (by intro h; simp [h] at room), (List.dropLast_concat_getLast _).symm⟩
        have full : kept.length = 14 := by
          simp only [List.length_append, List.length_singleton] at few room
          omega
        have bounded := waiting last (by simp)
        by_cases lower : last.priority ≤ 1
        · exact ⟨_, _, (dispossessed_displaces queue two high spent full lower).1⟩
        · exact ⟨_, _, (dispossessed_dropped queue two spent full (by omega)).1⟩
  · exact ⟨_, _, (dispossessed_low queue (by omega)).1⟩

end Dispossessed

end Sys2Proof.Machine
end

section
/-! SUPPORT. The STAFF request over a sounding call (R174, R186, R187). -/

namespace Sys2Proof.Machine

variable {s t w : State} {call : CallInstance} {copy : StartCopy}

theorem effectiveAreas_congr (areas : t.calls.areas = s.calls.areas) (phase : t.phase.phase = s.phase.phase) :
    effectiveAreas t staffId = effectiveAreas s staffId := by
  simp [effectiveAreas, callNames, evacId, staffId, areas, phase]

theorem routeStations_congr (selectors : t.calls.selectors = s.calls.selectors) (areas : List (Nat × AreaDef)) :
    routeStations t areas = routeStations s areas := by
  have routes : routeOf t = routeOf s := funext fun d => by simp only [routeOf, planOf, selectors]
  simp only [routeStations, routes]

theorem eligible_staff {staff : CallInstance} (id : staff.id = staffId) (high : staff.priority = 3) (s : State) :
    eligible s staff = true := by
  simp only [eligible, id, high]
  cases callEntry s staffId <;> simp

theorem callDefined_staff (s : State) : callDefined s staffId = true := by simp [callDefined]

theorem callPriority_staff (s : State) : callPriority s staffId = 3 := by simp [callPriority]

theorem callSettings_staff (s : State) : callSettings s staffId =
    some (s.command.profile.staffPattern, s.command.profile.staffSlot, s.command.profile.staffMessage, .count 1, 0) := by
  simp [callSettings, staffId, evacId]

theorem isRaised_forEach {α : Type} {flag : Flag} {f : α → State → State} (h : ∀ a u, isRaised flag (f a u) = isRaised flag u)
    (items : List α) (s : State) : isRaised flag (forEach items f s) = isRaised flag s :=
  forEach_induction (P := fun u => isRaised flag u = isRaised flag s) _ _ _ (fun a _ u hu => (h a u).trans hu) rfl

theorem isRaised_beginSounding {flag : Flag} (other : flag ≠ .originOverrun) (call : CallInstance) (copy : StartCopy) (s : State) :
    isRaised flag (beginSounding call copy s) = isRaised flag s := by
  have opened : isRaised flag (soundingOpened call copy s) = isRaised flag s :=
    isRaised_forEach (fun _ _ => isRaised_offer other _ _ _ _ _) _ _
  cases rung : soundingPattern s copy with
  | none => rwa [beginSounding_quiet rung]
  | some found =>
    rw [beginSounding_rings (number := found.1) (p := found.2) rung]
    exact opened

/-! ## The request -/

/-- The sounding call aborted behind STAFF in the queue (R186). -/
def overridden (call : CallInstance) (copy : StartCopy) (s : State) : State :=
  abortSounding call copy (setQueue (newInstance s staffId .fire :: s.calls.queue) s)

/-- The player taken from the sounding call, its instance disposed of behind STAFF (R186, R187). -/
def unseated (call : CallInstance) (copy : StartCopy) (s : State) : State := dispossessed call (overridden call copy s)

/-- The player holds this call. -/
def holdsCall (call : CallInstance) (copy : StartCopy) (s : State) : Prop :=
  s.calls.player.call = some call ∧ s.calls.player.copy = some copy

theorem holdsCall_of {timer : Timer} (h : s.calls.player = .sounding call copy timer ∨ s.calls.player = .gap call copy timer) :
    holdsCall call copy s := by
  obtain h | h := h <;> simp [holdsCall, h, Player.call, Player.copy]

section Request
variable (held : holdsCall call copy s) (low : call.priority ≤ 2) (other : call.id ≠ 63)
  (waiting : ∀ c ∈ s.calls.queue, c.priority ≤ 2 ∧ c.id ≠ 63) (few : s.calls.queue.length ≤ 15)
include held low other waiting few

/-- STAFF is not held and finds room: it unseats the call, and a selection follows. -/
theorem requestStaff_eq : (requestCall staffId .fire s).2 = selection (unseated call copy s) := by
  have free : callHeld s staffId = false := by
    simp only [callHeld, held.1, Option.map_some, Bool.or_eq_false_iff, List.any_eq_false, decide_eq_true_eq]
    exact ⟨fun c hc => (waiting c hc).2, by simpa [staffId] using other⟩
  have first : insertCall (newInstance s staffId .fire) s.calls.queue = newInstance s staffId .fire :: s.calls.queue := by
    refine insertCall_first fun c hc => ?_
    have bounded := (waiting c hc).1
    rw [show (newInstance s staffId .fire).priority = 3 from callPriority_staff s]
    omega
  rw [requestCall_room (callDefined_staff s) free (by omega), enqueueRequest]
  dsimp only
  rw [first, show (newInstance s staffId .fire).priority = 3 from callPriority_staff s, preempt_staff (s := setQueue (newInstance s staffId .fire :: s.calls.queue) s) held (by omega), unseated, overridden]

end Request

/-- What an abort of the sounding call leaves. -/
theorem overridden_after (call : CallInstance) (copy : StartCopy) (s : State) :
    sameBut [.sender, .outputs, .attention, .calls, .bells] s (overridden call copy s) = true :=
  sameBut_trans (sameBut_mono (setQueue_frame _ _) (by decide)) (abortSounding_after _ _ _)

theorem overridden_calls (call : CallInstance) (copy : StartCopy) (s : State) : (overridden call copy s).calls =
    { s.calls with queue := newInstance s staffId .fire :: s.calls.queue, player := .idle } := by
  rw [overridden, abortSounding_calls]
  rfl

section Request
variable (low : call.priority ≤ 2) (waiting : ∀ c ∈ s.calls.queue, c.priority ≤ 2 ∧ c.id ≠ 63) (few : s.calls.queue.length ≤ 15)
include low waiting few

/-- Whatever becomes of the sounding instance, STAFF stands first. -/
theorem unseated_disposal (copy : StartCopy) :
    ∃ rest entries, Disposal (newInstance s staffId .fire) (overridden call copy s) (unseated call copy s) rest entries := by
  refine dispossessed_disposal (by rw [overridden_calls]) low (callPriority_staff s) (fun c hc => (waiting c hc).1) few

variable (held : holdsCall call copy s) (other : call.id ≠ 63)
include held other

/-- STAFF starts. -/
theorem requestStaff_starts {station : Nat} {areas : BitVec 12} (named : s.command.profile.staffSlot.isSome = true)
    (long : 1 ≤ s.command.profile.staffMessage) (routes : routeStations s (effectiveAreas s staffId) = [(station, areas)])
    {rest : List CallInstance} {entries : List ReportEntry}
    (disposal : Disposal (newInstance s staffId .fire) (overridden call copy s) (unseated call copy s) rest entries) :
    ∃ staff staffCopy,
      (requestCall staffId .fire s).2 = beginSounding staff staffCopy (setQueue rest (unseated call copy s)) ∧
      (staff.id = 63 ∧ staff.source = .fire ∧ staff.priority = 3 ∧ staff.repeats = some (.count 1)) ∧
      (staffCopy.stations = [(station, areas)] ∧ staffCopy.slot = s.command.profile.staffSlot ∧
        staffCopy.pattern = s.command.profile.staffPattern) := by
  have after : sameBut [.sender, .outputs, .attention, .report, .calls, .bells] s (unseated call copy s) = true :=
    sameBut_trans (sameBut_mono (overridden_after call copy s) (by decide)) (sameBut_mono disposal.same (by decide))
  have place : (unseated call copy s).calls = { s.calls with queue := newInstance s staffId .fire :: rest, player := .idle } := by
    rw [disposal.calls, overridden_calls]
  have profile : (unseated call copy s).command.profile = s.command.profile := profile_of_sameBut after (by decide)
  have route : routeStations (unseated call copy s) (effectiveAreas (unseated call copy s) staffId) = [(station, areas)] := by
    rw [effectiveAreas_congr (by rw [place]) (phase_of_record (sameBut_record after (by decide))), routeStations_congr (s := s) (by rw [place]),
      routes]
  have settings := callSettings_staff (unseated call copy s)
  rw [profile] at settings
  obtain ⟨staff, staffCopy, sounds, ⟨id, source, priority, repeats⟩, shape, -⟩ :=
    selection_sounds (s := unseated call copy s) (call := newInstance s staffId .fire) (rest := rest) (by rw [place]) (by rw [place])
      (callDefined_staff _) (eligible_staff rfl (callPriority_staff s) _) settings rfl named long route
  exact ⟨staff, staffCopy, (requestStaff_eq held low other waiting few).trans sounds,
    ⟨id, source, priority.trans (callPriority_staff s), repeats⟩, shape⟩

end Request

end Sys2Proof.Machine
end

section
/-! SUPPORT. A zone's change of state as its parts (R106 to R110), the record that zone states give (R120), and what the steps
of the Zone Monitor hand on (R102, R121). -/

namespace Sys2Proof.Machine

variable {s t w : State} {z : Nat} {zone : Zone} {new : ZoneState} {verify : Option Timer} {cause : ZoneCause}

/-! ## A change of a zone's state -/

/-- The zone's record after a report (R103). -/
def Zone.heard (zone : Zone) (condition : Condition) (s : State) : Zone :=
  { zone with
    last := condition
    lastReport := s.clock
    stale := false
    staleTimer := some { start := s.clock, length := s.command.profile.zoneReportLimit * 1000 } }

/-- A zone's entry. -/
def zoneEntry (z : Nat) (new previous : ZoneState) (cause : ZoneCause) (s : State) : ReportEntry :=
  entryNow s .zone [byte z, byte new.code, byte previous.code, cause.code]

/-- The zone has entered its new state, before any coincidence (R106, R110). -/
def stateMoved (z : Nat) (zone : Zone) (new : ZoneState) (verify : Option Timer) (cause : ZoneCause) (s : State) : State :=
  zoneFaultAttention zone.state new
    (reportZone z new zone.state cause (setZone z (some { zone with state := new, verifyTimer := verify }) s))

theorem enterZone_stays (found : zoneAt s z = some zone) (same : zone.state = new) : enterZone z new verify cause s = s := by
  rw [enterZone]
  exact if_pos (zoneIs_iff.2 ⟨zone, found, same⟩)

theorem moveZone_moves (found : zoneAt s z = some zone) (moves : zone.state ≠ new) :
    moveZone z new verify cause s = stateMoved z zone new verify cause s := by
  simp only [moveZone, found, stateMoved]
  exact if_neg moves

theorem enterZone_moves (found : zoneAt s z = some zone) (moves : zone.state ≠ new) : enterZone z new verify cause s =
    if new.coincides then coincide z (stateMoved z zone new verify cause s) else stateMoved z zone new verify cause s := by
  have stays : ¬ zoneIs s z new = true := fun h => by
    obtain ⟨other, at_, state⟩ := zoneIs_iff.1 h
    cases found.symm.trans at_
    exact moves state
  rw [enterZone, if_neg stays]
  dsimp only
  rw [moveZone_moves found moves]

theorem stateMoved_zones (z : Nat) (zone : Zone) (new : ZoneState) (verify : Option Timer) (cause : ZoneCause) (s : State) :
    (stateMoved z zone new verify cause s).zones = (setZone z (some { zone with state := new, verifyTimer := verify }) s).zones := by
  rw [stateMoved, zoneFaultAttention_zones, reportZone_zones]

theorem zoneAt_of_zones (h : t.zones = s.zones) (i : Nat) : zoneAt t i = zoneAt s i := by simp only [zoneAt, h]

theorem zoneIs_of_zones (h : t.zones = s.zones) (i : Nat) (state : ZoneState) : zoneIs t i state = zoneIs s i state := by
  simp only [zoneIs, zoneAt_of_zones h]

theorem zoneAt_stateMoved (range : z < 48) (i : Nat) : zoneAt (stateMoved z zone new verify cause s) i =
    if z = i then some { zone with state := new, verifyTimer := verify } else zoneAt s i := by
  rw [zoneAt_of_zones (stateMoved_zones _ _ _ _ _ _), zoneAt_setZone]
  simp [range]

theorem zoneFaultAttention_report (previous new : ZoneState) (s : State) :
    (zoneFaultAttention previous new s).phase = s.phase := by
  unfold zoneFaultAttention
  split <;> rfl

theorem zoneFaultAttention_after (previous new : ZoneState) (s : State) :
    sameBut [.attention] s (zoneFaultAttention previous new s) = true := by
  unfold zoneFaultAttention
  split
  · exact setAttention_frame _ _
  · exact sameBut_refl _ _

theorem stateMoved_after (z : Nat) (zone : Zone) (new : ZoneState) (verify : Option Timer) (cause : ZoneCause) (s : State) :
    sameBut [.zones, .report, .attention] s (stateMoved z zone new verify cause s) = true :=
  sameBut_trans (sameBut_mono (onZones_frame s _) (by decide))
    (sameBut_trans (sameBut_mono (report_frame _ _ _) (by decide)) (sameBut_mono (zoneFaultAttention_after _ _ _) (by decide)))

theorem stateMoved_adds (z : Nat) (zone : Zone) (new : ZoneState) (verify : Option Timer) (cause : ZoneCause) (s : State) :
    Adds [zoneEntry z new zone.state cause s] s (stateMoved z zone new verify cause s) :=
  ((Adds.report .zone [byte z, byte new.code, byte zone.state.code, cause.code]
    (setZone z (some { zone with state := new, verifyTimer := verify }) s)).from rfl).to
      (by rw [stateMoved, zoneFaultAttention_report]; rfl)

theorem isRaised_stateMoved_fault (fault : new.isFault = true) (fresh : zone.state.isFault = false) :
    isRaised .zoneFault (stateMoved z zone new verify cause s) = true := by
  rw [stateMoved, zoneFaultAttention, if_pos ⟨fault, by simp [fresh]⟩]
  exact isRaised_set _ _

/-! ## Coincidences -/

theorem linked_congr (defns : ∀ i, (zoneAt t i).map Zone.defn = (zoneAt s i).map Zone.defn) (a b : Nat) : linked t a b = linked s a b := by
  have first := defns a
  have second := defns b
  unfold linked
  cases hta : zoneAt t a <;> cases hsa : zoneAt s a <;> cases htb : zoneAt t b <;> cases hsb : zoneAt s b <;>
    simp [hta, hsa, htb, hsb] at first second ⊢
  rw [first, second]

theorem linked_stateMoved (found : zoneAt s z = some zone) (a b : Nat) : linked (stateMoved z zone new verify cause s) a b = linked s a b := by
  refine linked_congr (fun i => ?_) a b
  rw [zoneAt_stateMoved (lt_of_zoneAt found)]
  split
  · next same => rw [← same, found]; rfl
  · rfl

/-- A zone that no other is linked to makes no coincidence. -/
theorem coincide_alone (alone : ∀ other, linked s z other = false) : coincide z s = s := by
  have none_ : linkedMasked s z = [] := List.filter_eq_nil_iff.2 fun i _ => by simp [alone]
  have calm : linkedAlarmed s z = false := List.any_eq_false.2 fun i _ => by simp [alone]
  rw [coincide, coincideLoop, none_, forEach_nil, calm, if_neg (by simp)]
  rfl

theorem enterZone_alone (found : zoneAt s z = some zone) (moves : zone.state ≠ new) (alone : ∀ other, linked s z other = false) :
    enterZone z new verify cause s = stateMoved z zone new verify cause s := by
  rw [enterZone_moves found moves]
  split
  · exact coincide_alone fun other => (linked_stateMoved found z other).trans (alone other)
  · rfl

/-! ## The record of the zone states (R120) -/

theorem confirmedZones_eq_nil : confirmedZones s = [] ↔ (∀ i, zoneIs s i .confirmed = false) ∧ s.zones.panel.state ≠ .confirmed := by
  simp only [confirmedZones, List.append_eq_nil_iff, List.filter_eq_nil_iff, List.mem_range, ite_eq_right_iff, List.cons_ne_nil, imp_false]
  refine and_congr_left fun _ => ⟨fun h i => ?_, fun h i _ => by simp [h]⟩
  cases is : zoneIs s i .confirmed with
  | false => rfl
  | true =>
    obtain ⟨zone, at_, -⟩ := zoneIs_iff.1 is
    exact absurd is (h i (lt_of_zoneAt at_))

theorem anyZone_iff {kind : ZoneState → Bool} : anyZone s kind = true ↔ ∃ i zone, zoneAt s i = some zone ∧ kind zone.state = true := by
  simp only [anyZone, List.any_eq_true, Option.any_eq_true]
  constructor
  · rintro ⟨o, mem, zone, rfl, h⟩
    obtain ⟨i, hi⟩ := mem_zones.1 mem
    exact ⟨i, zone, hi, h⟩
  · rintro ⟨i, zone, hi, h⟩
    exact ⟨some zone, mem_zones.2 ⟨i, hi⟩, zone, rfl, h⟩

theorem sideConfirmed_none (none_ : confirmedZones s = []) (side : Side) : sideConfirmed s side = false := by
  obtain ⟨zones, panel⟩ := confirmedZones_eq_nil.1 none_
  rw [sideConfirmed, decide_eq_false panel, Bool.false_or]
  refine anyZone_eq_false fun i zone hi => decide_eq_false fun confirmed => ?_
  exact absurd (zoneIs_iff.2 ⟨zone, hi, confirmed.1⟩) (by simp [zones i])

/-! ## The step (R102) -/

theorem alarmClosure_calm (none_ : confirmedZones s = []) : alarmClosure s = s := if_neg fun some_ => some_ none_

theorem zoneStep_changes {origin : Byte} {change : State → State} (changes : derivedAlarm (alarmClosure (change s)) ≠ s.zones.alarm) :
    zoneStep origin change s = handOn evacuate s.zones.alarm origin (stepRecord change s) := by
  obtain ⟨same, -⟩ | handed := zoneStepWith_cases evacuate origin change s
  · exact absurd same changes
  · exact handed

theorem curtainToldStage_same (same : s.zones.alarm.stage = s.curtain.stageAlarm) : curtainToldStage s.zones.alarm.stage s = s :=
  if_pos same

theorem curtainToldAlarm_calm {before : AlarmRecord} (same : s.zones.alarm.stage = s.curtain.stageAlarm)
    (calm : s.zones.alarm.confirmed = []) : curtainToldAlarm before s = s := by
  rw [curtainToldAlarm, curtainToldStage_same same, if_neg (by simp [calm])]

theorem callsToldAlarm_busy {before : AlarmRecord} (busy : playerBusy s = true) (calm : s.zones.alarm.confirmed = []) :
    callsToldAlarm before s = s := by
  rw [callsToldAlarm, if_neg (by simp [calm]), selection_busy busy]

theorem takeZoneFrame_pair (z code : Byte) (s : State) :
    takeZoneFrame [z, code] s = zoneStep z (zoneReport z.toNat (Condition.ofByte code)) s := by
  simp [takeZoneFrame, zonePairs, forEach_cons, forEach_nil]

theorem handToOwner_zone {f : Frame} (zones : f.kind = kindZone) (s : State) : handToOwner f s = takeZoneFrame f.payload s := by
  rw [handToOwner, zones, if_neg (by decide), if_neg (by decide), if_pos rfl]

/-- A report as the zone's stored record and its new state (R103 to R105). -/
theorem zoneReport_eq (found : zoneAt s z = some zone) (condition : Condition) : zoneReport z condition s =
    confirmedFault z zone.state zone.last condition .report
      (enterZone z (reportedState (covered s z) zone condition)
        (if reportedState (covered s z) zone condition = .verifying then some (s.timerOf (zone.defn.verification * 100)) else none)
        .report (setZone z (some (zone.heard condition s)) s)) := by
  simp only [zoneReport, found]
  rfl

theorem confirmedFault_quiet {state : ZoneState} {last condition : Condition}
    (quiet : ¬ (state = .confirmed ∧ condition = .fault ∧ last ≠ .fault)) : confirmedFault z state last condition cause s = s :=
  if_neg quiet

end Sys2Proof.Machine
end

section
/-! SUPPORT. The first prealarm's step, which requests STAFF (R122), and the obligation O32. -/

namespace Sys2Proof.Machine

variable {s t w : State} {call : CallInstance} {copy : StartCopy}

/-! ## The first prealarm -/

/-- A zone in NORMAL has reported PREALARM. -/
def prealarmed (z : Nat) (zone : Zone) (s : State) : State :=
  stateMoved z (zone.heard .prealarm s) .prealarm none .report (setZone z (some (zone.heard .prealarm s)) s)

/-- The record handed on, and the telling that comes before the request of STAFF (R121). -/
def prealarmTold (z : Byte) (zone : Zone) (s : State) : State :=
  deriveK4 (setAttention .alarmChange (reportAlarm z
    ((prealarmed z.toNat zone s).onZones fun m => { m with alarm := derivedAlarm (prealarmed z.toNat zone s) })))

section Prealarm
variable {z : Byte} {zone : Zone} (found : zoneAt s z.toNat = some zone) (normal : zone.state = .normal)
include found

theorem zoneAt_prealarmed (i : Nat) : zoneAt (prealarmed z.toNat zone s) i =
    if z.toNat = i then some { zone.heard .prealarm s with state := .prealarm, verifyTimer := none } else zoneAt s i := by
  have range := lt_of_zoneAt found
  rw [prealarmed, zoneAt_stateMoved range, zoneAt_setZone]
  by_cases same : z.toNat = i <;> simp [same]

include normal

theorem zoneReport_prealarm : zoneReport z.toNat .prealarm s = prealarmed z.toNat zone s := by
  have at_ : zoneAt (setZone z.toNat (some (zone.heard .prealarm s)) s) z.toNat = some (zone.heard .prealarm s) := by
    rw [zoneAt_setZone, if_pos ⟨rfl, lt_of_zoneAt found⟩]
  have moves : (zone.heard .prealarm s).state ≠ .prealarm := by simp [Zone.heard, normal]
  have next : reportedState (covered s z.toNat) zone .prealarm = .prealarm := by simp [reportedState, normal]
  rw [zoneReport_eq found, next, confirmedFault_quiet (by simp), if_neg (by decide), enterZone_moves at_ moves, if_neg (by decide)]
  rfl

variable (derived : recordDerived s = true) (calm : s.zones.alarm.confirmed = [])
include derived calm

omit normal in
theorem confirmedZones_prealarmed : confirmedZones (prealarmed z.toNat zone s) = [] := by
  rw [(recordDerived_iff.1 derived).1] at calm
  obtain ⟨zones, panel⟩ := confirmedZones_eq_nil.1 calm
  refine confirmedZones_eq_nil.2 ⟨fun i => ?_, ?_⟩
  · simp only [zoneIs, zoneAt_prealarmed found]
    split
    · rfl
    · exact zones i
  · rw [prealarmed, stateMoved_zones]
    exact panel

/-- The first prealarm makes a step whose change is handed on. -/
theorem zoneStep_prealarm (first : s.zones.alarm.prealarm = false) (busy : playerBusy s = true) :
    zoneStep z (zoneReport z.toNat .prealarm) s = notice true (requestCall staffId .fire (prealarmTold z zone s)).2 := by
  have none_ := confirmedZones_prealarmed found derived calm
  have closed : alarmClosure (zoneReport z.toNat .prealarm s) = prealarmed z.toNat zone s := by
    rw [zoneReport_prealarm found normal, alarmClosure_calm none_]
  have raised : (derivedAlarm (prealarmed z.toNat zone s)).prealarm = true :=
    anyZone_iff.2 ⟨z.toNat, _, (zoneAt_prealarmed found _).trans (if_pos rfl), rfl⟩
  have stage : (derivedAlarm (prealarmed z.toNat zone s)).stage = s.curtain.stageAlarm := by
    obtain ⟨record, told⟩ := recordDerived_iff.1 derived
    have before : confirmedZones s = [] := by rwa [record] at calm
    rw [told, record]
    exact (sideConfirmed_none none_ .stage).trans (sideConfirmed_none before .stage).symm
  have changes : derivedAlarm (alarmClosure (zoneReport z.toNat .prealarm s)) ≠ s.zones.alarm := by
    rw [closed]
    intro same
    rw [same, first] at raised
    exact Bool.false_ne_true raised
  have after := stateMoved_after z.toNat (zone.heard .prealarm s) .prealarm none .report
    (setZone z.toNat (some (zone.heard .prealarm s)) s)
  have curtain : (prealarmed z.toNat zone s).curtain = s.curtain := (sameBut_curtain after (by decide)).trans rfl
  have calls : (prealarmed z.toNat zone s).calls = s.calls := (sameBut_calls after (by decide)).trans rfl
  rw [zoneStep_changes changes, stepRecord, closed, handOn]
  have reported (u : State) : sameBut [.report, .attention] u (setAttention .alarmChange (reportAlarm z u)) = true :=
    sameBut_trans (report_frame _ _ u) (sameBut_mono (setAttention_frame _ _) (by decide))
  generalize handed : (prealarmed z.toNat zone s).onZones _ = u at *
  have zones : u.zones.alarm = derivedAlarm (prealarmed z.toNat zone s) := by rw [← handed]; rfl
  have uCurtain : u.curtain = s.curtain := by rw [← handed, State.onZones_curtain, curtain]
  have uCalls : u.calls = s.calls := by rw [← handed, State.onZones_calls, calls]
  have told := reported u
  have toldZones := sameBut_zones told (by decide)
  have toldAlarm : (setAttention .alarmChange (reportAlarm z u)).zones.alarm = derivedAlarm (prealarmed z.toNat zone s) := by
    rw [toldZones, zones]
  rw [curtainToldAlarm_calm, callsToldAlarm_busy]
  · rw [if_neg, staffRequest, if_pos]
    · rw [prealarmTold, handed]
    · rw [zones]
      exact ⟨by simp [first], raised, none_⟩
    · rw [zones]
      exact fun h => h.2 none_
  · refine (playerBusy_congr ?_).trans busy
    exact (congrArg (fun c => c.player) (sameBut_calls told (by decide))).trans (by rw [uCalls])
  · rw [show (deriveK4 (setAttention .alarmChange (reportAlarm z u))).zones = (setAttention .alarmChange (reportAlarm z u)).zones from rfl,
      toldAlarm]
    exact none_
  · rw [toldAlarm, stage, sameBut_curtain told (by decide), uCurtain]
  · rw [toldAlarm]
    exact none_

end Prealarm

/-- What the change itself leaves. -/
theorem prealarmTold_after (z : Byte) (zone : Zone) (s : State) :
    sameBut [.zones, .report, .attention, .lights] s (prealarmTold z zone s) = true :=
  sameBut_trans (sameBut_mono (setZone_frame z.toNat (some (zone.heard .prealarm s)) s) (by decide))
    (sameBut_trans (sameBut_mono (stateMoved_after _ _ _ _ _ _) (by decide))
      (sameBut_trans (sameBut_mono (onZones_frame _ _) (by decide))
        (sameBut_trans (sameBut_mono (report_frame _ _ _) (by decide))
          (sameBut_trans (sameBut_mono (setAttention_frame _ _) (by decide)) (sameBut_mono (deriveK4_frame _) (by decide))))))

/-- The entry of a change of the record. -/
def alarmEntry (origin : Byte) (s : State) : ReportEntry :=
  entryNow s .alarm [byte s.zones.alarm.confirmed.length, packBits s.zones.alarm.bits, origin]

theorem reportAlarm_adds (origin : Byte) (s : State) : Adds [alarmEntry origin s] s (reportAlarm origin s) := .report _ _ s

theorem prealarmTold_adds (z : Byte) (zone : Zone) (s : State) :
    ∃ first second, Adds [first, second] s (prealarmTold z zone s) := by
  have zoneAdds := (stateMoved_adds z.toNat (zone.heard .prealarm s) .prealarm none .report
    (setZone z.toNat (some (zone.heard .prealarm s)) s)).from (s := s) rfl
  have alarmAdds := (reportAlarm_adds z
    ((prealarmed z.toNat zone s).onZones fun m => { m with alarm := derivedAlarm (prealarmed z.toNat zone s) })).from
      (s := prealarmed z.toNat zone s) rfl
  exact ⟨_, _, (zoneAdds.trans alarmAdds).to rfl⟩

/-! ## What the request leaves -/

theorem queued_congr (node : t.loop.node = s.loop.node) (kind dest : Byte) (payload : List Byte) (urgent : Bool) :
    queued t kind dest payload urgent = queued s kind dest payload urgent := by
  simp only [queued, State.nodeByte, node]

/-- The stops of an aborted sounding are all that its routes' frames add. -/
theorem abortSounding_loop (numbered : s.numbered = true) (quiet : quietQueue s = true)
    (distinct : (copy.stations.map fun station => byte station.1).Nodup) (few : copy.stations.length ≤ 16) :
    (abortSounding call copy s).loop = { s.loop with origin := (abortSounding call copy s).loop.origin } := by
  have frames := forEach_offers_quiet (s := stopRoutes copy s)
    (kind := kindCall) (urgent := decide (call.priority = 3)) (dest := fun station : Nat × BitVec 12 => byte station.1)
    (payload := fun _ => [2, byte call.id]) (by rwa [stopRoutes_eq]) (by rwa [stopRoutes_eq]) distinct few
  have stopped : (stopRoutes copy s).loop = s.loop := by rw [stopRoutes_eq, State.onBells_loop]
  have loop : (abortSounding call copy s).loop = _ := congrArg (fun t => t.loop) frames
  rw [loop, State.onLoop_loop, stopped]

section Request
variable (low : call.priority ≤ 2) (waiting : ∀ c ∈ s.calls.queue, c.priority ≤ 2 ∧ c.id ≠ 63) (few : s.calls.queue.length ≤ 15)
  (held : holdsCall call copy s) (other : call.id ≠ 63) {station : Nat} {areas : BitVec 12}
  (named : s.command.profile.staffSlot.isSome = true) (long : 1 ≤ s.command.profile.staffMessage)
  (routes : routeStations s (effectiveAreas s staffId) = [(station, areas)])
include low other waiting few held named long routes

theorem requestStaff_player : ∃ staff staffCopy sounds,
    (requestCall staffId .fire s).2.calls.player = .sounding staff staffCopy sounds ∧ staff.id = 63 ∧
      staff.source = .fire ∧ staff.priority = 3 ∧ staff.repeats = some (.count 1) ∧
      staffCopy.stations = [(station, areas)] ∧ sounds.start = s.clock := by
  obtain ⟨rest, entries, disposal⟩ := unseated_disposal low waiting few copy
  obtain ⟨staff, staffCopy, starts, ⟨id, source, priority, repeats⟩, stations, -, -⟩ :=
    requestStaff_starts low waiting few held other named long routes disposal
  have clock : (unseated call copy s).clock = s.clock :=
    (sameBut_clock disposal.same (by decide)).trans (sameBut_clock (overridden_after call copy s) (by decide))
  have calls := beginSounding_calls staff staffCopy (setQueue rest (unseated call copy s))
  exact ⟨staff, staffCopy, _, (congrArg (fun u => u.calls.player) starts).trans (congrArg (fun c => c.player) calls), id, source, priority,
    repeats, stations, clock⟩

theorem requestStaff_generators (silent : s.command.profile.staffPattern = none) {b : Nat} (range : b < 4) :
    (requestCall staffId .fire s).2.bells.generators[b]? =
      if b ∈ copy.bells then some Generator.initial else s.bells.generators[b]? := by
  obtain ⟨rest, entries, disposal⟩ := unseated_disposal low waiting few copy
  obtain ⟨staff, staffCopy, starts, -, -, -, pattern⟩ := requestStaff_starts low waiting few held other named long routes disposal
  have quiet : soundingPattern (setQueue rest (unseated call copy s)) staffCopy = none :=
    soundingPattern_none (by rw [pattern, silent]; rfl)
  have bells : (setQueue rest (unseated call copy s)).bells = (overridden call copy s).bells :=
    sameBut_bells disposal.same (by decide)
  rw [starts, beginSounding_quiet quiet, soundingOpened_bells, bells, overridden, abortSounding_generators call copy range]
  rfl

theorem requestStaff_origin (quiet : quietQueue s = true) (numbered : s.numbered = true) (stops : copy.stations.length ≤ 14)
    (distinct : (copy.stations.map fun x => byte x.1).Nodup) (apart : byte station ∉ copy.stations.map fun x => byte x.1) :
    (requestCall staffId .fire s).2.loop.origin =
      (copy.stations.map fun x => queued s kindCall (byte x.1) [2, byte call.id] false) ++
        [queued s kindCall (byte station) ([1, 63, optionByte s.command.profile.staffSlot] ++ maskBytes 2 areas) true] ∧
      (requestCall staffId .fire s).2.loop.sending = s.loop.sending := by
  obtain ⟨rest, entries, disposal⟩ := unseated_disposal low waiting few copy
  obtain ⟨staff, staffCopy, starts, ⟨id, -, priority, -⟩, stations, slot, -⟩ :=
    requestStaff_starts low waiting few held other named long routes disposal
  have stopped : (overridden call copy s).loop.origin =
      copy.stations.map fun x => queued s kindCall (byte x.1) [2, byte call.id] false := by
    have frames := abortSounding_origin (s := setQueue (newInstance s staffId .fire :: s.calls.queue) s) (call := call) numbered quiet
      distinct (by omega)
    rw [decide_eq_false (by omega)] at frames
    exact frames
  have sending : (overridden call copy s).loop.sending = s.loop.sending := by
    rw [overridden, abortSounding_loop (s := setQueue (newInstance s staffId .fire :: s.calls.queue) s) numbered quiet distinct (by omega)]
    rfl
  obtain ⟨origin, sends⟩ := sender_of_sameBut disposal.same (by decide)
  have node : (unseated call copy s).loop.node = s.loop.node :=
    (node_of_sameBut disposal.same (by decide)).trans (node_of_sameBut (overridden_after call copy s) (by decide))
  have waits : (setQueue rest (unseated call copy s)).loop.origin =
      copy.stations.map fun x => queued s kindCall (byte x.1) [2, byte call.id] false := origin.trans stopped
  have loop := beginSounding_origin_one (s := setQueue rest (unseated call copy s)) (call := staff) stations
    (by rwa [State.numbered, setQueue, State.onCalls_loop, node]) (by rw [setQueue, State.onCalls_loop, sends, sending]; exact
      (quietQueue_iff.1 quiet).1) (by rw [waits, List.length_map]; omega) (fun q hq => by
      rw [waits] at hq
      obtain ⟨x, mem, rfl⟩ := List.mem_map.1 hq
      exact .inr fun same => apart (List.mem_map.2 ⟨x, mem, same⟩))
  rw [starts, loop, id, slot, priority]
  dsimp only
  rw [waits, queued_congr (t := setQueue rest (unseated call copy s)) (s := s) node]
  exact ⟨rfl, sends.trans sending⟩

theorem requestStaff_leaves {rest : List CallInstance} {entries : List ReportEntry}
    (disposal : Disposal (newInstance s staffId .fire) (overridden call copy s) (unseated call copy s) rest entries) :
    (requestCall staffId .fire s).2.calls.queue = rest ∧ Adds entries s (requestCall staffId .fire s).2 ∧
      isRaised .callLost (requestCall staffId .fire s).2 = isRaised .callLost (unseated call copy s) := by
  obtain ⟨staff, staffCopy, starts, -, -⟩ := requestStaff_starts low waiting few held other named long routes disposal
  have unseats := disposal.entries.from (s := s) (sameBut_report (overridden_after call copy s) (by decide))
  have begun := beginSounding_after staff staffCopy (setQueue rest (unseated call copy s))
  have calls := beginSounding_calls staff staffCopy (setQueue rest (unseated call copy s))
  rw [starts]
  exact ⟨congrArg (fun c => c.queue) calls, unseats.to ((sameBut_report begun (by decide)).trans rfl),
    (isRaised_beginSounding (by decide) _ _ _).trans rfl⟩

end Request

/-! ## A NOTICE behind the frames of the request -/

theorem notice_calls (urgent : Bool) (s : State) : (notice urgent s).calls = s.calls := sameBut_calls (notice_frame urgent s) (by decide)

theorem notice_bells (urgent : Bool) (s : State) : (notice urgent s).bells = s.bells := sameBut_bells (notice_frame urgent s) (by decide)

/-! ## The obligation -/

/-- The first prealarm's STAFF request, seen from the state before the step. -/
structure StaffTold (s w : State) : Prop where
  same : sameBut [.zones, .report, .attention, .lights] s w = true
  calls : w.calls = s.calls
  profile : w.command.profile = s.command.profile
  entries : ∃ first second, Adds [first, second] s w

theorem staffTold (z : Byte) (zone : Zone) (s : State) : StaffTold s (prealarmTold z zone s) :=
  ⟨prealarmTold_after z zone s, sameBut_calls (prealarmTold_after z zone s) (by decide),
    profile_of_sameBut (prealarmTold_after z zone s) (by decide), prealarmTold_adds z zone s⟩

section Told
variable (told : StaffTold s w)
include told

theorem StaffTold.routes (areas : List (Nat × BitVec 12)) (h : routeStations s (effectiveAreas s staffId) = areas) :
    routeStations w (effectiveAreas w staffId) = areas := by
  rw [effectiveAreas_congr (s := s) (by rw [told.calls]) (phase_of_record (sameBut_record told.same (by decide))),
    routeStations_congr (s := s) (by rw [told.calls]), h]

theorem StaffTold.clock : w.clock = s.clock := sameBut_clock told.same (by decide)

theorem StaffTold.lifeOver : Machine.lifeOver call (overridden call copy w) ↔ Machine.lifeOver call s := by
  rw [Machine.lifeOver, Machine.lifeOver, sameBut_clock (overridden_after call copy w) (by decide), told.clock]

theorem StaffTold.outcome (other : CallInstance) (outcome : CallOutcome) :
    callOutcome other outcome (overridden call copy w) = callOutcome other outcome s := by
  simp only [callOutcome, entryNow, sameBut_clock (overridden_after call copy w) (by decide), told.clock]

end Told

end Sys2Proof.Machine
end

section
/-! SUPPORT. The obligation O32: CALN by its cases, and STAFF over a sounding call at the first prealarm. -/

namespace Sys2Proof.Machine

variable {s t w : State} {call : CallInstance} {copy : StartCopy}

theorem StaffTold.relived (told : StaffTold s w) : Machine.relived call (overridden call copy w) = Machine.relived call s := by
  rw [Machine.relived, Machine.relived, sameBut_clock (overridden_after call copy w) (by decide), told.clock]

/-- The first prealarm, as the step that its frame makes. -/
theorem handToOwner_prealarm {f : Frame} {z : Byte} {zone : Zone} (zones : f.kind = kindZone) (payload : f.payload = [z, 1])
    (found : zoneAt s z.toNat = some zone) (normal : zone.state = .normal) (derived : recordDerived s = true)
    (first : s.zones.alarm.prealarm = false) (calm : s.zones.alarm.confirmed = []) (busy : playerBusy s = true) :
    handToOwner f s = notice true (requestCall staffId .fire (prealarmTold z zone s)).2 := by
  rw [handToOwner_zone zones, payload, takeZoneFrame_pair]
  exact zoneStep_prealarm found normal derived calm first busy

/-- A NOTICE stays behind frames of other kinds. -/
theorem notice_behind {urgent : Bool} {frames : List OriginFrame} (numbered : s.numbered = true) (sending : s.loop.sending.isSome = true)
    (origin : s.loop.origin = frames) (room : frames.length < 16) (kinds : ∀ q ∈ frames, q.frame.kind ≠ kindNotice) :
    frames.isPrefixOf (notice urgent s).loop.origin = true := by
  have joined : notice urgent s = _ := offer_joins (s := reportAttention s) (kind := kindNotice) (dest := allNodes)
    (payload := noticePayload s) (urgent := urgent) numbered sending (by rwa [← origin] at room) fun q hq => by
      refine decide_eq_false ?_
      rintro ⟨sameKind, -⟩
      exact kinds q (by rw [← origin]; exact hq) sameKind.symm
  rw [joined, State.onLoop_loop, List.isPrefixOf_iff_prefix, ← origin]
  exact List.prefix_append _ _

section FirstPrealarm
variable (told : StaffTold s w) (low : call.priority ≤ 2) (waiting : ∀ c ∈ s.calls.queue, c.priority ≤ 2 ∧ c.id ≠ 63)
  (few : s.calls.queue.length ≤ 15) (held : holdsCall call copy s) (other : call.id ≠ 63) {station : Nat} {areas : BitVec 12}
  (named : s.command.profile.staffSlot.isSome = true) (long : 1 ≤ s.command.profile.staffMessage)
  (routes : routeStations s (effectiveAreas s staffId) = [(station, areas)])
include told low waiting few held other named long routes

/-- The frames that the request and its NOTICE leave. -/
theorem staff_frames (quiet : quietQueue s = true) (numbered : s.numbered = true) (stops : copy.stations.length ≤ 14)
    (distinct : (copy.stations.map fun x => byte x.1).Nodup) (apart : byte station ∉ copy.stations.map fun x => byte x.1) :
    ((copy.stations.map fun x => queued s kindCall (byte x.1) [2, byte call.id] false) ++
      [queued s kindCall (byte station) ([1, 63, optionByte s.command.profile.staffSlot] ++ maskBytes 2 areas) true]).isPrefixOf
        (notice true (requestCall staffId .fire w).2).loop.origin = true := by
  have hold : holdsCall call copy w := by
    rw [holdsCall, told.calls]
    exact held
  obtain ⟨origin, sending⟩ := sender_of_sameBut told.same (by decide)
  have node := node_of_sameBut told.same (by decide)
  obtain ⟨frames, sends⟩ := requestStaff_origin low (by rwa [told.calls]) (by rwa [told.calls]) hold other
    (by rwa [told.profile]) (by rwa [told.profile]) (told.routes _ routes) (by rwa [quietQueue, sending, origin])
    (by rwa [State.numbered, node]) stops distinct apart
  rw [told.profile, queued_congr (s := s) node] at frames
  simp only [queued_congr (t := w) (s := s) node] at frames
  have same := requestCall_frame staffId .fire w
  refine notice_behind ?_ ?_ frames (by simp only [List.length_append, List.length_map, List.length_singleton]; omega) fun q hq => ?_
  · rwa [numbered_of_sameBut same (by decide), State.numbered, node]
  · rw [sends, sending]
    exact (quietQueue_iff.1 quiet).1
  · simp only [List.mem_append, List.mem_map, List.mem_singleton] at hq
    obtain ⟨x, -, rfl⟩ | rfl := hq <;> exact (by decide : kindCall ≠ kindNotice)

/-- What becomes of the sounding call, its entry seen from the state before the step. -/
theorem staff_disposal {rest : List CallInstance} {entries : List ReportEntry}
    (disposal : Disposal (newInstance w staffId .fire) (overridden call copy w) (unseated call copy w) rest entries) :
    (notice true (requestCall staffId .fire w).2).calls.queue = rest ∧
      (isRaised .callLost (unseated call copy w) = true → isRaised .callLost (notice true (requestCall staffId .fire w).2) = true) ∧
      (∀ entry, entries = [entry] → roomFor 4 s = true → gains entry s (notice true (requestCall staffId .fire w).2) = true) := by
  have hold : holdsCall call copy w := by
    rw [holdsCall, told.calls]
    exact held
  obtain ⟨queue, adds, lost⟩ := requestStaff_leaves low (by rwa [told.calls]) (by rwa [told.calls]) hold other
    (by rwa [told.profile]) (by rwa [told.profile]) (told.routes _ routes) disposal
  obtain ⟨first, second, before⟩ := told.entries
  refine ⟨by rw [notice_calls, queue], fun raised => ?_, fun entry one room => ?_⟩
  · rw [isRaised_notice (by decide), lost, raised]
  · have all := (before.trans adds).to (u := notice true (requestCall staffId .fire w).2)
      (sameBut_report (notice_frame true _) (by decide))
    exact all.gains (by simp [one]) (by simp [one]) room

end FirstPrealarm

/-- STAFF over a sounding call at the first prealarm. -/
theorem firstPrealarm_staff {f : Frame} {c : Character} {z : Byte} {zone : Zone} {timer : Timer} {station : Nat} {areas : BitVec 12}
    (passing : passingFrame f c s = true) (zones : f.kind = kindZone) (payload : f.payload = [z, 1])
    (found : zoneAt s z.toNat = some zone) (normal : zone.state = .normal) (derived : recordDerived s = true)
    (first : s.zones.alarm.prealarm = false) (calm : s.zones.alarm.confirmed = [])
    (player : s.calls.player = .sounding call copy timer ∨ s.calls.player = .gap call copy timer) (busy : playerBusy s = true)
    (low : call.priority ≤ 2) (other : call.id ≠ 63) (waiting : ∀ c ∈ s.calls.queue, c.priority ≤ 2 ∧ c.id ≠ 63)
    (few : s.calls.queue.length ≤ 15) (named : s.command.profile.staffSlot.isSome = true)
    (long : 1 ≤ s.command.profile.staffMessage) (routes : routeStations s (effectiveAreas s 63) = [(station, areas)]) :
    passes f c s fun t =>
      sameBut alarmParts (huntWith 0 s) t = true ∧
      (∃ staff staffCopy sounds, t.calls.player = .sounding staff staffCopy sounds ∧ staff.id = 63 ∧
        staff.source = .fire ∧ staff.priority = 3 ∧ staff.repeats = some (.count 1) ∧
        staffCopy.stations = [(station, areas)] ∧ sounds.start = s.clock) ∧
      (s.command.profile.staffPattern = none →
        ∀ b < 4, t.bells.generators[b]? = if b ∈ copy.bells then some Generator.initial else s.bells.generators[b]?) ∧
      (quietQueue s = true → s.numbered = true → copy.stations.length ≤ 14 → (copy.stations.map fun x => byte x.1).Nodup →
        byte station ∉ copy.stations.map (fun x => byte x.1) →
        ((copy.stations.map fun x => queued s kindCall (byte x.1) [2, byte call.id] false) ++
          [queued s kindCall (byte station)
            ([1, 63, optionByte s.command.profile.staffSlot] ++ maskBytes 2 areas) true]).isPrefixOf t.loop.origin = true) ∧
      (call.priority ≤ 1 → t.calls.queue = s.calls.queue ∧ isRaised .callLost t = true ∧
        (roomFor 4 s = true → gains (callOutcome call .aborted s) s t = true)) ∧
      (call.priority = 2 →
        (lifeOver call s → t.calls.queue = s.calls.queue ∧ (roomFor 4 s = true → gains (callOutcome call .lapsed s) s t = true)) ∧
        (¬ lifeOver call s → s.calls.queue.length ≤ 14 → t.calls.queue = requeueCall (relived call s) s.calls.queue) ∧
        (¬ lifeOver call s → ∀ kept last, s.calls.queue = kept ++ [last] → kept.length = 14 →
          isRaised .callLost t = true ∧
          (last.priority ≤ 1 → t.calls.queue = requeueCall (relived call s) kept ∧
            (roomFor 4 s = true → gains (callOutcome last .displaced s) s t = true)) ∧
          (last.priority = 2 → t.calls.queue = s.calls.queue ∧
            (roomFor 4 s = true → gains (callOutcome call .aborted s) s t = true)))) := by
  have frame := takeZoneFrame_frame f.payload (huntWith 0 s)
  rw [← handToOwner_zone zones] at frame
  have step := handToOwner_prealarm (s := huntWith 0 s) zones payload found normal derived first calm busy
  have told : StaffTold (huntWith 0 s) (prealarmTold z zone (huntWith 0 s)) := staffTold z zone (huntWith 0 s)
  refine passes_of passing ?_
  rw [step] at frame ⊢
  generalize prealarmTold z zone (huntWith 0 s) = w at told frame
  have hold : holdsCall call copy (huntWith 0 s) := holdsCall_of (s := s) player
  have holdW : holdsCall call copy w := by
    rw [holdsCall, told.calls]
    exact hold
  have callsW : w.calls = s.calls := told.calls
  have ends {rest : List CallInstance} {entries : List ReportEntry}
      (disposal : Disposal (newInstance w staffId .fire) (overridden call copy w) (unseated call copy w) rest entries) :=
    staff_disposal told low waiting few hold other named long routes disposal
  have queue : (overridden call copy w).calls.queue = newInstance w staffId .fire :: s.calls.queue := by
    rw [overridden_calls, callsW]
  have high : (newInstance w staffId .fire).priority = 3 := callPriority_staff w
  have lives : lifeOver call (overridden call copy w) ↔ lifeOver call s := told.lifeOver
  have outcome (c : CallInstance) (o : CallOutcome) : callOutcome c o (overridden call copy w) = callOutcome c o s := told.outcome c o
  have relives : relived call (overridden call copy w) = relived call s := told.relived
  refine ⟨frame, ?_, fun silent b range => ?_, staff_frames told low waiting few hold other named long routes, fun one => ?_, fun two =>
    ⟨fun spent => ?_, fun spent room => ?_, fun spent kept last split full => ?_⟩⟩
  · rw [notice_calls]
    have started := requestStaff_player (s := w) low (by rwa [callsW]) (by rwa [callsW]) holdW other (by rwa [told.profile])
      (by rwa [told.profile]) (told.routes _ routes)
    rwa [told.clock] at started
  · have bells : w.bells = (huntWith 0 s).bells := sameBut_bells told.same (by decide)
    rw [notice_bells, requestStaff_generators (s := w) low (by rwa [callsW]) (by rwa [callsW]) holdW other (by rwa [told.profile])
      (by rwa [told.profile]) (told.routes _ routes) (by rwa [told.profile]) range, bells]
    rfl
  · obtain ⟨disposal, lost⟩ := dispossessed_low queue one
    obtain ⟨rest, raised, entry⟩ := ends disposal
    exact ⟨rest, raised lost, entry _ (by rw [outcome])⟩
  · obtain ⟨rest, -, entry⟩ := ends (dispossessed_over queue two (lives.2 spent))
    exact ⟨rest, entry _ (by rw [outcome])⟩
  · obtain ⟨rest, -⟩ := ends (dispossessed_requeued queue two high (fun h => spent (lives.1 h)) room)
    rw [rest, relives]
  · have still : ¬ lifeOver call (overridden call copy w) := fun h => spent (lives.1 h)
    have whole := queue
    rw [split] at whole
    have bounded := (waiting last (by rw [split]; simp)).1
    by_cases lower : last.priority ≤ 1
    · obtain ⟨disposal, lost⟩ := dispossessed_displaces whole two high still full lower
      obtain ⟨rest, raised, entry⟩ := ends disposal
      exact ⟨raised lost, fun _ => ⟨by rw [rest, relives], entry _ (by rw [outcome])⟩, fun same => absurd same (by omega)⟩
    · obtain ⟨disposal, lost⟩ := dispossessed_dropped whole two still full (by omega)
      obtain ⟨rest, raised, entry⟩ := ends disposal
      exact ⟨raised lost, fun below => absurd below lower, fun _ => ⟨by rw [rest, split], entry _ (by rw [outcome])⟩⟩

/-- Settles O32: CALN by the case its request takes, and STAFF by what becomes of the call it unseats. -/
theorem callsAreRequested : Obligations.CallsAreRequested := by
  refine ⟨fun h s id a large busy => ?_, fun h s id a small low => ⟨?_, ?_, ?_, ?_, ?_⟩, ?_⟩
  · have response : callNow id.toNat (begin 0x48 h s) = refuseRequest id.toNat .command .refusedRange (begin 0x48 h s) := if_pos large
    have frame := refuseRequest_busy_frame (s := begin 0x48 h s) (id := id.toNat) busy .command .refusedRange
    rw [refuseRequest_busy (s := begin 0x48 h s) busy] at response frame
    exact replies_simple rfl a response frame
  · exact fun defined free room busy => caln_joins a small low defined free room busy
  · exact fun held defined busy => caln_merges a small held defined busy
  · intro undefined busy
    have response : callNow id.toNat (begin 0x48 h s) = refuseRequest id.toNat .command .refusedState (begin 0x48 h s) :=
      (callNow_small small).trans (requestCall_undefined (s := begin 0x48 h s) undefined _)
    have frame := refuseRequest_busy_frame (s := begin 0x48 h s) (id := id.toNat) busy .command .refusedState
    rw [refuseRequest_busy (s := begin 0x48 h s) busy] at response frame
    exact replies_simple rfl a response frame
  · exact fun kept last defined free busy queue full =>
      ⟨fun lower => caln_displaces a small low defined free busy queue full lower,
        fun high => caln_full a small defined free busy queue full high⟩
  · exact fun e station areas found empty idle able slot long routes =>
      caln_starts a small low found empty idle able slot long routes
  · exact fun f c s z zone call copy timer station areas passing zones payload found normal derived first calm player busy low other
      waiting few named long routes =>
      firstPrealarm_staff passing zones payload found normal derived first calm player busy low other waiting few named long routes

end Sys2Proof.Machine
end

section
/-! SUPPORT. What the moves of the iron make of the curtain record, and the obligations O28 and O29. -/

namespace Sys2Proof.Machine

variable {s t : State}

/-! ## Moves with no stage alarm -/

/-- With no stage alarm a move by a rule ends with what the rule adds to it. -/
theorem moveCurtain_failDemo (calm : s.curtain.stageAlarm = false) (next : Move) (reason : DemoReason) :
    moveCurtain next (failDemo reason) s = failDemo reason (changeCurtain next s) := by
  refine alarmAtRest_quiet ?_
  rw [failDemo_curtain, changeCurtain_curtain]
  split <;> exact calm

theorem moveCurtain_plain (calm : s.curtain.stageAlarm = false) (next : Move) : moveCurtain next id s = changeCurtain next s := by
  refine alarmAtRest_quiet ?_
  rw [id, changeCurtain_curtain]
  exact calm

theorem faultCurtain_calm {cause : FaultCause} (calm : s.curtain.stageAlarm = false) (released : s.curtain.state ≠ .released)
    (fault : s.curtain.state ≠ .fault) : faultCurtain cause s = failDemo .fault (changeCurtain (.faulted cause) s) := by
  rw [faultCurtain, if_neg (by simp [released, fault]), if_neg (by simp [calm]), moveCurtain_failDemo calm]

/-- A move of the iron that fails a demonstration in progress leaves the record of the move, but for the dwell timer. -/
theorem failed_move_curtain (next : Move) (reason : DemoReason) (s : State) :
    (failDemo reason (changeCurtain next s)).curtain =
      if s.phase.demoStatus.inProgress then (moved next s s.curtain).undwelled else moved next s s.curtain := by
  rw [failDemo_curtain, changeCurtain_curtain, demoStatus_of_record (changeCurtain_record next s)]

/-- What does not speak of the dwell timer holds of the record after such a move if it holds of the move. -/
theorem failed_move_keeps {P : Curtain → Prop} {next : Move} {reason : DemoReason} (undwelled : ∀ c, P c → P c.undwelled)
    (h : P (moved next s s.curtain)) : P (failDemo reason (changeCurtain next s)).curtain := by
  rw [failed_move_curtain]
  split
  · exact undwelled _ h
  · exact h

theorem failed_move_record (next : Move) (reason : DemoReason) (s : State) :
    (failDemo reason (changeCurtain next s)).phase.record =
      { s.phase.record with demoStatus := if s.phase.demoStatus.inProgress then .failed reason else s.phase.demoStatus } := by
  rw [failDemo_record, changeCurtain_record, demoStatus_of_record (changeCurtain_record next s)]

theorem failed_move_status (next : Move) (reason : DemoReason) (s : State) :
    (failDemo reason (changeCurtain next s)).phase.demoStatus =
      if s.phase.demoStatus.inProgress then .failed reason else s.phase.demoStatus :=
  demoStatus_of_record (q := { s.phase with demoStatus := _ }) (failed_move_record next reason s)

theorem failed_move_frame (next : Move) (reason : DemoReason) (s : State) :
    sameBut curtainParts s (failDemo reason (changeCurtain next s)) = true :=
  sameBut_trans (sameBut_mono (changeCurtain_frame next s) (by decide)) (failDemo_frame reason _)

/-! ## A descent starts (R134) -/

/-- The record from which a descent starts: the estimator seeded, the descent start time present. -/
def descentOpened (s : State) : State :=
  (seedEstimator s).onCurtain fun c => { c with descentStart := some s.clock, floorCheck := false }

theorem startDescent_eq (mode : Mode) (s : State) : startDescent mode s = changeCurtain (.moving .lowering mode) (descentOpened s) := rfl

theorem descentOpened_frame (s : State) : sameBut [.curtain] s (descentOpened s) = true :=
  sameBut_trans (onCurtain_frame s _) (onCurtain_frame _ _)

theorem startDescent_curtain (mode : Mode) (s : State) :
    (startDescent mode s).curtain = moved (.moving .lowering mode) s (descentOpened s).curtain :=
  changeCurtain_curtain _ (descentOpened s)

theorem startDescent_adds (mode : Mode) (s : State) : Adds [changeEntry (.moving .lowering mode) s] s (startDescent mode s) :=
  (changeCurtain_adds (.moving .lowering mode) (descentOpened s)).from rfl

/-! ## The timers (R128, R135, R138, R148) -/

section DeadTime
variable (dead : s.curtain.state = .deadTime) (overdue : due s.curtain.deadTimer s.clock = true)
include dead overdue

theorem deadTimeExpiry_lower (waiting : s.curtain.pending = some .lower) : deadTimeExpiry s = startDescent s.curtain.mode s := by
  simp only [deadTimeExpiry, dead, overdue, waiting, and_self, if_true]

theorem deadTimeExpiry_raise (waiting : s.curtain.pending = some .raise)
    (free : raiseBarred (decide (s.curtain.mode = .demo)) s = none) :
    deadTimeExpiry s = changeCurtain (.moving .raising s.curtain.mode) s := by
  simp only [deadTimeExpiry, dead, overdue, waiting, and_self, if_true, free, Option.isNone_none]

theorem deadTimeExpiry_stop (calm : s.curtain.stageAlarm = false) (waiting : s.curtain.pending = some .none ∨
      (s.curtain.pending = some .raise ∧ (raiseBarred (decide (s.curtain.mode = .demo)) s).isSome = true)) :
    deadTimeExpiry s = changeCurtain (.plain .stopped) s := by
  rw [← moveCurtain_plain calm]
  obtain stop | ⟨raise, barred⟩ := waiting
  · simp only [deadTimeExpiry, dead, overdue, stop, and_self, if_true]
  · obtain ⟨refusal, barred⟩ := Option.isSome_iff_exists.1 barred
    simp [deadTimeExpiry, dead, overdue, raise, barred]

end DeadTime

/-- Settles O28: each end of the dead time is one move, and the raise timer gives a fault. -/
theorem deadTimeAndRaiseTimerExpire : Obligations.DeadTimeAndRaiseTimerExpire := by
  refine ⟨fun s powered dead overdue => ⟨fun lower => ?_, fun raise free => ?_, fun stop calm => ?_⟩, fun s powered raising overdue calm => ?_⟩
  · refine answers_event (f := deadTimeExpiry) rfl powered ?_
    rw [deadTimeExpiry_lower dead overdue lower, startDescent_curtain]
    exact ⟨startDescent_frame _ s, rfl, rfl, rfl, rfl, rfl⟩
  · refine answers_event (f := deadTimeExpiry) rfl powered ?_
    rw [deadTimeExpiry_raise dead overdue raise free, changeCurtain_curtain]
    exact ⟨changeCurtain_frame _ s, rfl, rfl, rfl⟩
  · refine answers_event (f := deadTimeExpiry) rfl powered ?_
    rw [deadTimeExpiry_stop dead overdue calm stop, changeCurtain_curtain]
    exact ⟨changeCurtain_frame _ s, rfl, rfl, rfl, rfl⟩
  · refine answers_event (f := raiseTimerExpiry) rfl powered ?_
    have faults := faultCurtain_calm (cause := .travelTimeout) (s := s.onCurtain fun c => { c with raiseTimer := none }) calm
      (by simp [raising]) (by simp [raising])
    rw [raiseTimerExpiry, if_pos overdue, faults]
    have status := failed_move_status (.faulted .travelTimeout) .fault (s.onCurtain fun c => { c with raiseTimer := none })
    have frame := sameBut_trans (sameBut_mono (b := curtainParts) (onCurtain_frame s fun c => { c with raiseTimer := none }) (by decide))
      (failed_move_frame (.faulted .travelTimeout) .fault _)
    obtain ⟨state, cause, raise, repeats⟩ := failed_move_keeps (next := .faulted .travelTimeout) (reason := .fault)
      (s := s.onCurtain fun c => { c with raiseTimer := none })
      (P := fun c => c.state = .fault ∧ c.cause = some .travelTimeout ∧ c.raiseTimer = none ∧ c.repeatTimer = none) (fun _ => id)
      ⟨rfl, rfl, rfl, rfl⟩
    refine ⟨frame, state, cause, raise, repeats, ?_, ?_, ?_⟩
    · rw [isRaised_failDemo (by decide), isRaised_changeCurtain (by decide) (by decide)]
      simp [Move.faulted]
    · exact fun going => status.trans (if_pos going)
    · exact fun idle => status.trans (if_neg (Bool.eq_false_iff.1 idle))

/-- Settles O29, by the equations of the two expiries. -/
theorem driveRepeatsAndFlowIsMissed : Obligations.DriveRepeatsAndFlowIsMissed := by
  refine ⟨fun s powered overdue free moving node numbered => ?_, fun s powered overdue => ?_⟩
  · refine answers_event (f := driveRepeatExpiry) rfl powered ?_
    rw [driveRepeatExpiry, if_pos overdue]
    have frame := offerStateDrive_frame (s.onCurtain fun c => { c with repeatTimer := some (s.timerOf 100) })
    refine ⟨sameBut_trans (sameBut_mono (onCurtain_frame s _) (by decide)) (sameBut_mono frame (by decide)),
      sameBut_curtain frame (by decide), fun quiet => ?_⟩
    have offers {command : DriveCommand} (drive : s.curtain.state.drive = some command) :=
      offerStateDrive_quiet (s := s.onCurtain fun c => { c with repeatTimer := some (s.timerOf 100) }) drive free numbered node quiet
    obtain lowering | raising := moving
    · rw [offers (command := .lower) (by rw [lowering]; rfl), lowering]
      rfl
    · rw [offers (command := .raise) (by rw [raising]; rfl), raising]
      rfl
  · refine answers_event (f := flowTimerExpiry) rfl powered ?_
    rw [flowTimerExpiry, if_pos overdue]
    have frame := report_frame .curtain ([5, s.curtain.code, s.curtain.code, byte s.curtain.mode.code] ++ bytes2 s.command.profile.flowWait)
      (setAttention .drencherNoFlow (s.onCurtain fun c => { c with flowTimer := none }))
    refine ⟨sameBut_trans (sameBut_mono (onCurtain_frame s _) (by decide))
      (sameBut_trans (sameBut_mono (setAttention_frame _ _) (by decide)) (sameBut_mono frame (by decide))),
      sameBut_curtain frame (by decide), ?_, ?_⟩
    · exact (isRaised_report (by decide) _ _ _).trans (isRaised_set _ _)
    · have entry := (Adds.report .curtain ([5, s.curtain.code, s.curtain.code, byte s.curtain.mode.code] ++
        bytes2 s.command.profile.flowWait) (setAttention .drencherNoFlow (s.onCurtain fun c => { c with flowTimer := none }))).from
          (s := s) rfl
      exact entry.one

end Sys2Proof.Machine
end

section
/-! SUPPORT. The requests that stop and clear the iron, the demonstration's start and raise, and the obligations O26 and O27. -/

namespace Sys2Proof.Machine

variable {s t u : State}

/-! ## Entries of the iron -/

/-- A safety entry for which there is room stays, whatever follows. -/
theorem gains_then {entry : ReportEntry} (added : Adds [entry] s t) (room : roomFor 1 s = true) (later : Chain usual t u)
    (safety : entry.kind.safety = true) : gains entry s u = true := by
  have first := added.gains_one room
  have kept := chain_safety later safety
  simp only [gains, decide_eq_true_eq] at first ⊢
  omega

theorem curtainCode_sound {state : CurtainState} (sound : state ≠ .fault) (cause : Option FaultCause) :
    curtainCode state cause = curtainCode state none := by
  cases state with
  | fault => exact absurd rfl sound
  | _ => rfl

/-- The CHANGE entry of a move from a state that is no fault. -/
theorem changeEntry_sound (sound : s.curtain.state ≠ .fault) (next : Move) : changeEntry next s =
    entryNow s .curtain ([0, byte (curtainCode next.state next.cause), byte (curtainCode s.curtain.state none),
      byte next.mode.code] ++ bytes2 s.curtain.position) := by
  rw [changeEntry, Curtain.code, curtainCode_sound sound]

/-! ## A movement that is stopped or turned (R135, R139) -/

section FailedMove
variable (next : Move) (reason : DemoReason)

theorem failed_move_gains (room : roomFor 1 s = true) :
    gains (changeEntry next s) s (failDemo reason (changeCurtain next s)) = true :=
  gains_then (changeCurtain_adds next s) room (calm_usual (failDemo_chain reason _)) rfl

theorem failed_move_idle (idle : s.phase.demoStatus.inProgress = false) :
    failDemo reason (changeCurtain next s) = changeCurtain next s :=
  failDemo_idle (by rw [demoStatus_of_record (changeCurtain_record next s), idle])

theorem failed_move_going (going : s.phase.demoStatus.inProgress = true) :
    (failDemo reason (changeCurtain next s)).phase.record = { s.phase.record with demoStatus := .failed reason } ∧
      isRaised .demoResult (failDemo reason (changeCurtain next s)) = true ∧
      (failDemo reason (changeCurtain next s)).curtain.sequence.dwellTimer = none := by
  have status : (changeCurtain next s).phase.demoStatus.inProgress = true := by
    rw [demoStatus_of_record (changeCurtain_record next s), going]
  refine ⟨?_, ?_, ?_⟩
  · rw [failed_move_record, if_pos going]
  · rw [isRaised_failDemo (by decide), status]
    simp
  · rw [failed_move_curtain, if_pos going]
    rfl

end FailedMove

/-- The pending direction is changed in DEAD_TIME with the mode (R136): the dead time goes on. -/
theorem turned_facts (dead : s.curtain.state = .deadTime) (pending : Pending) :
    (changeCurtain (.pausing pending .normal) s).curtain.state = .deadTime ∧
      (changeCurtain (.pausing pending .normal) s).curtain.mode = .normal ∧
      (changeCurtain (.pausing pending .normal) s).curtain.pending = some pending ∧
      (changeCurtain (.pausing pending .normal) s).curtain.deadTimer = s.curtain.deadTimer ∧
      Adds [entryNow s .curtain ([0, 6, 6, 0] ++ bytes2 s.curtain.position)] s (changeCurtain (.pausing pending .normal) s) := by
  have entry := changeCurtain_adds (.pausing pending .normal) s
  rw [changeEntry_sound (by simp [dead]), dead] at entry
  rw [changeCurtain_curtain]
  exact ⟨rfl, rfl, rfl, by simp [moved, Move.pausing, dead], entry⟩

/-! ## CSTP and CCLR (R139, R147) -/

section Stop
variable {h : CommandHeader} (a : accepted h s = true)
include a

theorem cstp_replies {r : Result} {holds : State → Prop} (response : stopCurtain (begin 0x32 h s) = (r, u)) (hu : holds u) :
    replies (.cstp h) h 0x32 (.plain r) s holds := replies_simple rfl a response hu

theorem cstp_only {r : Result} (response : stopCurtain (begin 0x32 h s) = (r, begin 0x32 h s)) :
    onlyReplies (.cstp h) h 0x32 r s := onlyReplies_simple rfl a response

end Stop

/-- Settles O26: CSTP and CCLR by the curtain's state. -/
theorem curtainStopsAndClears : Obligations.CurtainStopsAndClears := by
  intro h s a
  dsimp only
  refine ⟨fun isLocal => ⟨?_, ?_⟩, fun free => ⟨fun refused => ?_, fun rests => ?_, fun moves calm => ?_, fun dead normal => ?_,
    fun dead steady special => ?_, fun sound => ?_, fun fault calm => ?_⟩⟩
  · exact cstp_only a (by simp [stopCurtain, isLocal])
  · exact onlyReplies_simple rfl a (by simp [clearCurtainFault, isLocal])
  · refine cstp_only a ?_
    obtain ⟨state, mode⟩ | state | state | state | ⟨state, pending, mode⟩ := refused
    · simp [stopCurtain, free, state, mode]
    · simp [stopCurtain, free, state]
    · simp [stopCurtain, free, state]
    · simp [stopCurtain, free, state]
    · simp [stopCurtain, free, state, pendingEmergency, pending, mode]
  · refine cstp_only a ?_
    obtain state | state | state := rests <;> simp [stopCurtain, free, state]
  · have sound : s.curtain.state ≠ .fault := by
      obtain ⟨state, -⟩ | state := moves <;> simp [state]
    have response : stopCurtain (begin 0x32 h s) = (.done, failDemo .stopped (changeCurtain (.plain .stopped) (begin 0x32 h s))) := by
      rw [← moveCurtain_failDemo (s := begin 0x32 h s) calm]
      obtain ⟨state, mode⟩ | state := moves
      · simp [stopCurtain, free, state, mode]
      · simp [stopCurtain, free, state]
    obtain ⟨state, mode, repeats, raise, start, running⟩ := failed_move_keeps (next := .plain .stopped) (reason := .stopped)
      (s := begin 0x32 h s) (P := fun c => c.state = .stopped ∧ c.mode = .normal ∧ c.repeatTimer = none ∧ c.raiseTimer = none ∧
        c.descentStart = none ∧ c.estimator.running = false) (fun _ => id)
      ⟨rfl, rfl, rfl, rfl, rfl, by simp [moved, movedEstimator, Move.plain]⟩
    refine cstp_replies a response ⟨failed_move_frame _ _ _, state, mode, repeats, raise, start, running, fun room => ?_,
      fun idle => ⟨?_, fun quiet some_ range => ?_⟩, fun going => ?_⟩
    · have entry := failed_move_gains (s := begin 0x32 h s) (.plain .stopped) .stopped room
      rw [changeEntry_sound (s := begin 0x32 h s) sound] at entry
      obtain ⟨state, -⟩ | state := moves
      · rw [begin_curtain, state] at entry
        rw [state]
        exact entry
      · rw [begin_curtain, state] at entry
        rw [state]
        exact entry
    · rw [failed_move_idle (s := begin 0x32 h s) _ _ idle]
      exact changeCurtain_frame _ _
    · rw [failed_move_idle (s := begin 0x32 h s) _ _ idle]
      exact changeCurtain_origin (s := begin 0x32 h s) (next := .plain .stopped) (command := .stop) rfl free (numbered_of_accepted a) some_ quiet
    · obtain ⟨record, raised, -⟩ := failed_move_going (s := begin 0x32 h s) (.plain .stopped) .stopped going
      exact ⟨record, raised⟩
  · refine cstp_replies a (u := (begin 0x32 h s).onCurtain fun c => { c with pending := some .none }) ?_ rfl
    simp [stopCurtain, free, dead, pendingEmergency, setPending, normal]
  · have response : stopCurtain (begin 0x32 h s) = (.done, changeCurtain (.pausing .none .normal) (begin 0x32 h s)) := by
      have calm (code : Byte) : pendingEmergency (begin code h s) = false := decide_eq_false steady
      simp [stopCurtain, free, dead, calm, setPending, special]
    obtain ⟨state, mode, pending, timer, entry⟩ := turned_facts (s := begin 0x32 h s) dead .none
    exact cstp_replies a response ⟨changeCurtain_frame _ _, state, mode, pending, timer, entry.one⟩
  · exact onlyReplies_simple rfl a (by simp [clearCurtainFault, free, sound])
  · have response : clearCurtainFault (begin 0x34 h s) =
        (.done, changeCurtain (.plain .stopped) ((begin 0x34 h s).onCurtain fun c => { c with rederive := true })) := by
      rw [← moveCurtain_plain (s := (begin 0x34 h s).onCurtain fun c => { c with rederive := true }) calm]
      simp [clearCurtainFault, free, fault]
    have entry := (changeCurtain_adds (.plain .stopped) ((begin 0x34 h s).onCurtain fun c => { c with rederive := true })).from
      (s := begin 0x34 h s) rfl
    have code : s.curtain.code = byte (curtainCode .fault s.curtain.cause) := by rw [Curtain.code, fault]
    refine replies_simple rfl a response ⟨?_, ?_, ?_, ?_, ?_, fun room => ?_⟩
    · exact sameBut_trans (sameBut_mono (onCurtain_frame _ _) (by decide)) (changeCurtain_frame _ _)
    · rw [changeCurtain_curtain]; rfl
    · rw [changeCurtain_curtain]; rfl
    · rw [changeCurtain_curtain]; rfl
    · rw [changeCurtain_curtain]; rfl
    · rw [← code]
      exact entry.one room

/-! ## The demonstration (R158, R162) -/

/-- The conditions of DEMO (R158). -/
structure DemoReady (s : State) : Prop where
  phase : s.phase.phase = .houseOpen
  status : s.phase.demoStatus = .notDone ∨ s.phase.demoStatus.reason.isSome = true
  show_ : s.phase.showStop = false
  alarm : s.zones.alarm.confirmed = []
  state : s.curtain.state = .stored
  free : s.curtain.flags.localControl = false
  clear : lineReading s 3 ≠ .active

theorem startDemo_ready (ready : DemoReady s) : startDemo s =
    (.done, startDescent .demo (setDemoStatus .lowering (s.onCurtain fun c => { c with sequence := .initial }))) := by
  obtain ⟨phase, status, show_, alarm, state, free, clear⟩ := ready
  have begins : ¬ (s.phase.demoStatus ≠ .notDone ∧ s.phase.demoStatus.reason.isNone = true) := by
    rintro ⟨done, none_⟩
    obtain same | some_ := status
    · exact done same
    · simp [Option.isNone_iff_eq_none.1 none_] at some_
  rw [startDemo, if_neg (by simp [phase]), if_neg begins, if_neg (by simp [show_]), if_neg (by simp [alarm]), if_neg (by simp [state]),
    if_neg (by simp [free]), if_neg clear]

theorem startDemo_barred (barred : ¬ DemoReady s) : startDemo s = (.refusedState, s) := by
  unfold startDemo
  split_ifs with phase status show_ alarm state free clear
  · rfl
  · rfl
  · rfl
  · rfl
  · rfl
  · rfl
  · rfl
  refine absurd ⟨not_not.1 phase, ?_, Bool.eq_false_iff.2 show_, not_not.1 alarm, not_not.1 state, Bool.eq_false_iff.2 free, clear⟩ barred
  by_cases done : s.phase.demoStatus = .notDone
  · exact .inl done
  · cases reason : s.phase.demoStatus.reason with
    | none => exact absurd ⟨done, by simp [reason]⟩ status
    | some => exact .inr rfl

/-- The raise request of the dwell's end is barred under these (R137, R162). -/
theorem raiseBarred_waived (s : State) (state : s.curtain.state = .atFloor) : raiseBarred true s =
    if s.curtain.flags.localControl then some .refusedLocal
    else if s.phase.phase = .evacuating then some .refusedState
    else if s.curtain.stageAlarm then some .refusedState else none := by
  simp [raiseBarred, state]

theorem dwellExpiry_ends (dwell : s.phase.demoStatus = .dwell) (overdue : due s.curtain.sequence.dwellTimer s.clock = true) :
    dwellExpiry s = dwellEnds s := if_pos ⟨dwell, overdue⟩

theorem dwellEnds_raises (state : s.curtain.state = .atFloor) (free : s.curtain.flags.localControl = false)
    (phase : s.phase.phase ≠ .evacuating) (calm : s.curtain.stageAlarm = false) :
    dwellEnds s = demoRaises (changeCurtain (.moving .raising .demo) (stopDwell s)) := by
  have open_ : raiseBarred true (stopDwell s) = none :=
    (raiseBarred_waived (stopDwell s) state).trans (by simp [stopDwell, free, phase, calm])
  have answer : raiseRequest .demo true (stopDwell s) = (.done, changeCurtain (.moving .raising .demo) (stopDwell s)) := by
    have floor : (stopDwell s).curtain.state = .atFloor := state
    simp [raiseRequest, open_, floor]
  rw [dwellEnds, answer, if_pos rfl]

theorem dwellEnds_fails (state : s.curtain.state = .atFloor)
    (barred : s.curtain.flags.localControl = true ∨ s.phase.phase = .evacuating ∨ s.curtain.stageAlarm = true) :
    dwellEnds s = recordDemo (.failed .fault) (stopDwell s) := by
  have refused : ∃ r, r ≠ Result.done ∧ raiseBarred true (stopDwell s) = some r := by
    rw [raiseBarred_waived (stopDwell s) state]
    change ∃ r, r ≠ Result.done ∧ (if s.curtain.flags.localControl then some Result.refusedLocal
      else if s.phase.phase = .evacuating then some .refusedState
      else if s.curtain.stageAlarm then some .refusedState else none) = some r
    obtain isLocal | phase | alarm := barred
    · exact ⟨_, by decide, if_pos isLocal⟩
    · by_cases isLocal : s.curtain.flags.localControl = true
      · exact ⟨_, by decide, if_pos isLocal⟩
      · exact ⟨.refusedState, by decide, by rw [if_neg isLocal, if_pos phase]⟩
    · by_cases isLocal : s.curtain.flags.localControl = true
      · exact ⟨_, by decide, if_pos isLocal⟩
      · exact ⟨.refusedState, by decide, by simp [isLocal, alarm]⟩
  obtain ⟨r, other, barred⟩ := refused
  have answer : raiseRequest .demo true (stopDwell s) = (r, stopDwell s) := by simp [raiseRequest, barred]
  rw [dwellEnds, answer, if_neg other]

theorem demoRaises_curtain (s : State) : (demoRaises s).curtain = s.curtain.undwelled := rfl

theorem demoRaises_record (s : State) : (demoRaises s).phase.record = { s.phase.record with demoStatus := .raising } := rfl

theorem recordDemo_within (status : DemoStatus) (s : State) :
    sameBut [.report, .record, .attention, .curtain] s (recordDemo status s) = true :=
  sameBut_trans (sameBut_mono (stopDwell_frame s) (by decide)) (sameBut_trans (sameBut_mono (setDemoStatus_frame status _) (by decide))
    (sameBut_trans (sameBut_mono (report_frame _ _ _) (by decide)) (sameBut_mono (setAttention_frame _ _) (by decide))))

/-- What the raise at the dwell's end leaves. -/
theorem dwell_raises (h : t = changeCurtain (.moving .raising .demo) (stopDwell s)) :
    sameBut curtainParts s (demoRaises t) = true ∧ (demoRaises t).curtain.state = .raising ∧ (demoRaises t).curtain.mode = .demo ∧
      (demoRaises t).curtain.sequence.dwellTimer = none ∧
      (demoRaises t).phase.record = { s.phase.record with demoStatus := .raising } := by
  have moves : t.curtain.state = .raising ∧ t.curtain.mode = .demo := by
    rw [h, changeCurtain_curtain]
    exact ⟨rfl, rfl⟩
  have frame := changeCurtain_frame (.moving .raising .demo) (stopDwell s)
  rw [← h] at frame
  refine ⟨?_, moves.1, moves.2, rfl, ?_⟩
  · exact sameBut_trans (sameBut_mono (stopDwell_frame s) (by decide))
      (sameBut_trans (ironParts_le frame) (sameBut_mono (demoRaises_frame t) (by decide)))
  · rw [demoRaises_record, sameBut_record frame (by decide)]
    rfl

/-- Settles O27: DEMO by its conditions, and the dwell's end by the raise request that it makes. -/
theorem demonstrationStartsAndRaises : Obligations.DemonstrationStartsAndRaises := by
  refine ⟨fun h s a => ⟨fun barred => ?_, fun phase show_ alarm state free clear status => ?_⟩, fun s powered dwell overdue state =>
    ⟨fun free phase calm => ?_, fun barred => ?_⟩⟩
  · refine onlyReplies_simple rfl a (startDemo_barred fun ready => ?_)
    obtain ⟨phase, status, show_, alarm, state, free, clear⟩ := ready
    obtain h | h | h | h | h | h | h | h | h := barred
    · exact h phase
    · exact Bool.false_ne_true (show_.symm.trans h)
    · exact h alarm
    · exact h state
    · exact Bool.false_ne_true (free.symm.trans h)
    · exact clear h
    · change s.phase.demoStatus = .notDone ∨ s.phase.demoStatus.reason.isSome = true at status
      cases same : s.phase.demoStatus <;> simp [same, DemoStatus.reason, DemoStatus.inProgress] at h status
    · change s.phase.demoStatus = .notDone ∨ s.phase.demoStatus.reason.isSome = true at status
      simp [h, DemoStatus.reason] at status
    · change s.phase.demoStatus = .notDone ∨ s.phase.demoStatus.reason.isSome = true at status
      simp [h, DemoStatus.reason] at status
  · have response := startDemo_ready (s := begin 0x33 h s) ⟨phase, status, show_, alarm, state, free, clear⟩
    have curtain := startDescent_curtain .demo
      (setDemoStatus .lowering ((begin 0x33 h s).onCurtain fun c => { c with sequence := .initial }))
    have frame := startDescent_frame .demo
      (setDemoStatus .lowering ((begin 0x33 h s).onCurtain fun c => { c with sequence := .initial }))
    refine replies_simple rfl a response ⟨?_, ?_, ?_, ?_, ?_, ?_, fun quiet some_ range => ?_⟩
    · exact sameBut_trans (sameBut_mono (onCurtain_frame _ _) (by decide))
        (sameBut_trans (sameBut_mono (setDemoStatus_frame _ _) (by decide)) (ironParts_le frame))
    · rw [curtain]; rfl
    · rw [curtain]; rfl
    · rw [curtain]; rfl
    · rw [curtain]; rfl
    · exact sameBut_record frame (by decide)
    · exact changeCurtain_origin (s := descentOpened (setDemoStatus .lowering
        ((begin 0x33 h s).onCurtain fun c => { c with sequence := .initial }))) (next := .moving .lowering .demo) (command := .lower) rfl
        free (numbered_of_accepted a) some_ quiet
  · refine answers_event (f := dwellExpiry) rfl powered ?_
    rw [dwellExpiry_ends dwell overdue, dwellEnds_raises state free phase calm]
    exact dwell_raises (t := changeCurtain (.moving .raising .demo) (stopDwell s)) rfl
  · refine answers_event (f := dwellExpiry) rfl powered ?_
    rw [dwellExpiry_ends dwell overdue, dwellEnds_fails state barred]
    refine ⟨?_, ?_, ?_, recordDemo_record _ _, ?_, fun room => ?_⟩
    · exact sameBut_trans (sameBut_mono (stopDwell_frame s) (by decide)) (recordDemo_within _ _)
    · rw [recordDemo_curtain]
      exact state
    · rw [recordDemo_curtain]
      rfl
    · rw [isRaised_recordDemo (by decide)]
      simp
    · have entry := (recordDemo_adds (.failed .fault) (stopDwell s)).from (s := s) rfl
      exact entry.one room

end Sys2Proof.Machine
end

section
/-! SUPPORT. CLWR and CRSE by the curtain's state (R133 to R137), and the obligation O25. -/

namespace Sys2Proof.Machine

variable {s t u : State}

/-! ## A descent that CLWR starts (R134, R150) -/

theorem seeded_running (p : Profile) (c : Curtain) : (seeded p c).running = true ∧ (seeded p c).lateAction = false := by
  unfold seeded
  dsimp only
  split
  · exact ⟨rfl, rfl⟩
  · unfold predict
    split
    · exact ⟨rfl, rfl⟩
    · split <;> exact ⟨rfl, rfl⟩

/-- A descent that starts leaves the estimator as it is seeded. -/
theorem startDescent_estimator (mode : Mode) (s : State) :
    (startDescent mode s).curtain.estimator = seeded s.command.profile s.curtain := by
  obtain ⟨running, late⟩ := seeded_running s.command.profile s.curtain
  have opened : (startDescent mode s).curtain.estimator = movedEstimator (descentOpened s).curtain (.moving .lowering mode) := by
    rw [startDescent_curtain]
    rfl
  have estimator : (descentOpened s).curtain.estimator = seeded s.command.profile s.curtain := rfl
  have start : (descentOpened s).curtain.descentStart = some s.clock := rfl
  rw [opened, movedEstimator, estimator, start, running, late]
  simp only [Move.moving, Option.isSome_some, decide_true, Bool.and_true, Bool.or_true, Bool.false_and]
  rw [← running, ← late]

/-- The timers of a movement that the part drives start with it (R128, R131). -/
theorem startDescent_timers (free : s.curtain.flags.localControl = false) (rests : s.curtain.state ≠ .lowering) (mode : Mode) :
    (startDescent mode s).curtain.repeatTimer = some { start := s.clock, length := 100 } ∧
      (startDescent mode s).curtain.staleTimer = some { start := s.clock, length := s.command.profile.positionStale } := by
  have flags : (descentOpened s).curtain.flags.localControl = false := free
  have state : (descentOpened s).curtain.state ≠ .lowering := rests
  rw [startDescent_curtain]
  simp [moved, Move.moving, CurtainState.positioned, flags, state.symm]

theorem changeCurtain_noticed (next : Move) (s : State) :
    noticed true (changeCurtain next s) fun v => v.curtain = (changeCurtain next s).curtain :=
  ⟨_, rfl, (sameBut_curtain (notice_frame true _) (by decide)).symm⟩

/-! ## A request against the movement, and one in DEAD_TIME (R135, R136) -/

/-- A curtain in DEAD_TIME is not at rest (R144). -/
theorem pausing_failDemo (pending : Pending) (mode : Mode) (reason : DemoReason) (s : State) :
    moveCurtain (.pausing pending mode) (failDemo reason) s = failDemo reason (changeCurtain (.pausing pending mode) s) := by
  have dead := failed_move_keeps (next := .pausing pending mode) (reason := reason) (s := s) (P := fun c => c.state = .deadTime)
    (fun _ => id) rfl
  refine if_neg fun rests => ?_
  rw [dead] at rests
  simp at rests

theorem reversed_facts {code : Byte} {h : CommandHeader} (pending : Pending) (moving : s.curtain.state = .lowering ∨ s.curtain.state = .raising) :
    let u := failDemo .stopped (changeCurtain (.pausing pending .normal) (begin code h s))
    sameBut curtainParts (begin code h s) u = true ∧ u.curtain.state = .deadTime ∧ u.curtain.mode = .normal ∧
      u.curtain.pending = some pending ∧ u.curtain.raiseTimer = none ∧ u.curtain.repeatTimer = none ∧
      (pending = .raise → u.curtain.descentStart = none) ∧
      u.curtain.deadTimer = some { start := s.clock, length := s.command.profile.deadTime } ∧
      (roomFor 1 s = true → gains (entryNow s .curtain
        ([0, 6, byte (curtainCode s.curtain.state none), 0] ++ bytes2 s.curtain.position)) s u = true) ∧
      (s.phase.demoStatus.inProgress = false → sameBut ironParts (begin code h s) u = true) ∧
      (s.phase.demoStatus.inProgress = true →
        u.phase.record = { s.phase.record with demoStatus := .failed .stopped } ∧ isRaised .demoResult u = true ∧
        u.curtain.sequence.dwellTimer = none) := by
  have enters : s.curtain.state ≠ .deadTime := by
    obtain state | state := moving <;> simp [state]
  have sound : s.curtain.state ≠ .fault := by
    obtain state | state := moving <;> simp [state]
  obtain ⟨state, mode, pend, raise, repeats, start, dead⟩ := failed_move_keeps (next := .pausing pending .normal) (reason := .stopped)
    (s := begin code h s) (P := fun c => c.state = .deadTime ∧ c.mode = .normal ∧ c.pending = some pending ∧ c.raiseTimer = none ∧
      c.repeatTimer = none ∧ (pending = .raise → c.descentStart = none) ∧
      c.deadTimer = some { start := s.clock, length := s.command.profile.deadTime }) (fun _ => id)
    ⟨rfl, rfl, rfl, rfl, rfl, by rintro rfl; rfl, by simp [moved, Move.pausing, enters.symm]⟩
  refine ⟨failed_move_frame _ _ _, state, mode, pend, raise, repeats, start, dead, fun room => ?_, fun idle => ?_, fun going => ?_⟩
  · have entry := failed_move_gains (s := begin code h s) (.pausing pending .normal) .stopped room
    rwa [changeEntry_sound (s := begin code h s) sound] at entry
  · rw [failed_move_idle (s := begin code h s) _ _ idle]
    exact changeCurtain_frame _ _
  · exact failed_move_going (s := begin code h s) (.pausing pending .normal) .stopped going

/-- A change of the pending direction with the mode, with its frame (R127). -/
theorem turned_frames {code : Byte} {h : CommandHeader} (a : accepted h s = true) (free : s.curtain.flags.localControl = false)
    (dead : s.curtain.state = .deadTime) (pending : Pending) :
    let u := changeCurtain (.pausing pending .normal) (begin code h s)
    sameBut ironParts (begin code h s) u = true ∧ u.curtain.state = .deadTime ∧ u.curtain.mode = .normal ∧
      u.curtain.pending = some pending ∧ u.curtain.deadTimer = s.curtain.deadTimer ∧
      (roomFor 1 s = true → u.phase.report = s.phase.report ++ [entryNow s .curtain ([0, 6, 6, 0] ++ bytes2 s.curtain.position)]) ∧
      (quietQueue s = true → s.command.profile.driveNode ≠ 0 → s.command.profile.driveNode ≤ 126 →
        u.loop.origin.head? = some (queued s kindDrive (byte s.command.profile.driveNode) [0, 0] true)) := by
  obtain ⟨state, mode, pend, timer, entry⟩ := turned_facts (s := begin code h s) dead pending
  exact ⟨changeCurtain_frame _ _, state, mode, pend, timer, entry.one, fun quiet some_ range =>
    changeCurtain_origin (s := begin code h s) (next := .pausing pending .normal) (command := .stop) rfl free (numbered_of_accepted a) some_ quiet⟩

theorem setPending_same {pending : Pending} {mode : Mode} (same : s.curtain.mode = mode) :
    setPending pending mode s = s.onCurtain fun c => { c with pending := some pending } := if_pos same

theorem setPending_other {pending : Pending} {mode : Mode} (other : s.curtain.mode ≠ mode) :
    setPending pending mode s = changeCurtain (.pausing pending mode) s := if_neg other

/-! ## The raise request (R137) -/

/-- The raise conditions that are not the curtain's own, the key included (R137). -/
def raisable (s : State) : Prop := s.phase.phase ≠ .evacuating ∧ s.curtain.stageAlarm = false ∧ lineReading s 4 = .active

section Raise
variable (free : s.curtain.flags.localControl = false)
include free

theorem raiseBarred_open (allowed : raisable s) (unknown : s.curtain.state ≠ .unknown) (released : s.curtain.state ≠ .released)
    (sound : s.curtain.state ≠ .fault) : raiseBarred false s = none := by
  obtain ⟨phase, calm, key⟩ := allowed
  simp [raiseBarred, free, phase, calm, key, unknown, released, sound]

theorem raiseRequest_barred (barred : s.curtain.state = .fault ∨ s.curtain.state = .unknown ∨ s.curtain.state = .released ∨
      s.curtain.state = .stored ∨ s.curtain.state = .raising ∨ (s.curtain.state = .lowering ∧ s.curtain.mode = .emergency) ∨
      (s.curtain.state = .deadTime ∧ s.curtain.pending = some .lower ∧ s.curtain.mode = .emergency) ∨ ¬ raisable s) :
    raiseRequest .normal false s = (.refusedState, s) := by
  cases open_ : raiseBarred false s with
  | some refusal =>
    have same : refusal = .refusedState := by
      unfold raiseBarred at open_
      rw [if_neg (by simp [free])] at open_
      split_ifs at open_ <;> exact (Option.some.inj open_).symm
    simp [raiseRequest, open_, same]
  | none =>
    have conditions : s.curtain.state ≠ .fault ∧ s.curtain.state ≠ .unknown ∧ s.curtain.state ≠ .released ∧ raisable s := by
      simp only [raiseBarred, free, Bool.false_eq_true, if_false] at open_
      split_ifs at open_ with faulty phase alarm key
      simp only [not_or] at faulty
      exact ⟨faulty.1, faulty.2.1, faulty.2.2, phase, Bool.eq_false_iff.2 alarm, by simpa using key⟩
    obtain ⟨sound, known, held, allowed⟩ := conditions
    obtain state | state | state | state | state | ⟨state, mode⟩ | ⟨state, pending, mode⟩ | denied := barred
    · exact absurd state sound
    · exact absurd state known
    · exact absurd state held
    · simp [raiseRequest, open_, state]
    · simp [raiseRequest, open_, state]
    · simp [raiseRequest, open_, state, mode]
    · simp [raiseRequest, open_, state, pendingEmergency, pending, mode]
    · exact absurd allowed denied

end Raise

theorem raiseCurtain_plain {response : Response} (answer : raiseRequest .normal false s = response) (other : s.phase.demoStatus ≠ .dwell) :
    raiseCurtain s = response := by
  simp [raiseCurtain, answer, other]

theorem raiseCurtain_refused {r : Result} (answer : raiseRequest .normal false s = (r, s)) (refused : r ≠ .done) :
    raiseCurtain s = (r, s) := by
  simp [raiseCurtain, answer, refused]

theorem raiseCurtain_dwell (answer : raiseRequest .normal false s = (.done, u)) (dwell : s.phase.demoStatus = .dwell) :
    raiseCurtain s = (.done, demoRaises u) := by
  simp [raiseCurtain, answer, dwell]

/-! ## The obligation -/

section Requests
variable {h : CommandHeader} (a : accepted h s = true)
include a

theorem clwr_replies {r : Result} {holds : State → Prop} (response : lowerRequest .normal (begin 0x30 h s) = (r, u)) (hu : holds u) :
    replies (.clwr h) h 0x30 (.plain r) s holds := replies_simple rfl a response hu

theorem clwr_only {r : Result} (response : lowerRequest .normal (begin 0x30 h s) = (r, begin 0x30 h s)) :
    onlyReplies (.clwr h) h 0x30 r s := onlyReplies_simple rfl a response

theorem crse_replies {r : Result} {holds : State → Prop} (response : raiseCurtain (begin 0x31 h s) = (r, u)) (hu : holds u) :
    replies (.crse h) h 0x31 (.plain r) s holds := replies_simple rfl a response hu

theorem crse_only {r : Result} (response : raiseCurtain (begin 0x31 h s) = (r, begin 0x31 h s)) :
    onlyReplies (.crse h) h 0x31 r s := onlyReplies_simple rfl a response

end Requests

/-- A raise has started. -/
structure RaiseStarted (s u : State) : Prop where
  same : sameBut ironParts s u = true
  state : u.curtain.state = .raising
  mode : u.curtain.mode = .normal
  repeats : u.curtain.repeatTimer = some { start := s.clock, length := 100 }
  raises : u.curtain.raiseTimer = some { start := s.clock, length := s.command.profile.raiseLimit * 1000 }

theorem raiseStarted (free : s.curtain.flags.localControl = false) (fresh : s.curtain.state ≠ .raising) :
    RaiseStarted s (changeCurtain (.moving .raising .normal) s) := by
  have timers : (moved (.moving .raising .normal) s s.curtain).repeatTimer = some { start := s.clock, length := 100 } ∧
      (moved (.moving .raising .normal) s s.curtain).raiseTimer =
        some { start := s.clock, length := s.command.profile.raiseLimit * 1000 } := by
    simp [moved, Move.moving, free, fresh.symm]
  refine ⟨changeCurtain_frame _ _, ?_, ?_, ?_, ?_⟩
  · rw [changeCurtain_curtain]; rfl
  · rw [changeCurtain_curtain]; rfl
  · rw [changeCurtain_curtain, timers.1]
  · rw [changeCurtain_curtain, timers.2]

/-- The answer of CRSE to a raise that starts: in a dwell it completes the demonstration (R162). -/
theorem raiseCurtain_started (answer : raiseRequest .normal false s = (.done, u)) (started : RaiseStarted s u) :
    ∃ v, raiseCurtain s = (.done, v) ∧ sameBut curtainParts s v = true ∧ v.curtain.state = .raising ∧ v.curtain.mode = .normal ∧
      v.curtain.repeatTimer = some { start := s.clock, length := 100 } ∧
      v.curtain.raiseTimer = some { start := s.clock, length := s.command.profile.raiseLimit * 1000 } ∧
      v.phase.record = { s.phase.record with
        demoStatus := if s.phase.demoStatus = .dwell then .raising else s.phase.demoStatus } ∧
      (s.phase.demoStatus = .dwell → v.curtain.sequence.dwellTimer = none) ∧ v.phase.report = u.phase.report ∧ v.loop = u.loop := by
  obtain ⟨same, state, mode, repeats, raises⟩ := started
  have record := sameBut_record same (by decide)
  by_cases dwell : s.phase.demoStatus = .dwell
  · refine ⟨_, raiseCurtain_dwell answer dwell, sameBut_trans (ironParts_le same) (demoRaises_frame u), state, mode, repeats, raises, ?_,
      fun _ => rfl, rfl, rfl⟩
    rw [demoRaises_record, record, if_pos dwell]
  · refine ⟨_, raiseCurtain_plain answer dwell, ironParts_le same, state, mode, repeats, raises, ?_, fun same => absurd same dwell, rfl, rfl⟩
    rw [record, if_neg dwell]
    rfl

/-- What a raise that CRSE starts leaves, the demonstration's raise included. -/
theorem crse_raises {h : CommandHeader} (a : accepted h s = true) (free : s.curtain.flags.localControl = false)
    (rests : s.curtain.state = .atFloor ∨ s.curtain.state = .stopped) (allowed : raisable s) :
    replies (.crse h) h 0x31 (.plain .done) s fun u =>
      sameBut curtainParts (begin 0x31 h s) u = true ∧ u.curtain.state = .raising ∧ u.curtain.mode = .normal ∧
      u.curtain.repeatTimer = some { start := s.clock, length := 100 } ∧
      u.curtain.raiseTimer = some { start := s.clock, length := s.command.profile.raiseLimit * 1000 } ∧
      u.phase.record = { s.phase.record with
        demoStatus := if s.phase.demoStatus = .dwell then .raising else s.phase.demoStatus } ∧
      (s.phase.demoStatus = .dwell → u.curtain.sequence.dwellTimer = none) ∧
      (roomFor 1 s = true → u.phase.report = s.phase.report ++
        [entryNow s .curtain ([0, 4, if s.curtain.state = .atFloor then 1 else 5, 0] ++ bytes2 s.curtain.position)]) ∧
      (quietQueue s = true → s.command.profile.driveNode ≠ 0 → s.command.profile.driveNode ≤ 126 →
        u.loop.origin.head? = some (queued s kindDrive (byte s.command.profile.driveNode) [2, 0] true)) := by
  have states : s.curtain.state ≠ .unknown ∧ s.curtain.state ≠ .released ∧ s.curtain.state ≠ .fault ∧ s.curtain.state ≠ .raising := by
    obtain state | state := rests <;> simp [state]
  obtain ⟨known, held, sound, fresh⟩ := states
  have code : byte (curtainCode s.curtain.state none) = if s.curtain.state = .atFloor then 1 else 5 := by
    obtain state | state := rests <;> rw [state] <;> rfl
  have answer : raiseRequest .normal false (begin 0x31 h s) = (.done, changeCurtain (.moving .raising .normal) (begin 0x31 h s)) := by
    have open_ (code : Byte) : raiseBarred false (begin code h s) = none :=
      raiseBarred_open (s := begin code h s) free allowed known held sound
    obtain state | state := rests <;> simp [raiseRequest, open_, state]
  have entry := changeCurtain_adds (.moving .raising .normal) (begin 0x31 h s)
  rw [changeEntry_sound (s := begin 0x31 h s) sound, begin_curtain, code] at entry
  have origin (quiet : quietQueue s = true) (some_ : s.command.profile.driveNode ≠ 0) :=
    changeCurtain_origin (s := begin 0x31 h s) (next := .moving .raising .normal) (command := .raise) rfl free (numbered_of_accepted a)
      some_ quiet
  obtain ⟨v, response, same, state, mode, repeats, raises, record, dwell, report, loop⟩ :=
    raiseCurtain_started answer (raiseStarted (s := begin 0x31 h s) free fresh)
  refine crse_replies a response ⟨same, state, mode, repeats, raises, record, dwell, fun room => ?_, fun quiet some_ range => ?_⟩
  · rw [report]
    exact entry.one room
  · rw [loop]
    exact origin quiet some_

/-- What a descent that CLWR starts leaves. -/
theorem clwr_lowers {h : CommandHeader} (a : accepted h s = true) (free : s.curtain.flags.localControl = false)
    (rests : s.curtain.state = .stored ∨ s.curtain.state = .stopped) (clear : lineReading s 3 ≠ .active) :
    replies (.clwr h) h 0x30 (.plain .done) s fun u =>
      sameBut ironParts (begin 0x30 h s) u = true ∧ u.curtain.state = .lowering ∧ u.curtain.mode = .normal ∧
      u.curtain.cause = none ∧ u.curtain.pending = none ∧ u.curtain.descentStart = some s.clock ∧
      u.curtain.floorCheck = false ∧ u.curtain.position = s.curtain.position ∧
      u.curtain.estimator = seeded s.command.profile s.curtain ∧
      u.curtain.repeatTimer = some { start := s.clock, length := 100 } ∧
      u.curtain.staleTimer = some { start := s.clock, length := s.command.profile.positionStale } ∧
      (roomFor 1 s = true → u.phase.report = s.phase.report ++
        [entryNow s .curtain ([0, 3, if s.curtain.state = .stored then 2 else 5, 0] ++ bytes2 s.curtain.position)]) ∧
      (quietQueue s = true → s.command.profile.driveNode ≠ 0 → s.command.profile.driveNode ≤ 126 →
        u.loop.origin.head? = some (queued s kindDrive (byte s.command.profile.driveNode) [1, 0] true)) ∧
      noticed true u fun v => v.curtain = u.curtain := by
  have states : s.curtain.state ≠ .lowering ∧ s.curtain.state ≠ .fault := by
    obtain state | state := rests <;> simp [state]
  have code : byte (curtainCode s.curtain.state none) = if s.curtain.state = .stored then 2 else 5 := by
    obtain state | state := rests <;> rw [state] <;> rfl
  have response : lowerRequest .normal (begin 0x30 h s) = (.done, startDescent .normal (begin 0x30 h s)) := by
    have line (code : Byte) : lineReading (begin code h s) 3 ≠ .active := clear
    obtain state | state := rests <;> simp [lowerRequest, free, state, line]
  have entry := startDescent_adds .normal (begin 0x30 h s)
  rw [changeEntry_sound (s := begin 0x30 h s) states.2, begin_curtain, code] at entry
  obtain ⟨repeats, stale⟩ := startDescent_timers (s := begin 0x30 h s) free states.1 .normal
  have curtain := startDescent_curtain .normal (begin 0x30 h s)
  refine clwr_replies a response ⟨startDescent_frame _ _, ?_, ?_, ?_, ?_, ?_, ?_, ?_, startDescent_estimator _ _, repeats, stale, entry.one,
    fun quiet some_ range => ?_, changeCurtain_noticed _ _⟩
  · rw [curtain]; rfl
  · rw [curtain]; rfl
  · rw [curtain]; rfl
  · rw [curtain]; rfl
  · rw [curtain]; rfl
  · rw [curtain]; rfl
  · rw [curtain]; rfl
  · exact changeCurtain_origin (s := descentOpened (begin 0x30 h s)) (next := .moving .lowering .normal) (command := .lower) rfl free
      (numbered_of_accepted a) some_ quiet

/-- Settles O25: CLWR and CRSE by the curtain's state. -/
theorem curtainLowersAndRaises : Obligations.CurtainLowersAndRaises := by
  intro h s a
  dsimp only
  have line {code : Byte} {n : Nat} {r : Reading} (same : lineReading s n = r) : lineReading (begin code h s) n = r := same
  refine ⟨fun isLocal => ⟨?_, ?_⟩, fun free => ⟨fun rests => ?_, fun refused => ?_, fun refused edge => ?_,
    fun rests clear => clwr_lowers a free rests clear, fun raising clear => ?_, fun dead emergency => ?_, fun dead steady clear => ⟨fun normal => ?_, fun special => ?_⟩,
    fun barred => ?_, fun lowering gentle allowed other => ?_, fun dead steady allowed other => ⟨fun normal => ?_, fun special => ?_⟩,
    fun rests allowed => crse_raises a free rests allowed⟩⟩
  · exact clwr_only a (by simp [lowerRequest, isLocal])
  · exact crse_only a (raiseCurtain_refused (by simp [raiseRequest, raiseBarred, isLocal]) (by decide))
  · refine clwr_only a ?_
    obtain state | state | state := rests <;> simp [lowerRequest, free, state]
  · refine clwr_only a ?_
    obtain state | state := refused <;> simp [lowerRequest, free, state]
  · refine clwr_only a ?_
    obtain state | state | state | ⟨state, steady⟩ := refused
    · simp [lowerRequest, free, state, line edge]
    · simp [lowerRequest, free, state, line edge]
    · simp [lowerRequest, free, state, line edge]
    · have calm (code : Byte) : pendingEmergency (begin code h s) = false := decide_eq_false steady
      simp [lowerRequest, free, state, line edge, calm]
  · have open_ (code : Byte) : lineReading (begin code h s) 3 ≠ .active := clear
    have response : lowerRequest .normal (begin 0x30 h s) =
        (.done, moveCurtain (.pausing .lower .normal) (failDemo .stopped) (begin 0x30 h s)) := by
      simp [lowerRequest, free, raising, open_]
    rw [pausing_failDemo] at response
    have facts := reversed_facts (s := s) (code := 0x30) (h := h) .lower (.inr raising)
    rw [raising] at facts
    exact clwr_replies a response facts
  · refine clwr_only a ?_
    have pending (code : Byte) : pendingEmergency (begin code h s) = true := decide_eq_true emergency
    simp [lowerRequest, free, dead, pending]
  · have calm (code : Byte) : pendingEmergency (begin code h s) = false := decide_eq_false steady
    have open_ (code : Byte) : lineReading (begin code h s) 3 ≠ .active := clear
    refine clwr_replies a (u := setPending .lower .normal (begin 0x30 h s)) ?_ (setPending_same normal)
    simp [lowerRequest, free, dead, calm, open_]
  · have calm (code : Byte) : pendingEmergency (begin code h s) = false := decide_eq_false steady
    have open_ (code : Byte) : lineReading (begin code h s) 3 ≠ .active := clear
    have response : lowerRequest .normal (begin 0x30 h s) = (.done, changeCurtain (.pausing .lower .normal) (begin 0x30 h s)) := by
      rw [← setPending_other (s := begin 0x30 h s) special]
      simp [lowerRequest, free, dead, calm, open_]
    exact clwr_replies a response (turned_frames a free dead .lower)
  · exact crse_only a (raiseCurtain_refused (raiseRequest_barred (s := begin 0x31 h s) free barred) (by decide))
  · have answer : raiseRequest .normal false (begin 0x31 h s) =
        (.done, moveCurtain (.pausing .raise .normal) (failDemo .stopped) (begin 0x31 h s)) := by
      have open_ (code : Byte) : raiseBarred false (begin code h s) = none :=
        raiseBarred_open (s := begin code h s) free allowed (by simp [lowering]) (by simp [lowering]) (by simp [lowering])
      simp [raiseRequest, open_, lowering, gentle]
    rw [moveCurtain_failDemo (s := begin 0x31 h s) allowed.2.1] at answer
    have facts := reversed_facts (s := s) (code := 0x31) (h := h) .raise (.inl lowering)
    rw [lowering] at facts
    exact crse_replies a (raiseCurtain_plain answer other) facts
  · have calm (code : Byte) : pendingEmergency (begin code h s) = false := decide_eq_false steady
    have answer : raiseRequest .normal false (begin 0x31 h s) = (.done, setPending .raise .normal (begin 0x31 h s)) := by
      have open_ (code : Byte) : raiseBarred false (begin code h s) = none :=
        raiseBarred_open (s := begin code h s) free allowed (by simp [dead]) (by simp [dead]) (by simp [dead])
      simp [raiseRequest, open_, dead, calm]
    exact crse_replies a (raiseCurtain_plain answer other) (setPending_same normal)
  · have calm (code : Byte) : pendingEmergency (begin code h s) = false := decide_eq_false steady
    have answer : raiseRequest .normal false (begin 0x31 h s) = (.done, changeCurtain (.pausing .raise .normal) (begin 0x31 h s)) := by
      have open_ (code : Byte) : raiseBarred false (begin code h s) = none :=
        raiseBarred_open (s := begin code h s) free allowed (by simp [dead]) (by simp [dead]) (by simp [dead])
      rw [← setPending_other (s := begin 0x31 h s) special]
      simp [raiseRequest, open_, dead, calm]
    exact crse_replies a (raiseCurtain_plain answer other) (turned_frames a free dead .raise)

end Sys2Proof.Machine
end

section
/-! SUPPORT. What a POS records stays through the steps that it makes (R129). -/

namespace Sys2Proof.Machine

variable {s t : State}

/-! ## The record of a report -/

/-- What a POS stores of its own: the position, its time, the drive flags and the cleared stale mark (R129). -/
def Curtain.heard (c : Curtain) : Nat × Option Time × DriveFlags × Bool := (c.position, c.reportTime, c.flags, c.stale)

theorem changeCurtain_heard (next : Move) (s : State) : (changeCurtain next s).curtain.heard = s.curtain.heard := by
  rw [changeCurtain_curtain]
  rfl

theorem failDemo_heard (reason : DemoReason) (s : State) : (failDemo reason s).curtain.heard = s.curtain.heard := by
  rw [failDemo_curtain]
  split <;> rfl

theorem startDescent_heard (mode : Mode) (s : State) : (startDescent mode s).curtain.heard = s.curtain.heard := by
  rw [startDescent_curtain]
  rfl

theorem reportCurtain_curtain (event new previous : Byte) (value : Nat) (s : State) :
    (reportCurtain event new previous value s).curtain = s.curtain :=
  sameBut_curtain (reportCurtain_frame event new previous value s) (by decide)

theorem arrive_heard (s : State) : (arrive s).curtain.heard = s.curtain.heard := by
  simp only [arrive]
  split
  · exact changeCurtain_heard _ _
  · rw [reportCurtain_curtain]
    exact changeCurtain_heard _ _

theorem enterReleased_heard (cause : Option FaultCause) (s : State) : (enterReleased cause s).curtain.heard = s.curtain.heard := by
  rw [enterReleased_eq, changeCurtain_heard, releasing]
  split <;> rfl

theorem release_heard (cause : Option FaultCause) (s : State) : (release cause s).curtain.heard = s.curtain.heard := by
  have failed : (failDemo .fault (enterReleased cause s)).curtain.heard = s.curtain.heard :=
    (failDemo_heard _ _).trans (enterReleased_heard _ _)
  rw [release]
  split
  · exact (arrive_heard _).trans failed
  · exact failed

theorem alarmAtRest_heard (s : State) : (alarmAtRest s).curtain.heard = s.curtain.heard := by
  unfold alarmAtRest
  split
  · split
    · exact release_heard _ _
    · exact startDescent_heard _ _
  · rfl

theorem moveCurtain_heard {after : State → State} (keeps : ∀ t, (after t).curtain.heard = t.curtain.heard) (next : Move) (s : State) :
    (moveCurtain next after s).curtain.heard = s.curtain.heard :=
  (alarmAtRest_heard _).trans ((keeps _).trans (changeCurtain_heard next s))

theorem faultCurtain_heard (cause : FaultCause) (s : State) : (faultCurtain cause s).curtain.heard = s.curtain.heard := by
  unfold faultCurtain
  split
  · rfl
  · split
    · exact release_heard _ _
    · exact moveCurtain_heard (failDemo_heard _) _ _

theorem failMoved_heard (s : State) : (failMoved s).curtain.heard = s.curtain.heard := by
  unfold failMoved
  split
  · rfl
  · exact failDemo_heard _ _

theorem followMove_heard (next : Move) (s : State) : (followMove next s).curtain.heard = s.curtain.heard := by
  unfold followMove
  split
  · exact faultCurtain_heard _ _
  · split
    · rfl
    · exact moveCurtain_heard failMoved_heard _ _

theorem deriveState_heard (s : State) : (deriveState s).curtain.heard = s.curtain.heard := by
  unfold deriveState
  split
  · rfl
  · exact followMove_heard _ _

theorem offerDrive_curtain (command : DriveCommand) (s : State) : (offerDrive command s).curtain = s.curtain :=
  sameBut_curtain (offerDrive_frame command s) (by decide)

/-! ## The steps of a POS (R129) -/

theorem applyDriveFault_heard (s : State) : (applyDriveFault s).curtain.heard = s.curtain.heard := by
  unfold applyDriveFault
  split
  · exact faultCurtain_heard _ _
  · rfl

theorem applyLocal_heard (appears : Bool) (s : State) : (applyLocal appears s).curtain.heard = s.curtain.heard := by
  unfold applyLocal
  split
  · rfl
  split
  · split
    · rfl
    · exact release_heard _ _
  dsimp only
  split
  · exact (failMoved_heard _).trans ((followMove_heard _ _).trans rfl)
  · exact followMove_heard _ _

theorem applyLocalCleared_heard (s : State) : (applyLocalCleared s).curtain.heard = s.curtain.heard := by
  unfold applyLocalCleared
  dsimp only
  split
  · rw [offerDrive_curtain]
    exact deriveState_heard s
  · exact deriveState_heard s

theorem applyLocalFlag_heard (wasLocal : Bool) (s : State) : (applyLocalFlag wasLocal s).curtain.heard = s.curtain.heard := by
  unfold applyLocalFlag
  split
  · exact applyLocal_heard _ _
  split
  · exact applyLocalCleared_heard _
  · rfl

theorem applyDerivation_heard (s : State) : (applyDerivation s).curtain.heard = s.curtain.heard := by
  unfold applyDerivation
  split
  · exact deriveState_heard _
  · rfl

theorem applyFloorCheck_heard (s : State) : (applyFloorCheck s).curtain.heard = s.curtain.heard := by
  unfold applyFloorCheck
  split
  · dsimp only
    split
    · exact faultCurtain_heard _ _
    · rfl
  · rfl

theorem reportStanding_curtain (event : Byte) (value : Nat) (s : State) : (reportStanding event value s).curtain = s.curtain :=
  reportCurtain_curtain _ _ _ _ _

theorem lateAction_heard (s : State) : (lateAction s).curtain.heard = s.curtain.heard := by
  unfold lateAction
  dsimp only
  split
  · rw [reportStanding_curtain]
    exact release_heard _ _
  split
  · rw [reportStanding_curtain]
  have stands (event : Byte) (value : Nat) : (reportStanding event value s).curtain.heard = s.curtain.heard :=
    congrArg Curtain.heard (reportStanding_curtain _ _ _)
  split
  · exact stands 4 _
  · exact stands 4 _

theorem estimatorReport_heard (s : State) : (estimatorReport s).curtain.heard = s.curtain.heard := by
  unfold estimatorReport
  dsimp only
  split
  · exact lateAction_heard _
  · rfl

theorem demoChecks_heard (s : State) : (demoChecks s).curtain.heard = s.curtain.heard := by
  unfold demoChecks
  split
  · dsimp only
    split <;> rfl
  · rfl

theorem applyEstimator_heard (s : State) : (applyEstimator s).curtain.heard = s.curtain.heard := by
  unfold applyEstimator
  split
  · exact (demoChecks_heard _).trans (estimatorReport_heard _)
  · rfl

/-- A POS leaves what it records. -/
theorem takePos_heard (hi lo flags : Byte) (rest : List Byte) (s : State) : (takePos (hi :: lo :: flags :: rest) s).curtain.heard =
    (number2 hi lo, some s.clock, DriveFlags.ofByte flags, false) := by
  have recorded : (takePosition (number2 hi lo) (DriveFlags.ofByte flags) s).curtain.heard =
      (number2 hi lo, some s.clock, DriveFlags.ofByte flags, false) := rfl
  exact (applyEstimator_heard _).trans ((applyFloorCheck_heard _).trans ((applyDerivation_heard _).trans
    ((applyLocalFlag_heard _ _).trans ((applyDriveFault_heard _).trans recorded))))

end Sys2Proof.Machine
end

section
/-! SUPPORT. The steps of a POS, each with what it makes of the curtain (R129, R130, R132, R141), and the obligation O30. -/

namespace Sys2Proof.Machine

variable {s t u : State} {cause : FaultCause}

/-! ## Steps that do nothing -/

theorem applyDriveFault_quiet (sound : s.curtain.flags.driveFault = false) : applyDriveFault s = s := if_neg (by simp [sound])

theorem applyLocalFlag_quiet (free : s.curtain.flags.localControl = false) : applyLocalFlag false s = s := by
  simp [applyLocalFlag, free]

theorem applyLocalFlag_local (isLocal : s.curtain.flags.localControl = true) (wasLocal : Bool) :
    applyLocalFlag wasLocal s = applyLocal (!wasLocal) s := if_pos isLocal

theorem applyDerivation_quiet (known : s.curtain.state ≠ .unknown) (derived : s.curtain.rederive = false) : applyDerivation s = s :=
  if_neg (by simp [known, derived])

theorem applyFloorCheck_quiet (checked : s.curtain.floorCheck = false) : applyFloorCheck s = s := if_neg (by simp [checked])

theorem applyEstimator_quiet (held : s.curtain.state ≠ .released) (rests : s.curtain.state = .lowering → s.curtain.descentStart = none) :
    applyEstimator s = s := by
  refine if_neg ?_
  rintro (released | ⟨lowering, start⟩)
  · exact held released
  · simp [rests lowering] at start

/-! ## A fault by a POS (R145) -/

/-- A curtain in FAULT is not at rest (R144). -/
theorem faulting_failDemo (cause : FaultCause) (reason : DemoReason) (s : State) :
    moveCurtain (.faulted cause) (failDemo reason) s = failDemo reason (changeCurtain (.faulted cause) s) := by
  have fault := failed_move_keeps (next := .faulted cause) (reason := reason) (s := s) (P := fun c => c.state = .fault)
    (fun _ => id) rfl
  refine if_neg fun rests => ?_
  rw [fault] at rests
  simp at rests

/-- The curtain is in FAULT with a cause, CURTAIN_FAULT is set, and no floor check is due. -/
structure Faulted (cause : FaultCause) (t : State) : Prop where
  state : t.curtain.state = .fault
  cause : t.curtain.cause = some cause
  mode : t.curtain.mode = .normal
  checked : t.curtain.floorCheck = false
  raised : isRaised .curtainFault t = true

theorem faultCurtain_faulted (held : s.curtain.state ≠ .released) (sound : s.curtain.state ≠ .fault)
    (row : s.curtain.stageAlarm = false ∨ s.curtain.state = .atFloor) (checked : s.curtain.floorCheck = false) :
    faultCurtain cause s = failDemo .fault (changeCurtain (.faulted cause) s) ∧ Faulted cause (faultCurtain cause s) := by
  have faults : faultCurtain cause s = failDemo .fault (changeCurtain (.faulted cause) s) := by
    have stays : ¬ (s.curtain.stageAlarm = true ∧ s.curtain.state ≠ .atFloor) := by
      rintro ⟨alarm, moving⟩
      obtain calm | floor := row
      · simp [calm] at alarm
      · exact moving floor
    rw [faultCurtain, if_neg (by simp [held, sound]), if_neg stays, faulting_failDemo]
  obtain ⟨state, why, mode, check⟩ := failed_move_keeps (next := .faulted cause) (reason := .fault) (s := s)
    (P := fun c => c.state = .fault ∧ c.cause = some cause ∧ c.mode = .normal ∧ c.floorCheck = false) (fun _ => id)
    ⟨rfl, rfl, rfl, checked⟩
  rw [faults]
  refine ⟨rfl, state, why, mode, check, ?_⟩
  rw [isRaised_failDemo (by decide), isRaised_changeCurtain (by decide) (by decide)]
  simp [Move.faulted]

/-- The curtain is in RELEASED, CURTAIN_FAULT is set, and no floor check is due. -/
structure Freed (cause : Option FaultCause) (t : State) : Prop where
  state : t.curtain.state = .released
  cause : t.curtain.cause = cause
  relay : t.curtain.k5 = true
  checked : t.curtain.floorCheck = false
  raised : isRaised .curtainFault t = true

/-- What does not speak of the dwell timer holds of the record after a demonstration has failed. -/
theorem failDemo_keeps {P : Curtain → Prop} {reason : DemoReason} (undwelled : ∀ c, P c → P c.undwelled) (h : P s.curtain) :
    P (failDemo reason s).curtain := by
  rw [failDemo_curtain]
  split
  · exact undwelled _ h
  · exact h

theorem enterReleased_floorCheck (cause : Option FaultCause) (s : State) :
    (enterReleased cause s).curtain.floorCheck = s.curtain.floorCheck := by
  have kept (next : Move) (t : State) : (changeCurtain next t).curtain.floorCheck = t.curtain.floorCheck := by
    rw [changeCurtain_curtain]
    rfl
  rw [enterReleased_eq, kept, releasing]
  split <;> rfl

theorem release_freed {cause : Option FaultCause} (reading : lineReading s 1 ≠ .active) (checked : s.curtain.floorCheck = false) :
    Freed cause (release cause s) := by
  obtain ⟨state, -, why, relay, -⟩ := release_released (cause := cause) reading
  refine ⟨state, why, relay, ?_, isRaised_release reading⟩
  have entered := (enterReleased_floorCheck cause s).trans checked
  rw [release_open reading]
  exact failDemo_keeps (P := fun c => c.floorCheck = false) (fun _ => id) entered

/-- The estimator has taken the report (R151 to R155). -/
def estimated (s : State) : State := s.onCurtain fun c =>
  { c with estimator := (estimate s.command.profile c.position s.clock (s.curtain.descentStart.getD s.clock) c.estimator) }

theorem estimatorReport_eq (s : State) : estimatorReport s =
    if isLate s.command.profile (duration s.clock (s.curtain.descentStart.getD s.clock)) (estimated s).curtain.estimator ∧
        s.command.profile.latePersistence ≤ (estimated s).curtain.estimator.late ∧ ¬ (estimated s).curtain.estimator.lateAction then
      (lateAction (estimated s)).onCurtain fun c => { c with estimator := { c.estimator with lateAction := true } }
    else estimated s := rfl

/-! ## The later steps after a fault of the drive or a release -/

theorem isRaised_offerDrive (flag : Flag) (other : flag ≠ .originOverrun) (command : DriveCommand) (s : State) :
    isRaised flag (offerDrive command s) = isRaised flag s := by
  unfold offerDrive
  split
  · rfl
  · exact isRaised_offer other _ _ _ _ s

theorem Freed.offers {cause : Option FaultCause} (h : Freed cause t) (command : DriveCommand) : Freed cause (offerDrive command t) := by
  obtain ⟨state, why, relay, checked, raised⟩ := h
  refine ⟨?_, ?_, ?_, ?_, (isRaised_offerDrive _ (by decide) _ _).trans raised⟩ <;> rwa [offerDrive_curtain]

theorem Freed.record {cause : Option FaultCause} (h : Freed cause t) {f : Curtain → Curtain}
    (keeps : ∀ c, (f c).state = c.state ∧ (f c).cause = c.cause ∧ (f c).k5 = c.k5 ∧ (f c).floorCheck = c.floorCheck) :
    Freed cause (t.onCurtain f) := by
  obtain ⟨state, why, relay, checked⟩ := keeps t.curtain
  exact ⟨state.trans h.state, why.trans h.cause, relay.trans h.relay, checked.trans h.checked, h.raised⟩

theorem deriveState_released (released : s.curtain.state = .released) : deriveState s = s := if_pos released

theorem Freed.localFlag {cause : Option FaultCause} (h : Freed cause t) (wasLocal : Bool) : Freed cause (applyLocalFlag wasLocal t) := by
  unfold applyLocalFlag
  split
  · unfold applyLocal
    rw [if_pos (.inr h.state)]
    exact h
  split
  · unfold applyLocalCleared
    rw [deriveState_released h.state, if_pos ⟨rfl, rfl⟩]
    exact h.offers _
  · exact h

theorem Freed.derivation {cause : Option FaultCause} (h : Freed cause t) : Freed cause (applyDerivation t) := by
  unfold applyDerivation
  split
  · rw [deriveState_released (by exact h.state)]
    exact h.record fun _ => ⟨rfl, rfl, rfl, rfl⟩
  · exact h

theorem Freed.reports {cause : Option FaultCause} (h : Freed cause t) (event : Byte) (value : Nat) :
    Freed cause (reportStanding event value t) := by
  obtain ⟨state, why, relay, checked, raised⟩ := h
  refine ⟨?_, ?_, ?_, ?_, (isRaised_report (by decide) _ _ _).trans raised⟩ <;> rwa [reportStanding_curtain]

theorem Freed.estimator {cause : Option FaultCause} (h : Freed cause t) : Freed cause (applyEstimator t) := by
  have reported : Freed cause (estimatorReport t) := by
    have estimated : Freed cause (estimated t) := h.record fun _ => ⟨rfl, rfl, rfl, rfl⟩
    rw [estimatorReport_eq]
    split
    · refine Freed.record ?_ fun _ => ⟨rfl, rfl, rfl, rfl⟩
      rw [lateAction, if_neg (by rw [estimated.state]; simp), if_pos estimated.state]
      exact estimated.reports _ _
    · exact estimated
  unfold applyEstimator
  split
  · have unwatched : demoWatches (estimatorReport t) = false := decide_eq_false (by rw [reported.state]; simp)
    rw [demoChecks, if_neg (by rw [unwatched]; simp)]
    exact reported
  · exact h

/-- RELEASED stands through the steps that follow. -/
theorem Freed.rest {cause : Option FaultCause} (h : Freed cause t) (wasLocal : Bool) :
    Freed cause (applyEstimator (applyFloorCheck (applyDerivation (applyLocalFlag wasLocal t)))) := by
  have derived := (h.localFlag wasLocal).derivation
  rw [applyFloorCheck_quiet derived.checked]
  exact derived.estimator

/-- A fault of the drive that the drive reports. -/
structure DriveFaulted (t : State) : Prop where
  faulted : Faulted .driveFault t
  reported : t.curtain.flags.driveFault = true

theorem deriveState_driveFaulted (h : DriveFaulted t) : deriveState t = t := by
  have move : derivedMove t = .faulted .driveFault := by simp [derivedMove, h.reported]
  rw [deriveState, if_neg (by simp [h.faulted.state]), move]
  exact if_pos (.inr ⟨h.faulted.state, h.faulted.cause⟩)

theorem DriveFaulted.rest (h : DriveFaulted t) (wasLocal : Bool) :
    Faulted .driveFault (applyEstimator (applyFloorCheck (applyDerivation (applyLocalFlag wasLocal t)))) := by
  have flagged : DriveFaulted (applyLocalFlag wasLocal t) := by
    unfold applyLocalFlag
    split
    · unfold applyLocal
      rw [if_pos (.inl h.faulted.state)]
      exact h
    split
    · unfold applyLocalCleared
      rw [deriveState_driveFaulted h, if_pos ⟨rfl, rfl⟩]
      obtain ⟨⟨state, why, mode, checked, raised⟩, reported⟩ := h
      refine ⟨⟨?_, ?_, ?_, ?_, (isRaised_offerDrive _ (by decide) _ _).trans raised⟩, ?_⟩ <;> rwa [offerDrive_curtain]
    · exact h
  have derived : Faulted .driveFault (applyDerivation (applyLocalFlag wasLocal t)) := by
    unfold applyDerivation
    split
    · obtain ⟨⟨state, why, mode, checked, raised⟩, reported⟩ := flagged
      rw [deriveState_driveFaulted (t := (applyLocalFlag wasLocal t).onCurtain fun c => { c with rederive := false })
        ⟨⟨state, why, mode, checked, raised⟩, reported⟩]
      exact ⟨state, why, mode, checked, raised⟩
    · exact flagged.faulted
  rw [applyFloorCheck_quiet derived.checked, applyEstimator_quiet (by simp [derived.state]) (by simp [derived.state])]
  exact derived

end Sys2Proof.Machine
end

section
/-! SUPPORT. A POS under local control (R130), a derivation (R132), the floor check (R141), the stale timers (R131), and the
obligation O30. -/

namespace Sys2Proof.Machine

variable {s t u : State} {cause : FaultCause}

/-! ## Local control (R130) -/

/-- Under local control a change offers no DRIVE frame but in RELEASED: into a quiet queue only its NOTICE goes. -/
theorem changeCurtain_local_origin {next : Move} (isLocal : s.curtain.flags.localControl = true) (held : next.state ≠ .released)
    (quiet : quietQueue s = true) : ∀ q ∈ (changeCurtain next s).loop.origin, q.frame.kind ≠ kindDrive := by
  have silent : offerStateDrive (s.onCurtain (moved next s)) = s.onCurtain (moved next s) := by
    unfold offerStateDrive
    split
    · rfl
    · exact if_pos ⟨isLocal, held⟩
  rw [changeCurtain_eq, silent, announceCurtain]
  have kept (t : State) (previous : Byte) : sameBut [.report, .attention] t (curtainAttention (reportCurtain 0 t.curtain.code previous
      t.curtain.position t)) = true :=
    sameBut_trans (sameBut_mono (reportCurtain_frame _ _ _ _ _) (by decide)) (sameBut_mono (curtainAttention_frame _) (by decide))
  have same := kept (s.onCurtain (moved next s)) s.curtain.code
  generalize curtainAttention (reportCurtain 0 _ _ _ _) = t at *
  obtain ⟨origin, sending⟩ := sender_of_sameBut same (by decide)
  have still : quietQueue t = true := by
    rw [quietQueue, origin, sending]
    exact quiet
  intro q mem
  cases numbered : t.numbered with
  | true =>
    rw [notice_quiet numbered still] at mem
    simp only [State.onLoop_loop, List.mem_singleton] at mem
    rw [mem]
    exact (by decide : kindNotice ≠ kindDrive)
  | false =>
    rw [notice_unnumbered numbered] at mem
    have empty : (reportAttention t).loop.origin = [] := origin.trans (quietQueue_iff.1 quiet).2
    simp [empty] at mem

/-- The direction in which the drive moves under local control. -/
def localState (flags : DriveFlags) : CurtainState := if flags.movingDown then .lowering else .raising

theorem localMove_moving (moves : s.curtain.flags.movingDown ≠ s.curtain.flags.movingUp) :
    localMove s = .moving (localState s.curtain.flags) .normal := by
  unfold localMove localState
  cases down : s.curtain.flags.movingDown with
  | true =>
    have up : s.curtain.flags.movingUp = false := by simpa [down] using moves.symm
    simp [up]
  | false =>
    have up : s.curtain.flags.movingUp = true := by simpa [down] using moves.symm
    simp [up]

theorem localState_cases (flags : DriveFlags) : localState flags = .lowering ∨ localState flags = .raising := by
  unfold localState
  split
  · exact .inl rfl
  · exact .inr rfl

/-- The timers and marks of a drive by the part are gone (R130). -/
def Curtain.undriven (c : Curtain) : Prop :=
  c.repeatTimer = none ∧ c.raiseTimer = none ∧ c.deadTimer = none ∧ c.pending = none ∧ c.descentStart = none

/-- The curtain as a POS under local control with one motion flag leaves it. -/
structure LocallyDriven (appears : Bool) (s t : State) : Prop where
  state : t.curtain.state = localState s.curtain.flags
  mode : t.curtain.mode = .normal
  derived : t.curtain.rederive = s.curtain.rederive
  checked : t.curtain.floorCheck = s.curtain.floorCheck
  undriven : appears = true → t.curtain.undriven
  failed : appears = true → s.phase.demoStatus.inProgress = true → t.phase.demoStatus = .failed .fault
  frames : quietQueue s = true → ∀ q ∈ t.loop.origin, q.frame.kind ≠ kindDrive

theorem failDemo_origin (reason : DemoReason) (s : State) : (failDemo reason s).loop.origin = s.loop.origin := by
  unfold failDemo
  split
  · exact (sender_of_sameBut (recordDemo_within _ s) (by decide)).1
  · rfl

/-- A followed move that moves is the move with the failure of a demonstration. -/
theorem followMove_moves {next : Move} (sound : next.cause = none) (moves : ¬ (next.state = s.curtain.state ∧ next.mode = s.curtain.mode))
    (rests : next.state ≠ .stored ∧ next.state ≠ .stopped ∨ s.curtain.stageAlarm = false) (away : next.state ≠ .atFloor ∨
      s.phase.demoStatus ≠ .dwell) : followMove next s = failDemo .fault (changeCurtain next s) := by
  have moved : failMoved (changeCurtain next s) = failDemo .fault (changeCurtain next s) := by
    refine if_neg ?_
    rintro ⟨dwell, floor⟩
    rw [changeCurtain_curtain] at floor
    rw [demoStatus_of_record (changeCurtain_record next s)] at dwell
    obtain away | other := away
    · exact away floor
    · exact other dwell
  have still : alarmAtRest (failDemo .fault (changeCurtain next s)) = failDemo .fault (changeCurtain next s) := by
    have kept := failed_move_keeps (next := next) (reason := .fault) (s := s)
      (P := fun c => c.state = next.state ∧ c.stageAlarm = s.curtain.stageAlarm) (fun _ => id) ⟨rfl, rfl⟩
    refine if_neg ?_
    rw [kept.1, kept.2]
    rintro ⟨alarm, rest⟩
    obtain ⟨stored, stopped⟩ | calm := rests
    · exact rest.elim stored stopped
    · simp [calm] at alarm
  unfold followMove
  split
  · next cause faulty => simp [sound] at faulty
  · rw [if_neg moves, moveCurtain, moved, still]

theorem followMove_stays {next : Move} (sound : next.cause = none) (same : next.state = s.curtain.state ∧ next.mode = s.curtain.mode) :
    followMove next s = s := by
  unfold followMove
  split
  · next cause faulty => simp [sound] at faulty
  · exact if_pos same

theorem failMoved_away (away : s.curtain.state ≠ .atFloor) : failMoved s = failDemo .fault s := if_neg fun h => away h.2

/-- The drive moves the iron under local control. -/
theorem followLocal_driven (appears : Bool) (isLocal : s.curtain.flags.localControl = true) :
    let ended := if appears then endDrive s else s
    let v := followMove (.moving (localState s.curtain.flags) .normal) ended
    v.curtain.state = localState s.curtain.flags ∧ v.curtain.mode = .normal ∧ v.curtain.rederive = s.curtain.rederive ∧
      v.curtain.floorCheck = s.curtain.floorCheck ∧ (appears = true → v.curtain.undriven) ∧
      (v.phase.demoStatus = s.phase.demoStatus ∨
        v.phase.demoStatus = if s.phase.demoStatus.inProgress then .failed .fault else s.phase.demoStatus) ∧
      (quietQueue s = true → ∀ q ∈ v.loop.origin, q.frame.kind ≠ kindDrive) := by
  intro ended v
  have curtain : ended.curtain.flags = s.curtain.flags ∧ ended.curtain.rederive = s.curtain.rederive ∧
      ended.curtain.floorCheck = s.curtain.floorCheck ∧ (appears = true → ended.curtain.undriven) ∧ ended.phase = s.phase ∧
      ended.loop = s.loop := by
    cases appears with
    | true => exact ⟨rfl, rfl, rfl, fun _ => ⟨rfl, rfl, rfl, rfl, rfl⟩, rfl, rfl⟩
    | false => exact ⟨rfl, rfl, rfl, fun h => absurd h (by decide), rfl, rfl⟩
  obtain ⟨flags, derived, checked, undriven, phase, loop⟩ := curtain
  by_cases same : localState s.curtain.flags = ended.curtain.state ∧ Mode.normal = ended.curtain.mode
  · have still : v = ended := followMove_stays rfl same
    rw [still]
    refine ⟨same.1.symm, same.2.symm, derived, checked, undriven, .inl (by rw [phase]), fun quiet q mem => ?_⟩
    rw [loop, (quietQueue_iff.1 quiet).2] at mem
    simp at mem
  · have directions := localState_cases s.curtain.flags
    have state : localState s.curtain.flags ≠ .stored ∧ localState s.curtain.flags ≠ .stopped ∧ localState s.curtain.flags ≠ .atFloor ∧
        localState s.curtain.flags ≠ .released ∧ localState s.curtain.flags ≠ .deadTime := by
      obtain down | up := directions <;> simp [*]
    obtain ⟨stored, stopped, floor, released, dead⟩ := state
    have moves : v = failDemo .fault (changeCurtain (.moving (localState s.curtain.flags) .normal) ended) :=
      followMove_moves rfl same (.inl ⟨stored, stopped⟩) (.inl floor)
    have kept := failed_move_keeps (next := .moving (localState s.curtain.flags) .normal) (reason := .fault) (s := ended)
      (P := fun c => c.state = localState s.curtain.flags ∧ c.mode = .normal ∧ c.rederive = s.curtain.rederive ∧
        c.floorCheck = s.curtain.floorCheck ∧ (appears = true → c.undriven)) (fun _ => id)
      ⟨rfl, rfl, derived, checked, fun first => ⟨?_, ?_, ?_, rfl, ?_⟩⟩
    · obtain ⟨state, mode, derives, checks, drives⟩ := kept
      rw [moves]
      refine ⟨state, mode, derives, checks, drives, .inr ?_, fun quiet => ?_⟩
      · rw [failed_move_status, phase]
      · rw [failDemo_origin]
        exact changeCurtain_local_origin (by rw [flags, isLocal]) released (by rwa [quietQueue, loop])
    · simp [moved, flags, isLocal]
    · simp [moved, flags, isLocal]
    · simp [moved, Move.moving, dead]
    · have start := (undriven first).2.2.2.2
      simp [moved, start]

theorem applyLocal_driven (appears : Bool) (isLocal : s.curtain.flags.localControl = true) (calm : s.curtain.stageAlarm = false)
    (moves : s.curtain.flags.movingDown ≠ s.curtain.flags.movingUp) (sound : s.curtain.state ≠ .fault)
    (held : s.curtain.state ≠ .released) : LocallyDriven appears s (applyLocal appears s) := by
  obtain ⟨state, mode, derived, checked, undriven, status, frames⟩ := followLocal_driven appears isLocal
  have away : localState s.curtain.flags ≠ .atFloor := by
    obtain down | up := localState_cases s.curtain.flags <;> simp [*]
  rw [applyLocal, if_neg (by simp [sound, held]), if_neg (by simp [calm]), localMove_moving moves]
  generalize followMove _ _ = v at *
  dsimp only
  cases appears with
  | false => exact ⟨state, mode, derived, checked, fun h => absurd h (by decide), fun h => absurd h (by decide), frames⟩
  | true =>
    rw [if_pos rfl, failMoved_away (by rw [state]; exact away)]
    obtain ⟨state, mode, derived, checked, undriven⟩ := failDemo_keeps (reason := .fault) (s := v)
      (P := fun c => c.state = localState s.curtain.flags ∧ c.mode = .normal ∧ c.rederive = s.curtain.rederive ∧
        c.floorCheck = s.curtain.floorCheck ∧ c.undriven) (fun _ => id) ⟨state, mode, derived, checked, undriven rfl⟩
    refine ⟨state, mode, derived, checked, fun _ => undriven, fun _ going => ?_, fun quiet => ?_⟩
    · have final : (failDemo .fault v).phase.demoStatus = if v.phase.demoStatus.inProgress then .failed .fault else v.phase.demoStatus :=
        demoStatus_of_record (q := { v.phase with demoStatus := _ }) (failDemo_record .fault v)
      obtain same | failed := status
      · rw [final, same, if_pos going]
      · rw [if_pos going] at failed
        rw [final, failed]
        rfl
    · rw [failDemo_origin]
      exact frames quiet

namespace LocallyDriven

variable {appears : Bool}

theorem onEstimator (h : LocallyDriven appears s t) (f : Curtain → Estimator) :
    LocallyDriven appears s (t.onCurtain fun c => { c with estimator := f c }) :=
  ⟨h.state, h.mode, h.derived, h.checked, h.undriven, h.failed, h.frames⟩

theorem within {changed : List Part} (h : LocallyDriven appears s t) (same : sameBut changed t u = true) (curtain : .curtain ∉ changed)
    (record : .record ∉ changed) (sender : .sender ∉ changed) : LocallyDriven appears s u := by
  have kept := sameBut_curtain same curtain
  refine ⟨?_, ?_, ?_, ?_, fun first => ?_, fun first going => ?_, fun quiet => ?_⟩
  · rw [kept]; exact h.state
  · rw [kept]; exact h.mode
  · rw [kept]; exact h.derived
  · rw [kept]; exact h.checked
  · rw [kept]; exact h.undriven first
  · rw [demoStatus_of_record (sameBut_record same record)]; exact h.failed first going
  · rw [(sender_of_sameBut same sender).1]; exact h.frames quiet

theorem held (h : LocallyDriven appears s t) : t.curtain.state ≠ .released := by
  rw [h.state]
  obtain down | up := localState_cases s.curtain.flags <;> simp [*]

theorem unwatched (h : LocallyDriven appears s t) : demoWatches t = false := decide_eq_false (by simp [h.mode])

theorem late (h : LocallyDriven appears s t) : LocallyDriven appears s (lateAction t) := by
  have acts : lateAction t = setAttention .curtainFault (reportStanding 4 t.curtain.position t) := by
    rw [lateAction, if_neg (by simp [h.mode]), if_neg h.held, if_neg (by simp [h.unwatched])]
  have same : sameBut [.report, .attention] t (setAttention .curtainFault (reportStanding 4 t.curtain.position t)) = true :=
    sameBut_trans (sameBut_mono (report_frame _ _ _) (by decide)) (sameBut_mono (setAttention_frame _ _) (by decide))
  rw [acts]
  exact h.within same (by decide) (by decide) (by decide)

/-- The estimator of a descent that the part does not drive in an emergency changes nothing that is seen of the iron. -/
theorem estimator (h : LocallyDriven appears s t) : LocallyDriven appears s (applyEstimator t) := by
  have reported : LocallyDriven appears s (estimatorReport t) := by
    rw [estimatorReport_eq]
    split
    · exact (h.onEstimator _).late.onEstimator _
    · exact h.onEstimator _
  unfold applyEstimator
  split
  · rw [demoChecks, if_neg (by simp [reported.unwatched])]
    exact reported
  · exact h

end LocallyDriven

/-! ## A derivation (R132) -/

/-- A derived fault. -/
theorem deriveState_faulted (calm : s.curtain.stageAlarm = false) (held : s.curtain.state ≠ .released) (sound : s.curtain.state ≠ .fault)
    (checked : s.curtain.floorCheck = false) (move : derivedMove s = .faulted cause) : Faulted cause (deriveState s) := by
  have derives : deriveState s = faultCurtain cause s := by
    rw [deriveState, if_neg held, move]
    rfl
  rw [derives]
  exact (faultCurtain_faulted held sound (.inl calm) checked).2

/-- A derived state without fault. -/
theorem deriveState_plain {state : CurtainState} (calm : s.curtain.stageAlarm = false) (held : s.curtain.state ≠ .released)
    (move : derivedMove s = .plain state) :
    (deriveState s).curtain.state = state ∧ (deriveState s).curtain.mode = .normal ∧
      (deriveState s).curtain.rederive = s.curtain.rederive ∧ (deriveState s).curtain.floorCheck = s.curtain.floorCheck := by
  have derives : deriveState s = followMove (.plain state) s := by rw [deriveState, if_neg held, move]
  rw [derives]
  by_cases same : state = s.curtain.state ∧ Mode.normal = s.curtain.mode
  · rw [followMove_stays rfl same]
    exact ⟨same.1.symm, same.2.symm, rfl, rfl⟩
  · have moves : followMove (.plain state) s = alarmAtRest (failMoved (changeCurtain (.plain state) s)) := if_neg same
    have kept : ∀ P : Curtain → Prop, (∀ c, P c → P c.undwelled) → P (moved (.plain state) s s.curtain) →
        P (failMoved (changeCurtain (.plain state) s)).curtain := by
      intro P undwelled h
      unfold failMoved
      split
      · rw [changeCurtain_curtain]
        exact h
      · exact failed_move_keeps undwelled h
    have quiet := kept (fun c => c.stageAlarm = false) (fun _ => id) calm
    rw [moves, alarmAtRest_quiet quiet]
    exact kept (fun c => c.state = state ∧ c.mode = .normal ∧ c.rederive = s.curtain.rederive ∧ c.floorCheck = s.curtain.floorCheck)
      (fun _ => id) ⟨rfl, rfl, rfl, rfl⟩

theorem Faulted.after_derivation (h : Faulted cause t) : Faulted cause (applyEstimator (applyFloorCheck t)) := by
  rw [applyFloorCheck_quiet h.checked, applyEstimator_quiet (by simp [h.state]) (by simp [h.state])]
  exact h

end Sys2Proof.Machine
end

section
/-! SUPPORT. The obligation O30: a POS by its cases, and the two stale timers. -/

namespace Sys2Proof.Machine

variable {s t u : State} {f : Frame} {c : Character} {hi lo flags : Byte} {rest : List Byte}

/-- The state in which a POS is recorded (R129, step 1). -/
def heardPos (hi lo flags : Byte) (s : State) : State := takePosition (number2 hi lo) (DriveFlags.ofByte flags) s

theorem takePos_eq (hi lo flags : Byte) (rest : List Byte) (s : State) : takePos (hi :: lo :: flags :: rest) s =
    applyEstimator (applyFloorCheck (applyDerivation (applyLocalFlag s.curtain.flags.localControl
      (applyDriveFault (heardPos hi lo flags s))))) := rfl

theorem takePos_short {payload : List Byte} (short : payload.length < 3) (s : State) : takePos payload s = s := by
  unfold takePos
  split
  · simp only [List.length_cons] at short
    omega
  · rfl

theorem handToOwner_pos (pos : f.kind = kindPos) (s : State) :
    handToOwner f s = if f.source.toNat = s.command.profile.driveNode then takePos f.payload s else s := by
  rw [handToOwner, pos, if_neg (by decide), if_neg (by decide), if_neg (by decide)]
  simp

/-- A POS of the drive node is taken. -/
theorem handToOwner_driven (pos : f.kind = kindPos) (payload : f.payload = hi :: lo :: flags :: rest)
    (source : f.source.toNat = s.command.profile.driveNode) : handToOwner f s = takePos (hi :: lo :: flags :: rest) s := by
  rw [handToOwner_pos pos, if_pos source, payload]

/-- A POS leaves its record, within the parts of the curtain. -/
theorem takePos_becomes (hi lo flags : Byte) (rest : List Byte) (s : State) :
    sameBut curtainParts s (takePos (hi :: lo :: flags :: rest) s) = true ∧
      (takePos (hi :: lo :: flags :: rest) s).curtain.position = number2 hi lo ∧
      (takePos (hi :: lo :: flags :: rest) s).curtain.reportTime = some s.clock ∧
      (takePos (hi :: lo :: flags :: rest) s).curtain.flags = DriveFlags.ofByte flags ∧
      (takePos (hi :: lo :: flags :: rest) s).curtain.stale = false := by
  have heard := takePos_heard hi lo flags rest s
  simp only [Curtain.heard, Prod.mk.injEq] at heard
  exact ⟨takePos_frame _ s, heard⟩

/-! ## The cases of a POS -/

section Cases
variable (sound : flags.getLsbD 2 = false)
include sound

theorem driveFault_quiet (s : State) : applyDriveFault (heardPos hi lo flags s) = heardPos hi lo flags s := applyDriveFault_quiet sound

/-- A POS that no step names. -/
theorem takePos_quiet (free : flags.getLsbD 3 = false) (was : s.curtain.flags.localControl = false) (derived : s.curtain.rederive = false)
    (checked : s.curtain.floorCheck = false) (known : s.curtain.state ≠ .unknown) (held : s.curtain.state ≠ .released)
    (rests : s.curtain.state = .lowering → s.curtain.descentStart = none) :
    takePos (hi :: lo :: flags :: rest) s = heardPos hi lo flags s := by
  rw [takePos_eq, driveFault_quiet sound, was, applyLocalFlag_quiet (s := heardPos hi lo flags s) free,
    applyDerivation_quiet (s := heardPos hi lo flags s) known derived, applyFloorCheck_quiet (s := heardPos hi lo flags s) checked,
    applyEstimator_quiet (s := heardPos hi lo flags s) held rests]

/-- A POS under local control with no stage alarm and one motion flag. -/
theorem takePos_local (isLocal : flags.getLsbD 3 = true) (derived : s.curtain.rederive = false) (checked : s.curtain.floorCheck = false)
    (fault : s.curtain.state ≠ .fault) (held : s.curtain.state ≠ .released) (calm : s.curtain.stageAlarm = false)
    (moves : flags.getLsbD 0 ≠ flags.getLsbD 1) :
    LocallyDriven (!s.curtain.flags.localControl) (heardPos hi lo flags s) (takePos (hi :: lo :: flags :: rest) s) := by
  have driven := applyLocal_driven (s := heardPos hi lo flags s) (!s.curtain.flags.localControl) isLocal calm moves fault held
  rw [takePos_eq, driveFault_quiet sound, applyLocalFlag_local (s := heardPos hi lo flags s) isLocal]
  have known : (applyLocal (!s.curtain.flags.localControl) (heardPos hi lo flags s)).curtain.state ≠ .unknown := by
    rw [driven.state]
    obtain down | up := localState_cases (heardPos hi lo flags s).curtain.flags <;> simp [*]
  rw [applyDerivation_quiet known (driven.derived.trans derived), applyFloorCheck_quiet (driven.checked.trans checked)]
  exact driven.estimator

/-- A POS under local control in a stage alarm. -/
theorem takePos_local_alarm (isLocal : flags.getLsbD 3 = true)
    (checked : s.curtain.floorCheck = false) (fault : s.curtain.state ≠ .fault) (held : s.curtain.state ≠ .released)
    (alarm : s.curtain.stageAlarm = true) (floor : s.curtain.state ≠ .atFloor) (reading : lineReading s 1 ≠ .active) :
    Freed none (takePos (hi :: lo :: flags :: rest) s) := by
  have acts : applyLocalFlag s.curtain.flags.localControl (heardPos hi lo flags s) = release none (heardPos hi lo flags s) := by
    have open_ : ¬ ((heardPos hi lo flags s).curtain.state = .fault ∨ (heardPos hi lo flags s).curtain.state = .released) := by
      rintro (h | h)
      · exact fault h
      · exact held h
    rw [applyLocalFlag_local (s := heardPos hi lo flags s) isLocal, applyLocal, if_neg open_, if_pos (by exact alarm),
      if_neg (by exact floor)]
  have freed := release_freed (s := heardPos hi lo flags s) (cause := none) reading checked
  rw [takePos_eq, driveFault_quiet sound, acts]
  have derivation := freed.derivation
  rw [applyFloorCheck_quiet derivation.checked]
  exact derivation.estimator

section Derivation
variable (free : flags.getLsbD 3 = false) (was : s.curtain.flags.localControl = false) (checked : s.curtain.floorCheck = false)
  (open_ : s.curtain.state = .unknown ∨ s.curtain.rederive = true)
include free was open_

/-- The state that a derivation starts from. -/
def derivable (hi lo flags : Byte) (s : State) : State := (heardPos hi lo flags s).onCurtain fun c => { c with rederive := false }

theorem takePos_derives : takePos (hi :: lo :: flags :: rest) s =
    applyEstimator (applyFloorCheck (deriveState (derivable hi lo flags s))) := by
  have acts : applyDerivation (heardPos hi lo flags s) = deriveState (derivable hi lo flags s) := if_pos open_
  rw [takePos_eq, driveFault_quiet sound, was, applyLocalFlag_quiet (s := heardPos hi lo flags s) free, acts]

variable (calm : s.curtain.stageAlarm = false) (held : s.curtain.state ≠ .released)
include checked calm held

theorem takePos_derived_fault {cause : FaultCause} (fault : s.curtain.state ≠ .fault)
    (move : derivedMove (derivable hi lo flags s) = .faulted cause) : Faulted cause (takePos (hi :: lo :: flags :: rest) s) := by
  rw [takePos_derives sound free was open_]
  exact (deriveState_faulted (s := derivable hi lo flags s) calm held fault checked move).after_derivation

theorem takePos_derived_plain {state : CurtainState} (move : derivedMove (derivable hi lo flags s) = .plain state)
    (rests : state ≠ .released ∧ state ≠ .lowering) :
    (takePos (hi :: lo :: flags :: rest) s).curtain.state = state ∧ (takePos (hi :: lo :: flags :: rest) s).curtain.mode = .normal ∧
      (takePos (hi :: lo :: flags :: rest) s).curtain.rederive = false := by
  obtain ⟨final, mode, derived, check⟩ := deriveState_plain (s := derivable hi lo flags s) calm held move
  rw [takePos_derives sound free was open_, applyFloorCheck_quiet (check.trans checked),
    applyEstimator_quiet (by rw [final]; exact rests.1) (by rw [final]; exact fun h => absurd h rests.2)]
  exact ⟨final, mode, derived⟩

end Derivation

end Cases

/-- The move of a derivation, by the POS and the limit lines. -/
theorem derivedMove_eq (sound : flags.getLsbD 2 = false) (s : State) : derivedMove (derivable hi lo flags s) =
    if lineReading s 1 = .fault then .faulted .inLine
    else if lineReading s 2 = .fault then .faulted .outLine
    else if lineReading s 1 = .active ∧ lineReading s 2 = .active then .faulted .limitConflict
    else if lineReading s 1 = .active ∧ number2 hi lo ≤ s.command.profile.floorTolerance then .plain .atFloor
    else if lineReading s 2 = .active ∧ s.command.profile.travel ≤ number2 hi lo + s.command.profile.topTolerance then .plain .stored
    else if lineReading s 1 = .active ∨ lineReading s 2 = .active then .faulted .positionDisagree
    else .plain .stopped := by
  have flag : (derivable hi lo flags s).curtain.flags.driveFault = false := sound
  rw [derivedMove, if_neg (by simp [flag])]
  rfl

section FloorCheck
variable (sound : flags.getLsbD 2 = false) (free : flags.getLsbD 3 = false) (was : s.curtain.flags.localControl = false)
  (derived : s.curtain.rederive = false) (due_ : s.curtain.floorCheck = true) (floor : s.curtain.state = .atFloor)
include sound free was derived due_ floor

/-- The state after the floor check is taken. -/
def floorChecked (hi lo flags : Byte) (s : State) : State := (heardPos hi lo flags s).onCurtain fun c => { c with floorCheck := false }

theorem takePos_floorCheck : takePos (hi :: lo :: flags :: rest) s =
    applyEstimator (if s.command.profile.floorTolerance + 64 < number2 hi lo then
      faultCurtain .positionDisagree (floorChecked hi lo flags s) else floorChecked hi lo flags s) := by
  have known : (heardPos hi lo flags s).curtain.state ≠ .unknown := fun unknown => by
    have same : (heardPos hi lo flags s).curtain.state = .atFloor := floor
    simp [same] at unknown
  have check : applyFloorCheck (heardPos hi lo flags s) = if s.command.profile.floorTolerance + 64 < number2 hi lo then
      faultCurtain .positionDisagree (floorChecked hi lo flags s) else floorChecked hi lo flags s := if_pos due_
  rw [takePos_eq, driveFault_quiet sound, was, applyLocalFlag_quiet (s := heardPos hi lo flags s) free,
    applyDerivation_quiet (s := heardPos hi lo flags s) known derived, check]

theorem takePos_floor_agrees (near : number2 hi lo ≤ s.command.profile.floorTolerance + 64) :
    takePos (hi :: lo :: flags :: rest) s = floorChecked hi lo flags s := by
  have rests : (floorChecked hi lo flags s).curtain.state = .atFloor := floor
  rw [takePos_floorCheck sound free was derived due_ floor, if_neg (by omega),
    applyEstimator_quiet (by simp [rests]) (by simp [rests])]

theorem takePos_floor_disagrees (far : s.command.profile.floorTolerance + 64 < number2 hi lo) :
    Faulted .positionDisagree (takePos (hi :: lo :: flags :: rest) s) ∧
      (s.phase.demoStatus = .dwell → (takePos (hi :: lo :: flags :: rest) s).phase.demoStatus = .failed .fault) := by
  have rests : (floorChecked hi lo flags s).curtain.state = .atFloor := floor
  obtain ⟨moves, faulted⟩ := faultCurtain_faulted (s := floorChecked hi lo flags s) (cause := .positionDisagree) (by simp [rests])
    (by simp [rests]) (.inr rests) rfl
  rw [takePos_floorCheck sound free was derived due_ floor, if_pos far, applyEstimator_quiet (by simp [faulted.state]) (by simp [faulted.state])]
  refine ⟨faulted, fun dwell => ?_⟩
  have status : (floorChecked hi lo flags s).phase.demoStatus = .dwell := dwell
  rw [moves, failed_move_status, status]
  rfl

end FloorCheck

/-! ## A fault that the drive reports -/

section DriveFault
variable (faulty : flags.getLsbD 2 = true) (held : s.curtain.state ≠ .released) (floor : s.curtain.state ≠ .atFloor)
  (fault : s.curtain.state ≠ .fault) (checked : s.curtain.floorCheck = false)
include faulty held floor fault checked

omit checked in
theorem applyDriveFault_heard_eq : applyDriveFault (heardPos hi lo flags s) = faultCurtain .driveFault (heardPos hi lo flags s) :=
  if_pos ⟨faulty, held, floor, fault⟩

theorem takePos_driveFault (calm : s.curtain.stageAlarm = false) : Faulted .driveFault (takePos (hi :: lo :: flags :: rest) s) := by
  obtain ⟨moves, faulted⟩ := faultCurtain_faulted (s := heardPos hi lo flags s) (cause := .driveFault) held fault (.inl calm) checked
  have reported : (faultCurtain .driveFault (heardPos hi lo flags s)).curtain.flags.driveFault = true := by
    have kept := congrArg (fun x => x.2.2.1) (faultCurtain_heard .driveFault (heardPos hi lo flags s))
    exact (congrArg DriveFlags.driveFault kept).trans faulty
  rw [takePos_eq, applyDriveFault_heard_eq faulty held floor fault]
  exact DriveFaulted.rest ⟨faulted, reported⟩ _

theorem takePos_driveFault_alarm (alarm : s.curtain.stageAlarm = true) (reading : lineReading s 1 ≠ .active) :
    Freed (some .driveFault) (takePos (hi :: lo :: flags :: rest) s) := by
  have frees : faultCurtain .driveFault (heardPos hi lo flags s) = release (some .driveFault) (heardPos hi lo flags s) := by
    have open_ : ¬ ((heardPos hi lo flags s).curtain.state = .released ∨
        ((heardPos hi lo flags s).curtain.state = .fault ∧ (heardPos hi lo flags s).curtain.cause = some .driveFault)) := by
      rintro (h | ⟨h, -⟩)
      · exact held h
      · exact fault h
    rw [faultCurtain, if_neg open_, if_pos ⟨alarm, floor⟩]
  rw [takePos_eq, applyDriveFault_heard_eq faulty held floor fault, frees]
  exact (release_freed (s := heardPos hi lo flags s) reading checked).rest _

end DriveFault

end Sys2Proof.Machine
end

section
/-! SUPPORT. The stale timers (R131), and the obligation O30. -/

namespace Sys2Proof.Machine

variable {s t u : State}

/-! ## The position stale timer -/

/-- The state in which the position is marked stale, with its entry (R131). -/
def staled (s : State) : State :=
  reportStanding 3 s.curtain.position (s.onCurtain fun c => { c with stale := true, staleTimer := none })

theorem staled_frame (s : State) : sameBut [.curtain, .report, .attention] s (staled s) = true :=
  sameBut_trans (sameBut_mono (onCurtain_frame s _) (by decide)) (sameBut_mono (report_frame _ _ _) (by decide))

theorem staled_curtain (s : State) : (staled s).curtain = { s.curtain with stale := true, staleTimer := none } :=
  reportStanding_curtain _ _ _

theorem staled_adds (s : State) : Adds [entryNow s .curtain
    ([3, s.curtain.code, s.curtain.code, byte s.curtain.mode.code] ++ bytes2 s.curtain.position)] s (staled s) :=
  (Adds.report .curtain ([3, s.curtain.code, s.curtain.code, byte s.curtain.mode.code] ++ bytes2 s.curtain.position)
    (s.onCurtain fun c => { c with stale := true, staleTimer := none })).from rfl

theorem positionStaleExpiry_eq (overdue : due s.curtain.staleTimer s.clock = true) : positionStaleExpiry s =
    if demoWatches (startEmergencyStale (staled s)) then markDemo .unverified (startEmergencyStale (staled s))
    else startEmergencyStale (staled s) := if_pos overdue

theorem startEmergencyStale_after (s : State) : sameBut [.curtain] s (startEmergencyStale s) = true := by
  unfold startEmergencyStale
  split
  · exact onCurtain_frame s _
  · exact sameBut_refl _ _

/-- The emergency stale timer alone may start. -/
theorem startEmergencyStale_curtain (s : State) : (startEmergencyStale s).curtain = { s.curtain with
    emergencyTimer := if s.curtain.state = .lowering ∧ s.curtain.mode = .emergency then
      some (s.curtain.emergencyTimer.getD { start := s.clock, length := s.command.profile.emergencyStale })
      else s.curtain.emergencyTimer } := by
  unfold startEmergencyStale
  split
  · rfl
  · rfl

theorem positionStale_answers (powered : s.powered = true) (overdue : due s.curtain.staleTimer s.clock = true) :
    answers .positionStaleExpiry s fun t =>
      sameBut [.curtain, .report, .attention] s t = true ∧ t.curtain.stale = true ∧ t.curtain.staleTimer = none ∧
      t.curtain.state = s.curtain.state ∧ t.curtain.position = s.curtain.position ∧
      t.curtain.estimator = s.curtain.estimator ∧
      (s.curtain.state = .lowering → s.curtain.mode = .emergency → s.curtain.emergencyTimer = none →
        t.curtain.emergencyTimer = some { start := s.clock, length := s.command.profile.emergencyStale }) ∧
      (s.phase.demoStatus = .lowering → s.curtain.state = .lowering → s.curtain.mode = .demo →
        t.curtain.sequence.unverified = true) ∧
      (roomFor 1 s = true → t.phase.report = s.phase.report ++
        [entryNow s .curtain
          ([3, s.curtain.code, s.curtain.code, byte s.curtain.mode.code] ++ bytes2 s.curtain.position)]) := by
  refine answers_event (f := positionStaleExpiry) rfl powered ?_
  have curtain := startEmergencyStale_curtain (staled s)
  have started := startEmergencyStale_after (staled s)
  have frame : sameBut [.curtain, .report, .attention] s (startEmergencyStale (staled s)) = true :=
    sameBut_trans (staled_frame s) (sameBut_mono started (by decide))
  have entry := (staled_adds s).to (sameBut_report started (by decide))
  have status : (startEmergencyStale (staled s)).phase.demoStatus = s.phase.demoStatus :=
    demoStatus_of_record (sameBut_record frame (by decide))
  have clock : (staled s).clock = s.clock := sameBut_clock (staled_frame s) (by decide)
  have profile : (staled s).command.profile = s.command.profile := profile_of_sameBut (staled_frame s) (by decide)
  rw [staled_curtain, clock, profile] at curtain
  rw [positionStaleExpiry_eq overdue]
  generalize startEmergencyStale (staled s) = v at *
  have timer : s.curtain.state = .lowering → s.curtain.mode = .emergency → s.curtain.emergencyTimer = none →
      v.curtain.emergencyTimer = some { start := s.clock, length := s.command.profile.emergencyStale } := fun lowering emergency none_ => by
    simp [curtain, lowering, emergency, none_]
  obtain ⟨stale, stopped, state, position, estimator, mode⟩ : v.curtain.stale = true ∧ v.curtain.staleTimer = none ∧
      v.curtain.state = s.curtain.state ∧ v.curtain.position = s.curtain.position ∧ v.curtain.estimator = s.curtain.estimator ∧
      v.curtain.mode = s.curtain.mode := by
    rw [curtain]
    exact ⟨rfl, rfl, rfl, rfl, rfl, rfl⟩
  split
  · exact ⟨sameBut_trans frame (sameBut_mono (markDemo_frame _ _) (by decide)), stale, stopped, state, position, estimator, timer,
      fun _ _ _ => by simp [markDemo], entry.one⟩
  · next unwatched =>
    refine ⟨frame, stale, stopped, state, position, estimator, timer, fun lowers lowering demo => ?_, entry.one⟩
    exact absurd (decide_eq_true ⟨status.trans lowers, state.trans lowering, mode.trans demo⟩) unwatched

theorem emergencyStale_answers (powered : s.powered = true) (overdue : due s.curtain.emergencyTimer s.clock = true)
    (lowering : s.curtain.state = .lowering) (reading : lineReading s 1 ≠ .active) :
    answers .emergencyStaleExpiry s fun t =>
      sameBut curtainParts s t = true ∧ t.curtain.state = .released ∧ t.curtain.mode = .emergency ∧ t.curtain.k5 = true ∧
      t.curtain.emergencyTimer = none ∧ isRaised .curtainFault t = true := by
  refine answers_event (f := emergencyStaleExpiry) rfl powered ?_
  have acts : emergencyStaleExpiry s = release none (s.onCurtain fun c => { c with emergencyTimer := none }) := by
    rw [emergencyStaleExpiry, if_pos overdue]
    exact if_neg (by simp [lowering])
  obtain ⟨state, mode, -, relay, timer⟩ :=
    release_released (s := s.onCurtain fun c => { c with emergencyTimer := none }) (cause := none) reading
  rw [acts]
  exact ⟨sameBut_trans (sameBut_mono (onCurtain_frame s _) (by decide)) (release_frame _ _), state, mode, relay, timer,
    isRaised_release (s := s.onCurtain fun c => { c with emergencyTimer := none }) reading⟩

/-! ## The obligation -/

theorem positioned_iff {state : CurtainState} : state.positioned = true ↔ state = .lowering ∨ state = .raising ∨ state = .released := by
  cases state <;> simp [CurtainState.positioned]

/-- The record that a POS leaves (R129, step 1). -/
def recordedPos (hi lo flags : Byte) (s : State) : Curtain :=
  { s.curtain with
    position := number2 hi lo, reportTime := some s.clock, stale := false, emergencyTimer := none
    staleTimer :=
      if s.curtain.state = .lowering ∨ s.curtain.state = .raising ∨ s.curtain.state = .released then
        some { start := s.clock, length := s.command.profile.positionStale }
      else s.curtain.staleTimer
    flags := DriveFlags.ofByte flags }

theorem heardPos_eq (hi lo flags : Byte) (s : State) : heardPos hi lo flags s = s.onCurtain fun _ => recordedPos hi lo flags s := by
  have timer : (if s.curtain.state.positioned = true then some (s.timerOf s.command.profile.positionStale) else s.curtain.staleTimer) =
      (recordedPos hi lo flags s).staleTimer := by
    simp only [positioned_iff]
    rfl
  have stored : heardPos hi lo flags s = s.onCurtain fun c => { recordedPos hi lo flags s with
      staleTimer := if s.curtain.state.positioned = true then some (s.timerOf s.command.profile.positionStale) else s.curtain.staleTimer } := rfl
  rw [stored, timer]

section Pos
variable {f : Frame} {c : Character} {hi lo flags : Byte} {rest : List Byte} (passing : passingFrame f c s = true)
  (pos : f.kind = kindPos) (payload : f.payload = hi :: lo :: flags :: rest) (source : f.source.toNat = s.command.profile.driveNode)
include passing pos payload source

theorem passes_pos {holds : State → Prop} (h : holds (takePos (hi :: lo :: flags :: rest) (huntWith 0 s))) : passes f c s holds :=
  passes_of passing (by rwa [handToOwner_driven (s := huntWith 0 s) pos payload source])

/-- A POS leaves its record, and what its steps make. -/
theorem passes_becomes {holds : State → Prop} (h : holds (takePos (hi :: lo :: flags :: rest) (huntWith 0 s))) :
    passes f c s fun t => sameBut curtainParts (huntWith 0 s) t = true ∧ t.curtain.position = number2 hi lo ∧
      t.curtain.reportTime = some s.clock ∧ t.curtain.flags = DriveFlags.ofByte flags ∧ t.curtain.stale = false ∧ holds t := by
  obtain ⟨frame, position, time, drive, stale⟩ := takePos_becomes hi lo flags rest (huntWith 0 s)
  exact passes_pos passing pos payload source ⟨frame, position, time, drive, stale, h⟩

end Pos

/-- Settles O30: a POS by the steps that act on it, and the expiries of the two stale timers. -/
theorem stalePositionReleasesIron : Obligations.StalePositionReleasesIron := by
  refine ⟨fun f c s passing pos => ⟨fun ignored => ?_, fun hi lo flags rest payload source => ?_⟩,
    fun s powered overdue => positionStale_answers powered overdue,
    fun s powered overdue lowering reading => emergencyStale_answers powered overdue lowering reading⟩
  · refine passes_of passing ?_
    rw [handToOwner_pos (s := huntWith 0 s) pos]
    obtain elsewhere | short := ignored
    · exact if_neg elsewhere
    · rw [takePos_short short]
      exact ite_self _
  · have becomes {holds : State → Prop} := passes_becomes (holds := holds) passing pos payload source
    have faults {cause : FaultCause} (h : Faulted cause (takePos (hi :: lo :: flags :: rest) (huntWith 0 s))) :=
      becomes (holds := fun t => t.curtain.state = .fault ∧ t.curtain.cause = some cause ∧ t.curtain.mode = .normal ∧
        isRaised .curtainFault t = true) ⟨h.state, h.cause, h.mode, h.raised⟩
    have line (n : Nat) : lineReading (huntWith 0 s) n = lineReading s n := rfl
    have profile : (huntWith 0 s).command.profile = s.command.profile := rfl
    refine ⟨becomes trivial, fun sound free was derived checked rests => ?_, fun faulty held floor fault checked =>
      ⟨fun calm => ?_, fun alarm reading => ?_⟩, fun isLocal sound derived checked fault held => ⟨fun alarm floor reading => ?_,
      fun calm moves => ?_⟩, fun sound free was checked calm open_ held => ⟨fun fault => ?_, ?_, ?_, ?_⟩,
      fun sound free was derived check floor => ⟨fun near => ?_, fun far => ?_⟩⟩
    · have states : s.curtain.state ≠ .unknown ∧ s.curtain.state ≠ .released ∧
          (s.curtain.state = .lowering → s.curtain.descentStart = none) := by
        obtain state | state | state | state | state | state | ⟨state, start⟩ := rests
        · simp [state]
        · simp [state]
        · simp [state]
        · simp [state]
        · simp [state]
        · simp [state]
        · simp [state, start]
      obtain ⟨known, held, start⟩ := states
      exact passes_pos passing pos payload source
        ((takePos_quiet (s := huntWith 0 s) sound free was derived checked known held start).trans (heardPos_eq hi lo flags (huntWith 0 s)))
    · exact faults (takePos_driveFault (s := huntWith 0 s) faulty held floor fault checked calm)
    · obtain ⟨state, cause, relay, -, raised⟩ :=
        takePos_driveFault_alarm (hi := hi) (lo := lo) (rest := rest) (s := huntWith 0 s) faulty held floor fault checked alarm reading
      exact becomes ⟨state, cause, relay, raised⟩
    · obtain ⟨state, -, relay, -, -⟩ :=
        takePos_local_alarm (hi := hi) (lo := lo) (rest := rest) (s := huntWith 0 s) sound isLocal checked fault held alarm floor reading
      exact becomes ⟨state, relay⟩
    · have driven := takePos_local (hi := hi) (lo := lo) (rest := rest) (s := huntWith 0 s) sound isLocal derived checked fault held calm moves
      refine becomes ⟨driven.state, driven.mode, fun was => ?_, driven.frames⟩
      have appears : (!(huntWith 0 s).curtain.flags.localControl) = true := by
        change (!s.curtain.flags.localControl) = true
        simp [was]
      obtain ⟨repeats, raises, dead, pending, start⟩ := driven.undriven appears
      exact ⟨repeats, raises, dead, pending, start, driven.failed appears⟩
    · have derives {cause : FaultCause} (move : derivedMove (derivable hi lo flags (huntWith 0 s)) = .faulted cause) :=
        faults (takePos_derived_fault (rest := rest) (s := huntWith 0 s) sound free was checked open_ calm held fault move)
      have move := derivedMove_eq (hi := hi) (lo := lo) sound (huntWith 0 s)
      simp only [line, profile] at move
      refine ⟨fun in_ => derives ?_, fun in_ out => derives ?_, fun in_ out => derives ?_, fun in_ out far => derives ?_,
        fun in_ out far => derives ?_⟩
      · rw [move, if_pos in_]
      · rw [move, if_neg in_, if_pos out]
      · simp [move, in_, out]
      · simp [move, in_, out, far]
      · simp [move, in_, out, far]
    · intro in_ out near
      refine becomes (takePos_derived_plain (rest := rest) (s := huntWith 0 s) (state := .atFloor) sound free was checked open_ calm held ?_
        (by simp))
      simp [derivedMove_eq sound, line, profile, in_, out, near]
    · intro in_ out near
      refine becomes (takePos_derived_plain (rest := rest) (s := huntWith 0 s) (state := .stored) sound free was checked open_ calm held ?_
        (by simp))
      simp [derivedMove_eq sound, line, profile, in_, out, near]
    · intro in_ out
      refine becomes (takePos_derived_plain (rest := rest) (s := huntWith 0 s) (state := .stopped) sound free was checked open_ calm held ?_
        (by simp))
      simp [derivedMove_eq sound, line, profile, in_, out]
    · refine passes_pos passing pos payload source ?_
      have agrees := takePos_floor_agrees (rest := rest) (s := huntWith 0 s) sound free was derived check floor near
      rw [agrees, floorChecked, heardPos_eq]
      rfl
    · obtain ⟨faulted, failed⟩ := takePos_floor_disagrees (rest := rest) (s := huntWith 0 s) sound free was derived check floor far
      exact becomes ⟨faulted.state, faulted.cause, faulted.checked, faulted.raised, failed⟩

end Sys2Proof.Machine
end

section
/-! SUPPORT. What steps of the Zone Monitor keep: the records of zones that are not masked, the windows that are closed (R102,
R108, R118), and the flags that are set. -/

namespace Sys2Proof.Machine

variable {s t u : State} {kinds : List Kind}

/-! ## Flags -/

theorem micro_raised {k : Kind} {flag : Flag} (h : Micro k s t) (hk : k ≠ .acked) (hs : isRaised flag s = true) :
    isRaised flag t = true := by
  cases h with
  | attention _ _ grows => exact grows _ hs
  | command attention => exact (congrArg (fun a => a.getLsbD flag.bit) attention).trans hs
  | acknowledged => exact absurd rfl hk
  | _ => exact hs

/-- A flag that is set stays, unless it is acknowledged. -/
theorem chain_raised {flag : Flag} (h : Chain kinds s t) (hk : .acked ∉ kinds) (hs : isRaised flag s = true) : isRaised flag t = true :=
  h.keeps (P := fun u => isRaised flag u = true) (fun _ mem _ _ step => micro_raised step fun same => hk (same ▸ mem)) hs

/-! ## A zone that is not masked -/

/-- The record of a zone that is not masked stands. -/
def KeepsUnmasked (s t : State) : Prop :=
  ∀ (z : Nat) (zone : Zone), zoneAt s z = some zone → zone.state ≠ .masked → zoneAt t z = some zone

theorem KeepsUnmasked.refl (s : State) : KeepsUnmasked s s := fun _ _ h _ => h

theorem KeepsUnmasked.trans (h : KeepsUnmasked s t) (k : KeepsUnmasked t u) : KeepsUnmasked s u :=
  fun z zone at_ open_ => k z zone (h z zone at_ open_) open_

theorem KeepsUnmasked.of_zones (h : ∀ z, zoneAt t z = zoneAt s z) : KeepsUnmasked s t := fun z _ at_ _ => (h z).trans at_

theorem moveZone_zoneAt_other {p z : Nat} (other : p ≠ z) (new : ZoneState) (verify : Option Timer) (cause : ZoneCause) (s : State) :
    zoneAt (moveZone p new verify cause s) z = zoneAt s z := by
  obtain same | ⟨zone, -, moved⟩ := moveZone_zones verify cause s (z := p) (new := new)
  · exact zoneAt_of_zones same z
  · rw [zoneAt_of_zones moved, zoneAt_setZone, if_neg fun h => other h.1]

theorem moveZone_masked_keeps {p : Nat} (masked : zoneIs s p .masked = true) (new : ZoneState) (verify : Option Timer) (cause : ZoneCause) :
    KeepsUnmasked s (moveZone p new verify cause s) := by
  intro z zone at_ open_
  have other : p ≠ z := by
    rintro rfl
    obtain ⟨found, hfound, state⟩ := zoneIs_iff.1 masked
    cases at_.symm.trans hfound
    exact open_ state
  rw [moveZone_zoneAt_other other, at_]

theorem forEach_moveZone_other {items : List Nat} {z : Nat} (away : z ∉ items) (new : ZoneState) (verify : Option Timer)
    (cause : ZoneCause) (s : State) : zoneAt (forEach items (fun p => moveZone p new verify cause) s) z = zoneAt s z :=
  forEach_induction (fun t => zoneAt t z = zoneAt s z) (fun p => moveZone p new verify cause) items s
    (fun p mem t ht => (moveZone_zoneAt_other (fun (same : p = z) => away (same ▸ mem)) new verify cause t).trans ht) rfl

theorem mem_linkedMasked {z p : Nat} : p ∈ linkedMasked s z ↔ p < 48 ∧ linked s z p = true ∧ zoneIs s p .masked = true := by
  simp [linkedMasked]

theorem partners_keeps (z : Nat) (s : State) :
    KeepsUnmasked s (forEach (linkedMasked s z) (fun p => moveZone p .confirmed none .coincidence) s) := by
  intro i zone at_ open_
  have away : i ∉ linkedMasked s z := fun mem => by
    obtain ⟨found, hfound, state⟩ := zoneIs_iff.1 (mem_linkedMasked.1 mem).2.2
    cases at_.symm.trans hfound
    exact open_ state
  rw [forEach_moveZone_other away, at_]

theorem coincideLoop_keeps (fuel : Nat) (work : List Nat) (s : State) : KeepsUnmasked s (coincideLoop fuel work s) := by
  induction fuel generalizing work s with
  | zero => exact .refl s
  | succ fuel ih =>
    cases work with
    | nil => exact .refl s
    | cons z work =>
      unfold coincideLoop
      dsimp only
      split
      · next own => exact ((partners_keeps z s).trans (moveZone_masked_keeps own.1 _ _ _)).trans (ih _ _)
      · exact (partners_keeps z s).trans (ih _ _)

theorem enterZone_masked_keeps {z : Nat} (masked : zoneIs s z .masked = true) (new : ZoneState) (verify : Option Timer) (cause : ZoneCause) :
    KeepsUnmasked s (enterZone z new verify cause s) := by
  unfold enterZone
  split
  · exact .refl s
  dsimp only
  split
  · exact (moveZone_masked_keeps masked _ _ _).trans (coincideLoop_keeps _ _ _)
  · exact moveZone_masked_keeps masked _ _ _

theorem resolveAlarm_keeps (z : Nat) (s : State) : KeepsUnmasked s (resolveAlarm z s) := by
  unfold resolveAlarm
  split
  · exact .refl s
  · next zone found =>
    split
    · next alarmed => exact enterZone_masked_keeps (zoneIs_iff.2 ⟨zone, found, alarmed.1⟩) _ _ _
    · exact .refl s

theorem resolveClear_keeps (z : Nat) (s : State) : KeepsUnmasked s (resolveClear z s) := by
  unfold resolveClear
  split
  · next masked => exact enterZone_masked_keeps masked _ _ _
  · exact .refl s

theorem forEach_keeps {α : Type} {f : α → State → State} (items : List α) (h : ∀ a t, KeepsUnmasked t (f a t)) (s : State) :
    KeepsUnmasked s (forEach items f s) :=
  forEach_induction (KeepsUnmasked s) f items s (fun a _ t ht => ht.trans (h a t)) (.refl s)

theorem closeWindows_keeps (windows : List Nat) (cause : ZoneCause) (s : State) : KeepsUnmasked s (closeWindows windows cause s) := by
  have closed : KeepsUnmasked s (forEach (windows.filter (windowOpen s)) (closeWindow cause) s) :=
    .of_zones fun z => forEach_closeWindow_zoneAt cause _ z s
  exact closed.trans ((forEach_keeps _ resolveAlarm_keeps _).trans (forEach_keeps _ resolveClear_keeps _))

/-! ## What a closure keeps, a step keeps -/

/-- What is said of zones and windows alone, and every closure keeps. -/
structure ClosureKeeps (P : State → Prop) : Prop where
  congr : ∀ s t : State, t.zones.zones = s.zones.zones → t.zones.windows = s.zones.windows → t.zones.panel = s.zones.panel → P s → P t
  closes : ∀ windows cause s, P s → P (closeWindows windows cause s)

theorem closureKeeps_unmasked {z : Nat} {zone : Zone} (open_ : zone.state ≠ .masked) :
    ClosureKeeps fun s => zoneAt s z = some zone where
  congr _ _ zones _ _ h := by simpa only [zoneAt, zones] using h
  closes windows cause s h := closeWindows_keeps windows cause s z zone h open_

theorem closureKeeps_confirmed (z : Nat) : ClosureKeeps fun s => zoneIs s z .confirmed = true where
  congr _ _ zones _ _ h := by simpa only [zoneIs, zoneAt, zones] using h
  closes windows cause s h := by
    obtain ⟨zone, at_, state⟩ := zoneIs_iff.1 h
    exact zoneIs_iff.2 ⟨zone, closeWindows_keeps windows cause s z zone at_ (by simp [state]), state⟩

theorem closeWindows_windows (windows : List Nat) (cause : ZoneCause) (i : Nat) (s : State) :
    (closeWindows windows cause s).zones.windows[i]? = (s.zones.windows[i]?).map fun x =>
      if i ∈ windows.filter (windowOpen s) ∧ x.isOpen then { x with isOpen := false, timer := none } else x := by
  rw [(closeWindows_resolution windows cause s).windows, forEach_closeWindow_windows]

/-- A closed window's record stands. -/
theorem closureKeeps_window {w : Nat} {window : Window} (shut : window.isOpen = false) :
    ClosureKeeps fun s => s.zones.windows[w]? = some window where
  congr _ _ _ windows _ h := by rwa [windows]
  closes windows cause s h := by
    rw [closeWindows_windows, h]
    simp [shut]

theorem closureKeeps_shut : ClosureKeeps windowsShut where
  congr _ _ _ windows _ h w window at_ := h w window (by rwa [← windows])
  closes windows cause s h w window at_ := by
    rw [closeWindows_windows] at at_
    obtain ⟨old, hold, rfl⟩ := Option.map_eq_some_iff.1 at_
    simp [h w old hold]

section Keeps
variable {P : State → Prop} (keeps : ClosureKeeps P)
include keeps

theorem ClosureKeeps.zones (same : t.zones = s.zones) (h : P s) : P t :=
  keeps.congr s t (by rw [same]) (by rw [same]) (by rw [same]) h

theorem ClosureKeeps.chain (h : Chain kinds s t) (zones : .zones ∉ kinds) (alarm : .alarm ∉ kinds) (hs : P s) : P t :=
  keeps.zones (chain_zones h zones alarm) hs

theorem ClosureKeeps.alarmClosure (h : P s) : P (alarmClosure s) := by
  unfold Machine.alarmClosure
  split
  · exact keeps.closes _ _ _ h
  · exact h

theorem ClosureKeeps.stepWith {evacuation : State → State} (evac : ∀ t, P t → P (evacuation t)) {origin : Byte}
    {change : State → State} (h : P (change s)) : P (zoneStepWith evacuation origin change s) := by
  have closed := keeps.alarmClosure h
  obtain ⟨-, same⟩ | handed := zoneStepWith_cases evacuation origin change s
  · rwa [same]
  · rw [handed]
    have recorded : P (stepRecord change s) := keeps.congr (Machine.alarmClosure (change s)) _ rfl rfl rfl closed
    exact handOn_settles (keeps.zones (toldAlarm_zones _ _ _) recorded) evac fun _ _ calm => keeps.chain calm (by decide) (by decide)

theorem ClosureKeeps.closeAll {cause : ZoneCause} (h : P s) : P (closeAllWindows cause s) :=
  keeps.stepWith (fun _ => id) (keeps.closes _ _ _ h)

theorem ClosureKeeps.changePhase {new : Phase} {cause : PhaseCause} {fields : PhaseUnit → PhaseUnit} {further : State → State}
    (adds : ∀ t, Chain routine t (further t)) (h : P s) : P (changePhase new cause fields further s) := by
  have opened : P (further (reportPhase new s.phase.phase cause (s.onPhase fun p => { fields p with phase := new }))) :=
    keeps.chain (changePhase_opening adds new cause _ _) (by decide) (by decide) (keeps.congr s _ rfl rfl rfl h)
  have told (previous : Phase) {t : State} (ht : P t) : P (callsToldPhase new previous (curtainToldPhase new (deriveK4 t))) :=
    keeps.chain ((curtainToldPhase_chain _ _).trans (callsToldPhase_chain _ _ _)) (by decide) (by decide)
      (keeps.congr t _ rfl rfl rfl ht)
  refine keeps.chain (notice_chain _ _) (by decide) (by decide) ?_
  unfold tellPhase
  dsimp only
  split
  · exact told _ (keeps.closeAll opened)
  · exact told _ opened

theorem ClosureKeeps.evacuate (h : P s) : P (evacuate s) := by
  unfold Machine.evacuate
  split
  · exact h
  · exact keeps.changePhase (fun t => .refl t) h

/-- What the change of a step leaves so, the step leaves so. -/
theorem ClosureKeeps.step {origin : Byte} {change : State → State} (h : P (change s)) : P (zoneStep origin change s) :=
  keeps.stepWith (fun _ => keeps.evacuate) h

end Keeps

end Sys2Proof.Machine
end

section
/-! SUPPORT. What a step of the Zone Monitor makes of the alarm condition record, and what follows a confirmation (R102, R120,
R121). -/

namespace Sys2Proof.Machine

variable {s t u : State} {kinds : List Kind} {origin : Byte} {change : State → State}

/-! ## Steps that close nothing -/

theorem closeWindows_none {windows : List Nat} {cause : ZoneCause} (shut : ∀ w ∈ windows, windowOpen s w = false) :
    closeWindows windows cause s = s := by
  have none_ : windows.filter (windowOpen s) = [] := List.filter_eq_nil_iff.2 fun w mem => by simp [shut w mem]
  have covers : uncovered [] s = [] := List.filter_eq_nil_iff.2 fun z _ => by simp
  rw [closeWindows, none_, forEach_nil, covers, forEach_nil, forEach_nil]

theorem windowOpen_of_shut (shut : windowsShut s) (w : Nat) : windowOpen s w = false := by
  cases open_ : windowOpen s w with
  | false => rfl
  | true =>
    obtain ⟨window, at_, isOpen⟩ := windowOpen_iff.1 open_
    exact isOpen.symm.trans (shut w window at_)

theorem alarmClosure_shut_id (shut : windowsShut s) : alarmClosure s = s := by
  unfold alarmClosure
  split
  · exact closeWindows_none fun w _ => windowOpen_of_shut shut w
  · rfl

/-- A step that leaves the record is its change with the closure. -/
theorem zoneStep_same (same : derivedAlarm (alarmClosure (change s)) = s.zones.alarm) :
    zoneStep origin change s = alarmClosure (change s) := if_pos same

theorem zoneStep_derived (changes : Chain zoneKinds s (change s)) (derived : recordDerived s = true) :
    recordDerived (zoneStep origin change s) = true :=
  zoneStepWith_derived (fun _ => evacuate_derived) origin changes (recordDerived_iff.1 derived).2

/-! ## A step that confirms a zone -/

theorem mem_confirmedZones {z : Nat} (range : z < 48) : z ∈ confirmedZones s ↔ zoneIs s z .confirmed = true := by
  have other : z ≠ panelNumber := by
    unfold panelNumber
    omega
  simp only [confirmedZones, List.mem_append, List.mem_filter, List.mem_range, range, true_and]
  split <;> simp [other]

/-- What follows the telling of the Curtain Supervisor in a handed-on change. -/
theorem handOn_later (before : AlarmRecord) (origin : Byte) (s : State) :
    Chain phaseKinds (curtainToldAlarm before (setAttention .alarmChange (reportAlarm origin s))) (handOn evacuate before origin s) := by
  have told : Chain phaseKinds (curtainToldAlarm before (setAttention .alarmChange (reportAlarm origin s))) (toldAlarm before origin s) :=
    ((deriveK4_chain _).mono (by decide)).trans ((callsToldAlarm_chain before _).mono (by decide))
  exact handOn_settles (P := fun t => Chain phaseKinds (curtainToldAlarm before (setAttention .alarmChange (reportAlarm origin s))) t) told
    (fun t h => h.trans (evacuate_chain t)) fun _ _ calm h => h.trans (calm.mono (by decide))

/-- The changes that follow the record of a handed-on change. -/
theorem handOn_after (before : AlarmRecord) (origin : Byte) (s : State) :
    Chain phaseKinds (setAttention .alarmChange (reportAlarm origin s)) (handOn evacuate before origin s) :=
  ((curtainToldAlarm_chain before _).mono (by decide)).trans (handOn_later before origin s)

theorem handOn_raised (before : AlarmRecord) (origin : Byte) (s : State) : isRaised .alarmChange (handOn evacuate before origin s) = true :=
  chain_raised (handOn_after before origin s) (by decide) (isRaised_set _ _)

theorem changePhase_phase {new : Phase} {cause : PhaseCause} {fields : PhaseUnit → PhaseUnit} {further : State → State}
    (adds : ∀ t, Chain routine t (further t)) (s : State) : (changePhase new cause fields further s).phase.phase = new :=
  (chain_phase (changePhase_after_chain (new := new) (cause := cause) (fields := fields) adds s) (by decide)).trans rfl

/-- The evacuation request is taken in every phase but CLOSED (R47). -/
theorem evacuate_phase (s : State) : (evacuate s).phase.phase = if s.phase.phase = .closed then .closed else .evacuating := by
  unfold evacuate
  split
  · next stays =>
    obtain closed | evacuating := stays
    · rw [if_pos closed, closed]
    · rw [evacuating, if_neg (by decide)]
  · next goes =>
    rw [not_or] at goes
    rw [if_neg goes.1]
    exact changePhase_phase (further := id) (fun t => .refl t) s

/-- The phase after a change of the record: an evacuation where the confirmed set was empty (R121, R47). -/
theorem handOn_phase {before : AlarmRecord} (confirmed : s.zones.alarm.confirmed ≠ []) :
    (handOn evacuate before origin s).phase.phase =
      if s.phase.phase = .closed then .closed else if before.confirmed = [] then .evacuating else s.phase.phase := by
  have told : (toldAlarm before origin s).phase.phase = s.phase.phase := chain_phase (toldAlarm_chain before origin s) (by decide)
  unfold handOn
  dsimp only
  rw [chain_phase ((staffRequest_chain _ _ _).trans (notice_chain _ _)) (by decide)]
  change (if before.confirmed = [] ∧ s.zones.alarm.confirmed ≠ [] then evacuate (toldAlarm before origin s)
    else toldAlarm before origin s).phase.phase = _
  by_cases first : before.confirmed = []
  · rw [if_pos ⟨first, confirmed⟩, evacuate_phase, told, if_pos first]
  · rw [if_neg fun h => first h.1, told, if_neg first]
    split
    · next closed => exact closed
    · rfl

/-- What a step leaves that has confirmed a zone. -/
structure Alarmed (z : Nat) (s t : State) : Prop where
  confirmed : zoneIs t z .confirmed = true
  member : z ∈ t.zones.alarm.confirmed
  shut : windowsShut t
  raised : isRaised .alarmChange t = true
  relay : t.lights.k4 = true
  override_ : overrideActive t = true
  phase : t.phase.phase = if s.phase.phase = .closed then .closed else
    if s.zones.alarm.confirmed = [] then .evacuating else s.phase.phase

/-- A step whose change confirms a zone that was not confirmed. -/
theorem zoneStep_alarmed {z : Nat} (changes : Chain zoneKinds s (change s)) (derived : recordDerived s = true)
    (fresh : zoneIs s z .confirmed = false) (confirmed : zoneIs (change s) z .confirmed = true) :
    zoneStep origin change s = handOn evacuate s.zones.alarm origin (stepRecord change s) ∧ Alarmed z s (zoneStep origin change s) := by
  have range : z < 48 := by
    obtain ⟨zone, at_, -⟩ := zoneIs_iff.1 confirmed
    exact lt_of_zoneAt at_
  have kept := closureKeeps_confirmed z
  have stands : zoneIs (alarmClosure (change s)) z .confirmed = true := kept.alarmClosure confirmed
  have joins : z ∈ confirmedZones (alarmClosure (change s)) := (mem_confirmedZones range).2 stands
  have differs : derivedAlarm (alarmClosure (change s)) ≠ s.zones.alarm := fun same => by
    rw [(recordDerived_iff.1 derived).1] at same
    have before : z ∈ confirmedZones s := by
      have sets := congrArg AlarmRecord.confirmed same
      rwa [← show confirmedZones (alarmClosure (change s)) = confirmedZones s from sets]
    rw [mem_confirmedZones range, fresh] at before
    exact Bool.false_ne_true before
  have steps := zoneStep_changes (origin := origin) differs
  have after : zoneIs (zoneStep origin change s) z .confirmed = true := kept.step confirmed
  have record := (recordDerived_iff.1 (zoneStep_derived (origin := origin) changes derived)).1
  have member : z ∈ (zoneStep origin change s).zones.alarm.confirmed := by
    rw [record]
    exact (mem_confirmedZones range).2 after
  have some_ : (zoneStep origin change s).zones.alarm.confirmed.isEmpty = false := by
    cases set_ : (zoneStep origin change s).zones.alarm.confirmed with
    | nil => rw [set_] at member; simp at member
    | cons => rfl
  have shut : windowsShut (zoneStep origin change s) := by
    have closed : windowsShut (alarmClosure (change s)) :=
      (alarmClosure_shut (change s)).resolve_left fun none_ => by rw [none_] at joins; simp at joins
    rw [steps]
    exact handOn_settles (closureKeeps_shut.zones (toldAlarm_zones _ _ _) (closureKeeps_shut.congr (alarmClosure (change s)) _ rfl rfl rfl closed))
      (fun _ => closureKeeps_shut.evacuate) fun _ _ calm => closureKeeps_shut.chain calm (by decide) (by decide)
  have relay : k4Follows (zoneStep origin change s) := by
    rw [steps]
    exact handOn_settles (toldAlarm_k4 _ _ _) (fun _ => evacuate_k4) fun _ _ calm => k4Follows_keep calm (by decide) (by decide) (by decide)
  have phase : (stepRecord change s).phase.phase = s.phase.phase :=
    chain_phase ((stepRecord_chain changes).mono (by decide : _ ⊆ alarmKinds)) (by decide)
  refine ⟨steps, after, member, shut, ?_, ?_, ?_, ?_⟩
  · rw [steps]
    exact handOn_raised _ _ _
  · rw [k4Follows] at relay
    rw [relay, some_]
    rfl
  · simp [overrideActive, some_]
  · rw [steps, handOn_phase (by intro none_; rw [show (stepRecord change s).zones.alarm.confirmed = confirmedZones (alarmClosure (change s)) from rfl] at none_; rw [none_] at joins; simp at joins), phase]

end Sys2Proof.Machine
end

section
/-! SUPPORT. A step of the Zone Monitor after its change (R102), and the changes of reports and expiries (R103 to R109). -/

namespace Sys2Proof.Machine

variable {s t u : State} {origin : Byte} {change : State → State} {z : Nat} {zone : Zone} {condition : Condition}

/-! ## After the change -/

/-- What follows the change of a step. -/
theorem zoneStep_after (origin : Byte) (change : State → State) (s : State) :
    Chain phaseKinds (change s) (zoneStep origin change s) := by
  have closed : Chain phaseKinds (change s) (alarmClosure (change s)) := (alarmClosure_chain _).mono (by decide)
  obtain ⟨-, same⟩ | handed := zoneStepWith_cases evacuate origin change s
  · rw [zoneStep, same]
    exact closed
  · rw [zoneStep, handed]
    exact (closed.trans (.one (.alarm _ _) (by decide))).trans (handOn_chain (by decide) evacuate_chain _ _ _)

/-- A safety entry that has been gained stays, whatever follows. -/
theorem gains_later {entry : ReportEntry} (first : gains entry s t = true) (later : Chain usual t u)
    (safety : entry.kind.safety = true) : gains entry s u = true := by
  have kept := chain_safety later safety
  simp only [gains, decide_eq_true_eq] at first ⊢
  omega

/-- An entry gained within the change of a step is gained by the step. -/
theorem zoneStep_gains {entry : ReportEntry} (origin : Byte) (gained : gains entry s t = true)
    (rest : Chain zoneKinds t (change s)) (safety : entry.kind.safety = true) : gains entry s (zoneStep origin change s) = true :=
  gains_later gained ((rest.mono (by decide)).trans (phase_usual (zoneStep_after origin change s))) safety

theorem zoneStep_raised {flag : Flag} (raised : isRaised flag (change s) = true) : isRaised flag (zoneStep origin change s) = true :=
  chain_raised (zoneStep_after origin change s) (by decide) raised

/-- A change that leaves the record as it was, and no window open in an alarm, is the whole step. -/
theorem zoneStep_quiet (derived : recordDerived s = true) (closed : windowsClosedInAlarm s = true)
    (record : derivedAlarm (change s) = derivedAlarm s) (windows : (change s).zones.windows = s.zones.windows) :
    zoneStep origin change s = change s := by
  have before := (recordDerived_iff.1 derived).1
  have closes : alarmClosure (change s) = change s := by
    obtain calm | shut := (windowsClosedInAlarm_iff.1 closed).1
    · refine alarmClosure_calm ?_
      rw [show confirmedZones (change s) = (derivedAlarm (change s)).confirmed from rfl, record, ← before, calm]
    · exact alarmClosure_shut_id fun w window at_ => shut w window (by rwa [← windows])
  rw [zoneStep_same (by rw [closes, record, before]), closes]

/-- Without a confirmed zone a step leaves the zones as its change does. -/
theorem zoneStep_calm_zoneAt (calm : confirmedZones (change s) = []) (i : Nat) :
    zoneAt (zoneStep origin change s) i = zoneAt (change s) i := by
  have closes := alarmClosure_calm calm
  obtain ⟨-, same⟩ | handed := zoneStepWith_cases evacuate origin change s
  · rw [zoneStep, same, closes]
  · have confirmed : (stepRecord change s).zones.alarm.confirmed = [] := by
      rw [stepRecord, closes]
      exact calm
    have noEvacuation : handOn evacuate s.zones.alarm origin (stepRecord change s) = handOn id s.zones.alarm origin (stepRecord change s) := by
      unfold handOn
      dsimp only
      rw [if_neg fun h => h.2 confirmed, if_neg fun h => h.2 confirmed]
    have told : zoneAt (toldAlarm s.zones.alarm origin (stepRecord change s)) i = zoneAt (change s) i := by
      rw [zoneAt_of_zones (toldAlarm_zones _ _ _), stepRecord, closes]
      rfl
    rw [zoneStep, handed, noEvacuation]
    exact handOn_settles (P := fun t => zoneAt t i = zoneAt (change s) i) told (fun _ => id)
      fun _ _ calm same => (zoneAt_of_zones (chain_zones calm (by decide) (by decide)) i).trans same

/-! ## Records that give the same alarm condition -/

/-- Zones whose states and sides are as they were give the record that was (R120). -/
theorem derivedAlarm_of_states (panel : t.zones.panel = s.zones.panel)
    (states : ∀ i, (zoneAt t i).map (fun z => (z.state, z.defn.side)) = (zoneAt s i).map fun z => (z.state, z.defn.side)) :
    derivedAlarm t = derivedAlarm s := by
  have zoneIs_same (i : Nat) (state : ZoneState) : zoneIs t i state = zoneIs s i state := by
    have h := states i
    unfold zoneIs
    cases ht : zoneAt t i <;> cases hs : zoneAt s i <;> simp [ht, hs] at h ⊢
    rw [h.1]
  have any_same (kind : Zone → Bool) (reads : ∀ a b : Zone, (a.state, a.defn.side) = (b.state, b.defn.side) → kind a = kind b) :
      (t.zones.zones.toList.any fun zone => zone.any kind) = s.zones.zones.toList.any fun zone => zone.any kind := by
    have half {p q : State} (same : ∀ i, (zoneAt p i).map (fun z => (z.state, z.defn.side)) = (zoneAt q i).map fun z => (z.state, z.defn.side))
        (h : (p.zones.zones.toList.any fun zone => zone.any kind) = true) :
        (q.zones.zones.toList.any fun zone => zone.any kind) = true := by
      simp only [List.any_eq_true, Option.any_eq_true] at h ⊢
      obtain ⟨o, mem, zone, rfl, hold⟩ := h
      obtain ⟨i, at_⟩ := mem_zones.1 mem
      have pair := same i
      rw [at_, Option.map_some] at pair
      obtain ⟨other, there, same_⟩ := Option.map_eq_some_iff.1 pair.symm
      exact ⟨some other, mem_zones.2 ⟨i, there⟩, other, rfl, (reads _ _ same_).trans hold⟩
    exact Bool.eq_iff_iff.2 ⟨half states, half fun i => (states i).symm⟩
  have side (w : Side) : sideConfirmed t w = sideConfirmed s w := by
    rw [sideConfirmed, sideConfirmed, panel, any_same _ fun a b same => by rw [(Prod.mk.inj same).1, (Prod.mk.inj same).2]]
  have some_ (kind : ZoneState → Bool) : anyZone t kind = anyZone s kind :=
    any_same _ fun a b same => by rw [(Prod.mk.inj same).1]
  have set_ : confirmedZones t = confirmedZones s := by simp only [confirmedZones, zoneIs_same, panel]
  simp only [derivedAlarm, set_, side, some_, panel]

/-- The record of a zone is replaced by one in its state. -/
theorem derivedAlarm_setZone {new : Zone} (found : zoneAt s z = some zone) (state : new.state = zone.state)
    (side : new.defn = zone.defn) : derivedAlarm (setZone z (some new) s) = derivedAlarm s := by
  refine derivedAlarm_of_states rfl fun i => ?_
  rw [zoneAt_setZone]
  split
  · next same =>
    rw [← same.1, found, Option.map_some, Option.map_some, state, side]
  · rfl

/-! ## A zone's own entries and those of its partners (R108) -/

theorem zoneAt_moveZone_defn (p : Nat) (new : ZoneState) (verify : Option Timer) (cause : ZoneCause) (s : State) (i : Nat) :
    (zoneAt (moveZone p new verify cause s) i).map Zone.defn = (zoneAt s i).map Zone.defn := by
  obtain same | ⟨zone, at_, moved⟩ := moveZone_zones verify cause s (z := p) (new := new)
  · rw [zoneAt_of_zones same]
  · rw [zoneAt_of_zones moved, zoneAt_setZone]
    split
    · next same => rw [← same.1, at_]; rfl
    · rfl

theorem moveZone_masked_adds {p : Nat} (masked : zoneIs s p .masked = true) (cause : ZoneCause) :
    Adds [zoneEntry p .confirmed .masked cause s] s (moveZone p .confirmed none cause s) ∧
      zoneIs (moveZone p .confirmed none cause s) p .confirmed = true := by
  obtain ⟨zone, at_, state⟩ := zoneIs_iff.1 masked
  rw [moveZone_moves at_ (by simp [state])]
  refine ⟨?_, zoneIs_iff.2 ⟨_, (zoneAt_stateMoved (lt_of_zoneAt at_) p).trans (if_pos rfl), rfl⟩⟩
  have entry := stateMoved_adds p zone .confirmed none cause s
  rwa [state] at entry

theorem moveZone_clock (p : Nat) (new : ZoneState) (verify : Option Timer) (cause : ZoneCause) (s : State) :
    (moveZone p new verify cause s).clock = s.clock := sameBut_clock (moveZone_frame _ _ _ _ s) (by decide)

/-- Each of the masked zones is confirmed, with its entry. -/
theorem forEach_confirms {partners : List Nat} (distinct : partners.Nodup) (masked : ∀ p ∈ partners, zoneIs s p .masked = true) :
    Adds (partners.map fun p => zoneEntry p .confirmed .masked .coincidence s) s
        (forEach partners (fun p => moveZone p .confirmed none .coincidence) s) ∧
      ∀ p ∈ partners, zoneIs (forEach partners (fun p => moveZone p .confirmed none .coincidence) s) p .confirmed = true := by
  induction partners generalizing s with
  | nil => exact ⟨.none rfl, fun _ mem => nomatch mem⟩
  | cons p rest ih =>
    obtain ⟨fresh, distinct⟩ := List.nodup_cons.1 distinct
    obtain ⟨adds, confirmed⟩ := moveZone_masked_adds (masked p List.mem_cons_self) .coincidence
    have other (q : Nat) (mem : q ∈ rest) : zoneIs (moveZone p .confirmed none .coincidence s) q .masked = true := by
      rw [zoneIs, moveZone_zoneAt_other fun (same : p = q) => fresh (same ▸ mem)]
      exact masked q (List.mem_cons_of_mem _ mem)
    obtain ⟨more, confirms⟩ := ih distinct other
    have entries : (rest.map fun q => zoneEntry q .confirmed .masked .coincidence (moveZone p .confirmed none .coincidence s)) =
        rest.map fun q => zoneEntry q .confirmed .masked .coincidence s := by
      simp only [zoneEntry, entryNow, moveZone_clock]
    rw [entries] at more
    rw [forEach_cons]
    refine ⟨adds.trans more, fun q mem => ?_⟩
    obtain rfl | mem := List.mem_cons.1 mem
    · rw [zoneIs, forEach_moveZone_other fresh]
      exact confirmed
    · exact confirms q mem

theorem linkedMasked_nodup (z : Nat) (s : State) : (linkedMasked s z).Nodup := List.nodup_range.filter _

/-- The zones that the first entry of a coincidence confirms. -/
def partnersConfirmed (z : Nat) (s : State) : State :=
  forEach (linkedMasked s z) (fun p => moveZone p .confirmed none .coincidence) s

theorem partnersConfirmed_adds (z : Nat) (s : State) :
    Adds ((linkedMasked s z).map fun p => zoneEntry p .confirmed .masked .coincidence s) s (partnersConfirmed z s) :=
  (forEach_confirms (linkedMasked_nodup z s) fun _ mem => (mem_linkedMasked.1 mem).2.2).1

theorem partnersConfirmed_confirmed {p : Nat} (mem : p ∈ linkedMasked s z) : zoneIs (partnersConfirmed z s) p .confirmed = true :=
  (forEach_confirms (linkedMasked_nodup z s) fun _ mem => (mem_linkedMasked.1 mem).2.2).2 p mem

theorem partnersConfirmed_linked (a b : Nat) : linked (partnersConfirmed z s) a b = linked s a b := by
  refine linked_congr (fun i => ?_) a b
  exact forEach_induction (fun t => (zoneAt t i).map Zone.defn = (zoneAt s i).map Zone.defn) _ _ s
    (fun p _ t same => (zoneAt_moveZone_defn p _ _ _ t i).trans same) rfl

/-- After its partners, the entry of a coincidence confirms its own zone if that is masked and linked to an alarmed one. -/
theorem coincide_after (z : Nat) (s : State) : Chain zoneKinds (partnersConfirmed z s) (coincide z s) ∧
    KeepsUnmasked (partnersConfirmed z s) (coincide z s) := by
  rw [coincide, coincideLoop]
  split
  · next own =>
    exact ⟨(moveZone_chain rfl z _ _).trans (coincideLoop_chain _ _ _),
      (moveZone_masked_keeps own.1 _ _ _).trans (coincideLoop_keeps _ _ _)⟩
  · exact ⟨coincideLoop_chain _ _ _, coincideLoop_keeps _ _ _⟩

theorem coincide_own (masked : zoneIs (partnersConfirmed z s) z .masked = true) (alarmed : linkedAlarmed (partnersConfirmed z s) z = true) :
    Chain zoneKinds (moveZone z .confirmed none .coincidence (partnersConfirmed z s)) (coincide z s) ∧
      KeepsUnmasked (moveZone z .confirmed none .coincidence (partnersConfirmed z s)) (coincide z s) := by
  rw [coincide, coincideLoop]
  rw [if_pos ⟨masked, alarmed⟩]
  exact ⟨coincideLoop_chain _ _ _, coincideLoop_keeps _ _ _⟩

end Sys2Proof.Machine
end

section
/-! SUPPORT. The report of a ZONE frame (R103 to R106), the expiries of a zone's timers (R107, R109), and the obligation O21. -/

namespace Sys2Proof.Machine

variable {s t u : State} {origin : Byte} {z : Nat} {zone : Zone} {condition : Condition} {isCovered : Bool}

/-! ## The table of reports (R104) -/

theorem reportedState_confirmed (confirmed : zone.state = .confirmed) : reportedState isCovered zone condition = .confirmed := by
  simp [reportedState, confirmed]

theorem unmasked_of_verifies (verifies : reportedState isCovered zone condition = .verifying) : zone.state ≠ .masked := by
  intro masked
  cases condition <;> simp [reportedState, masked] at verifies

theorem unverified_of_masks (masks : reportedState isCovered zone condition = .masked) : zone.state ≠ .verifying := by
  intro verifying
  cases condition <;> simp [reportedState, verifying] at masks

/-! ## The change of a report -/

/-- A zone's record after a report that makes no coincidence. -/
def Zone.reported (zone : Zone) (isCovered : Bool) (condition : Condition) (s : State) : Zone :=
  { zone.heard condition s with
    state := reportedState isCovered zone condition
    verifyTimer :=
      if reportedState isCovered zone condition = .verifying then
        (if zone.state = .verifying then zone.verifyTimer else some (s.timerOf (zone.defn.verification * 100)))
      else none }

/-- The report's condition and time are stored (R103). -/
def heardAt (z : Nat) (zone : Zone) (condition : Condition) (s : State) : State := setZone z (some (zone.heard condition s)) s

/-- The verification timer of a report's new state. -/
def verifyOf (z : Nat) (zone : Zone) (condition : Condition) (s : State) : Option Timer :=
  if reportedState (covered s z) zone condition = .verifying then some (s.timerOf (zone.defn.verification * 100)) else none

section Report
variable (found : zoneAt s z = some zone)
include found

theorem zoneAt_heardAt : zoneAt (heardAt z zone condition s) z = some (zone.heard condition s) :=
  (zoneAt_setZone _ _ _ _).trans (if_pos ⟨rfl, lt_of_zoneAt found⟩)

theorem linked_heardAt (a b : Nat) : linked (heardAt z zone condition s) a b = linked s a b := by
  refine linked_congr (fun i => ?_) a b
  rw [heardAt, zoneAt_setZone]
  split
  · next same => rw [← same.1, found]; rfl
  · rfl

/-- A report that leaves the state stores what it heard. -/
theorem zoneReport_stays (stays : reportedState (covered s z) zone condition = zone.state) : zoneReport z condition s =
    confirmedFault z zone.state zone.last condition .report (heardAt z zone condition s) := by
  rw [zoneReport_eq found, stays]
  exact congrArg _ (enterZone_stays (zoneAt_heardAt found) rfl)

/-- A report that changes the state enters the new one. -/
theorem zoneReport_moves (moves : reportedState (covered s z) zone condition ≠ zone.state) : zoneReport z condition s =
    enterZone z (reportedState (covered s z) zone condition) (verifyOf z zone condition s) .report (heardAt z zone condition s) := by
  rw [zoneReport_eq found]
  exact confirmedFault_quiet fun fault => moves ((reportedState_confirmed fault.1).trans fault.1.symm)

/-- The new state as it is first entered. -/
def reportMoved (z : Nat) (zone : Zone) (condition : Condition) (s : State) : State :=
  stateMoved z (zone.heard condition s) (reportedState (covered s z) zone condition) (verifyOf z zone condition s) .report
    (heardAt z zone condition s)

theorem zoneReport_alone (moves : reportedState (covered s z) zone condition ≠ zone.state) (alone : ∀ other, linked s z other = false) :
    zoneReport z condition s = reportMoved z zone condition s := by
  rw [zoneReport_moves found moves]
  exact enterZone_alone (zoneAt_heardAt found) (fun same => moves same.symm) fun other => (linked_heardAt found _ _).trans (alone other)

theorem zoneReport_coincides (moves : reportedState (covered s z) zone condition ≠ zone.state)
    (coincides : (reportedState (covered s z) zone condition).coincides = true) :
    zoneReport z condition s = coincide z (reportMoved z zone condition s) := by
  rw [zoneReport_moves found moves, enterZone_moves (zoneAt_heardAt found) (fun same => moves same.symm)]
  exact if_pos coincides

omit found in
theorem reportMoved_adds (z : Nat) (zone : Zone) (condition : Condition) (s : State) :
    Adds [zoneEntry z (reportedState (covered s z) zone condition) zone.state .report s] s (reportMoved z zone condition s) :=
  (stateMoved_adds z (zone.heard condition s) _ _ .report (heardAt z zone condition s)).from rfl

theorem zoneAt_reportMoved (i : Nat) : zoneAt (reportMoved z zone condition s) i =
    if z = i then some { zone.heard condition s with
      state := reportedState (covered s z) zone condition, verifyTimer := verifyOf z zone condition s } else zoneAt s i := by
  rw [reportMoved, zoneAt_stateMoved (lt_of_zoneAt found)]
  by_cases same : z = i
  · rw [if_pos same, if_pos same]
  · rw [if_neg same, if_neg same, heardAt, zoneAt_setZone, if_neg fun h => same h.1]

theorem linked_reportMoved (a b : Nat) : linked (reportMoved z zone condition s) a b = linked s a b :=
  (linked_stateMoved (zoneAt_heardAt found) a b).trans (linked_heardAt found a b)

section Alone
variable (alone : ∀ other, linked s z other = false) (timed : zone.timed)
include alone timed

theorem zoneAt_zoneReport (i : Nat) : zoneAt (zoneReport z condition s) i =
    if z = i then some (zone.reported (covered s z) condition s) else zoneAt s i := by
  by_cases stays : reportedState (covered s z) zone condition = zone.state
  · rw [zoneReport_stays found stays, zoneAt_of_zones (confirmedFault_zones _ _ _ _ _ _), heardAt, zoneAt_setZone]
    by_cases same : z = i
    · have record : zone.heard condition s = zone.reported (covered s z) condition s := by
        have timer : zone.verifyTimer = if zone.state = .verifying then
            (if zone.state = .verifying then zone.verifyTimer else some (s.timerOf (zone.defn.verification * 100))) else none := by
          unfold Zone.timed at timed
          split
          · rfl
          · next other => simpa [other] using timed
        rw [Zone.reported, stays, ← timer]
        rfl
      rw [if_pos ⟨same, lt_of_zoneAt found⟩, if_pos same, record]
    · rw [if_neg fun h => same h.1, if_neg same]
  · rw [zoneReport_alone found stays alone, zoneAt_reportMoved found]
    by_cases same : z = i
    · have record : verifyOf z zone condition s = (zone.reported (covered s z) condition s).verifyTimer := by
        by_cases verifies : reportedState (covered s z) zone condition = .verifying
        · have fresh : zone.state ≠ .verifying := fun h => stays (verifies.trans h.symm)
          simp [verifyOf, Zone.reported, verifies, fresh]
        · simp [verifyOf, Zone.reported, verifies]
      rw [if_pos same, if_pos same, record]
      rfl
    · rw [if_neg same, if_neg same]

end Alone
end Report

/-! ## The step of a report -/

section Step
variable (found : zoneAt s z = some zone) (derived : recordDerived s = true) (closed : windowsClosedInAlarm s = true)
include found derived closed

omit found in
/-- A masked zone stands under an open window, so that no zone is confirmed. -/
theorem calm_of_covered (covers : covered s z = true) : confirmedZones s = [] := by
  obtain ⟨w, window, at_, isOpen, -⟩ := covered_iff.1 covers
  obtain calm | shut := (windowsClosedInAlarm_iff.1 closed).1
  · rwa [(recordDerived_iff.1 derived).1] at calm
  · exact absurd (isOpen.symm.trans (shut w window at_)) (by decide)

/-- A report that leaves the state and is no confirmed zone's new FAULT stores what it heard, and no more. -/
theorem zoneStep_report_stays (stays : reportedState (covered s z) zone condition = zone.state)
    (quiet : ¬ (zone.state = .confirmed ∧ condition = .fault ∧ zone.last ≠ .fault)) :
    zoneStep origin (zoneReport z condition) s = heardAt z zone condition s := by
  have change : zoneReport z condition s = heardAt z zone condition s := by
    rw [zoneReport_stays found stays, confirmedFault_quiet quiet]
  rw [zoneStep_quiet derived closed (by rw [change]; exact derivedAlarm_setZone found rfl rfl) (by rw [change]; rfl), change]

section Alone
variable (alone : ∀ other, linked s z other = false) (timers : zoneTimersRun s = true)
include alone timers

/-- What a report leaves of its zone, where no other is linked to it. -/
theorem zoneAt_zoneStep_report :
    zoneAt (zoneStep origin (zoneReport z condition) s) z = some (zone.reported (covered s z) condition s) := by
  have timed := (zoneTimersRun_iff.1 timers).1 z zone found
  have change := zoneAt_zoneReport (condition := condition) found alone timed
  have own := (change z).trans (if_pos rfl)
  by_cases masks : reportedState (covered s z) zone condition = .masked
  · have covers : covered s z = true := (reportedState_masked masks).elim id fun masked =>
      (windowsClosedInAlarm_iff.1 closed).2 z (zoneIs_iff.2 ⟨zone, found, masked⟩)
    have calm := calm_of_covered derived closed covers
    obtain ⟨zones, panel⟩ := confirmedZones_eq_nil.1 calm
    rw [zoneStep_calm_zoneAt, own]
    refine confirmedZones_eq_nil.2 ⟨fun i => ?_, ?_⟩
    · rw [zoneIs, change i]
      split
      · simp [Zone.reported, masks]
      · exact zones i
    · have samePanel : (zoneReport z condition s).zones.panel = s.zones.panel := by
        by_cases stays : reportedState (covered s z) zone condition = zone.state
        · rw [zoneReport_stays found stays, confirmedFault_zones]
          rfl
        · rw [zoneReport_alone found stays alone, reportMoved, stateMoved_zones]
          rfl
      rwa [samePanel]
  · exact (closureKeeps_unmasked (zone := zone.reported (covered s z) condition s) masks).step own

omit closed timers derived in
theorem zoneStep_report_gains (moves : reportedState (covered s z) zone condition ≠ zone.state) (room : roomFor 1 s = true) :
    gains (zoneEntry z (reportedState (covered s z) zone condition) zone.state .report s) s
      (zoneStep origin (zoneReport z condition) s) = true := by
  refine zoneStep_gains origin ((reportMoved_adds z zone condition s).gains_one room) ?_ rfl
  rw [zoneReport_alone found moves alone]

omit closed timers derived in
theorem zoneStep_report_fault (fault : reportedState (covered s z) zone condition = .faultReported) (fresh : zone.state.isFault = false) :
    isRaised .zoneFault (zoneStep origin (zoneReport z condition) s) = true := by
  have moves : reportedState (covered s z) zone condition ≠ zone.state := fun same => by
    rw [← same, fault] at fresh
    nomatch fresh
  refine zoneStep_raised ?_
  rw [zoneReport_alone found moves alone, reportMoved]
  exact isRaised_stateMoved_fault (by rw [fault]; rfl) fresh

omit closed timers in
theorem zoneStep_report_confirms (confirms : reportedState (covered s z) zone condition = .confirmed) (fresh : zone.state ≠ .confirmed) :
    Alarmed z s (zoneStep origin (zoneReport z condition) s) := by
  have moves : reportedState (covered s z) zone condition ≠ zone.state := fun same => fresh (same.symm.trans confirms)
  refine (zoneStep_alarmed (zoneReport_chain z condition s) derived ?_ ?_).2
  · refine Bool.eq_false_iff.2 fun is => ?_
    obtain ⟨other, at_, state⟩ := zoneIs_iff.1 is
    cases found.symm.trans at_
    exact fresh state
  · rw [zoneReport_alone found moves alone]
    exact zoneIs_iff.2 ⟨_, (zoneAt_reportMoved found z).trans (if_pos rfl), confirms⟩

end Alone

omit closed derived in
/-- A confirmed zone's new FAULT has its entry and its flag (R106, R110). -/
theorem zoneStep_report_confirmedFault (confirmed : zone.state = .confirmed) (fault : condition = .fault) (last : zone.last ≠ .fault)
    (room : roomFor 1 s = true) :
    isRaised .zoneFault (zoneStep origin (zoneReport z condition) s) = true ∧
      gains (zoneEntry z .confirmed .confirmed .report s) s (zoneStep origin (zoneReport z condition) s) = true := by
  have stays : reportedState (covered s z) zone condition = zone.state := (reportedState_confirmed confirmed).trans confirmed.symm
  have change : zoneReport z condition s =
      setAttention .zoneFault (reportZone z .confirmed .confirmed .report (heardAt z zone condition s)) := by
    rw [zoneReport_stays found stays]
    exact if_pos ⟨confirmed, fault, last⟩
  refine ⟨zoneStep_raised (by rw [change]; exact isRaised_set _ _), ?_⟩
  have added : Adds [zoneEntry z .confirmed .confirmed .report s] s (zoneReport z condition s) := by
    rw [change]
    exact ((Adds.report .zone [byte z, byte ZoneState.confirmed.code, byte ZoneState.confirmed.code, ZoneCause.report.code]
      (heardAt z zone condition s)).from rfl).to rfl
  exact zoneStep_gains origin (added.gains_one room) (.refl _) rfl

end Step

end Sys2Proof.Machine
end

section
/-! SUPPORT. A report that meets a linked zone (R108), the expiries of a zone's timers (R107, R109), and the obligation O21. -/

namespace Sys2Proof.Machine

variable {s t u : State} {origin : Byte} {z p : Nat} {zone : Zone} {condition : Condition}

/-! ## Coincidences of a report -/

/-- The masked zones linked to a zone, and others that are not among them, are zones of the table. -/
theorem linkedMasked_length {apart : List Nat} (distinct : apart.Nodup) (range : ∀ i ∈ apart, i < 48)
    (away : ∀ i ∈ apart, i ∉ linkedMasked s z) : (linkedMasked s z).length + apart.length ≤ 48 := by
  have joined : (linkedMasked s z ++ apart).Nodup :=
    List.nodup_append.2 ⟨linkedMasked_nodup z s, distinct, fun a mem b other same => away b other (same ▸ mem)⟩
  have within : linkedMasked s z ++ apart ⊆ List.range 48 := fun i mem => by
    obtain linked | other := List.mem_append.1 mem
    · exact List.mem_range.2 (mem_linkedMasked.1 linked).1
    · exact List.mem_range.2 (range i other)
  simpa using (List.subperm_of_subset joined within).length_le

section Coincidence
variable (found : zoneAt s z = some zone) (room : roomFor 48 s = true)
include found room

omit found room in
/-- The entries of a report's own change and of its partners'. -/
theorem reportPartners_adds (z : Nat) (zone : Zone) (condition : Condition) (s : State) :
    Adds (zoneEntry z (reportedState (covered s z) zone condition) zone.state .report s ::
        (linkedMasked (reportMoved z zone condition s) z).map fun p => zoneEntry p .confirmed .masked .coincidence s) s
      (partnersConfirmed z (reportMoved z zone condition s)) := by
  have clock : (reportMoved z zone condition s).clock = s.clock :=
    (sameBut_clock (stateMoved_after _ _ _ _ _ _) (by decide)).trans rfl
  have partners := partnersConfirmed_adds z (reportMoved z zone condition s)
  simp only [zoneEntry, entryNow, clock] at partners
  exact (reportMoved_adds z zone condition s).trans partners

theorem report_own_gains (moves : reportedState (covered s z) zone condition ≠ zone.state)
    (coincides : (reportedState (covered s z) zone condition).coincides = true) :
    gains (zoneEntry z (reportedState (covered s z) zone condition) zone.state .report s) s
      (zoneStep origin (zoneReport z condition) s) = true := by
  refine zoneStep_gains origin ((reportMoved_adds z zone condition s).gains List.mem_cons_self (by simp) room) ?_ rfl
  rw [zoneReport_coincides found moves coincides]
  exact coincideLoop_chain _ _ _

/-- A partner that is masked is confirmed with its entry. -/
theorem report_partner (moves : reportedState (covered s z) zone condition ≠ zone.state)
    (coincides : (reportedState (covered s z) zone condition).coincides = true)
    (partner : p ∈ linkedMasked (reportMoved z zone condition s) z)
    (few : (linkedMasked (reportMoved z zone condition s) z).length < 48) :
    zoneIs (zoneStep origin (zoneReport z condition) s) p .confirmed = true ∧
      gains (zoneEntry p .confirmed .masked .coincidence s) s (zoneStep origin (zoneReport z condition) s) = true := by
  have change := zoneReport_coincides found moves coincides
  obtain ⟨rest, keeps⟩ := coincide_after z (reportMoved z zone condition s)
  rw [← change] at rest keeps
  constructor
  · obtain ⟨other, at_, state⟩ := zoneIs_iff.1 (partnersConfirmed_confirmed partner)
    exact (closureKeeps_confirmed p).step (zoneIs_iff.2 ⟨other, keeps p other at_ (by simp [state]), state⟩)
  · refine zoneStep_gains origin ((reportPartners_adds z zone condition s).gains ?_ ?_ room) rest rfl
    · exact List.mem_cons_of_mem _ (List.mem_map_of_mem partner)
    · rw [List.length_cons, List.length_map]
      omega

/-- A zone that enters VERIFYING confirms a masked partner (R108). -/
theorem report_verifies (fresh : zone.state ≠ .verifying) (verifies : reportedState (covered s z) zone condition = .verifying)
    (partner : linked s z p = true) (masked : zoneIs s p .masked = true) :
    zoneIs (zoneStep origin (zoneReport z condition) s) z .verifying = true ∧
      zoneIs (zoneStep origin (zoneReport z condition) s) p .confirmed = true ∧
      gains (zoneEntry z .verifying zone.state .report s) s (zoneStep origin (zoneReport z condition) s) = true ∧
      gains (zoneEntry p .confirmed .masked .coincidence s) s (zoneStep origin (zoneReport z condition) s) = true := by
  have moves : reportedState (covered s z) zone condition ≠ zone.state := fun same => fresh (same.symm.trans verifies)
  have coincides : (reportedState (covered s z) zone condition).coincides = true := by rw [verifies]; rfl
  have apart : z ≠ p := by
    rintro rfl
    obtain ⟨other, at_, state⟩ := zoneIs_iff.1 masked
    cases found.symm.trans at_
    exact unmasked_of_verifies verifies state
  have own := (zoneAt_reportMoved (condition := condition) found z).trans (if_pos rfl)
  have there := (zoneAt_reportMoved (condition := condition) found p).trans (if_neg apart)
  have unmasked : z ∉ linkedMasked (reportMoved z zone condition s) z := fun mem => by
    obtain ⟨other, at_, state⟩ := zoneIs_iff.1 (mem_linkedMasked.1 mem).2.2
    cases own.symm.trans at_
    rw [verifies] at state
    nomatch state
  have mem : p ∈ linkedMasked (reportMoved z zone condition s) z := by
    obtain ⟨other, at_, -⟩ := zoneIs_iff.1 masked
    refine mem_linkedMasked.2 ⟨lt_of_zoneAt at_, (linked_reportMoved found z p).trans partner, ?_⟩
    rwa [zoneIs, there]
  have few := linkedMasked_length (s := reportMoved z zone condition s) (z := z) (apart := [z]) (List.nodup_singleton z)
    (fun i same => List.mem_singleton.1 same ▸ lt_of_zoneAt found) fun i same => List.mem_singleton.1 same ▸ unmasked
  obtain ⟨confirmed, partnerGains⟩ := report_partner (origin := origin) found room moves coincides mem (by
    rw [List.length_singleton] at few
    omega)
  have ownGains := report_own_gains (origin := origin) found room moves coincides
  rw [verifies] at ownGains
  refine ⟨?_, confirmed, ownGains, partnerGains⟩
  obtain ⟨-, keeps⟩ := coincide_after z (reportMoved z zone condition s)
  rw [← zoneReport_coincides found moves coincides] at keeps
  have kept := ((partners_keeps z _).trans keeps) z _ own (by simp [verifies])
  exact zoneIs_iff.2 ⟨_, (closureKeeps_unmasked (by simp [verifies])).step kept, verifies⟩

/-- A zone that would be masked is confirmed at once by a partner that is VERIFYING (R108). -/
theorem report_masks (fresh : zone.state ≠ .masked) (masks : reportedState (covered s z) zone condition = .masked)
    (partner : linked s z p = true) (verifying : zoneIs s p .verifying = true) :
    zoneIs (zoneStep origin (zoneReport z condition) s) z .confirmed = true ∧
      gains (zoneEntry z .masked zone.state .report s) s (zoneStep origin (zoneReport z condition) s) = true ∧
      gains (zoneEntry z .confirmed .masked .coincidence s) s (zoneStep origin (zoneReport z condition) s) = true := by
  have moves : reportedState (covered s z) zone condition ≠ zone.state := fun same => fresh (same.symm.trans masks)
  have coincides : (reportedState (covered s z) zone condition).coincides = true := by rw [masks]; rfl
  obtain ⟨other, at_, state⟩ := zoneIs_iff.1 verifying
  have apart : z ≠ p := by
    rintro rfl
    cases found.symm.trans at_
    exact unverified_of_masks masks state
  have own := (zoneAt_reportMoved (condition := condition) found z).trans (if_pos rfl)
  have there := ((zoneAt_reportMoved (condition := condition) found p).trans (if_neg apart)).trans at_
  have ownMasked : zoneIs (reportMoved z zone condition s) z .masked = true := zoneIs_iff.2 ⟨_, own, masks⟩
  have unmasked : p ∉ linkedMasked (reportMoved z zone condition s) z := fun mem => by
    obtain ⟨found, hfound, masked⟩ := zoneIs_iff.1 (mem_linkedMasked.1 mem).2.2
    cases there.symm.trans hfound
    rw [state] at masked
    nomatch masked
  have ownGains := report_own_gains (origin := origin) found room moves coincides
  rw [masks] at ownGains
  suffices confirms : zoneIs (zoneStep origin (zoneReport z condition) s) z .confirmed = true ∧
      gains (zoneEntry z .confirmed .masked .coincidence s) s (zoneStep origin (zoneReport z condition) s) = true from
    ⟨confirms.1, ownGains, confirms.2⟩
  by_cases self : z ∈ linkedMasked (reportMoved z zone condition s) z
  · have few := linkedMasked_length (s := reportMoved z zone condition s) (z := z) (apart := [p]) (List.nodup_singleton p)
      (fun i same => List.mem_singleton.1 same ▸ lt_of_zoneAt at_) fun i same => List.mem_singleton.1 same ▸ unmasked
    exact report_partner found room moves coincides self (by
      rw [List.length_singleton] at few
      omega)
  · have few := linkedMasked_length (s := reportMoved z zone condition s) (z := z) (apart := [z, p]) (by simp [apart])
      (by simpa using ⟨lt_of_zoneAt found, lt_of_zoneAt at_⟩) (by simpa using ⟨self, unmasked⟩)
    have still : zoneIs (partnersConfirmed z (reportMoved z zone condition s)) z .masked = true := by
      rw [zoneIs, partnersConfirmed, forEach_moveZone_other self]
      exact ownMasked
    have alarmed : linkedAlarmed (partnersConfirmed z (reportMoved z zone condition s)) z = true := by
      refine List.any_eq_true.2 ⟨p, List.mem_range.2 (lt_of_zoneAt at_), ?_⟩
      have kept : zoneAt (partnersConfirmed z (reportMoved z zone condition s)) p = some other :=
        partners_keeps z _ p other there (by simp [state])
      rw [partnersConfirmed_linked, linked_reportMoved found, partner,
        zoneIs_iff.2 ⟨other, kept, state⟩]
      rfl
    obtain ⟨rest, keeps⟩ := coincide_own still alarmed
    rw [← zoneReport_coincides found moves coincides] at rest keeps
    obtain ⟨adds, confirmed⟩ := moveZone_masked_adds still .coincidence
    have clock : (partnersConfirmed z (reportMoved z zone condition s)).clock = s.clock :=
      (forEach_induction (fun t => t.clock = s.clock) _ _ _ (fun p _ t same => (moveZone_clock p _ _ _ t).trans same)
        ((sameBut_clock (stateMoved_after _ _ _ _ _ _) (by decide)).trans rfl))
    simp only [zoneEntry, entryNow, clock] at adds
    constructor
    · obtain ⟨after, there, stands⟩ := zoneIs_iff.1 confirmed
      exact (closureKeeps_confirmed z).step (zoneIs_iff.2 ⟨after, keeps z after there (by simp [stands]), stands⟩)
    · refine zoneStep_gains origin (((reportPartners_adds z zone condition s).trans adds).gains ?_ ?_ room) rest rfl
      · exact List.mem_append_right _ (List.mem_singleton.2 rfl)
      · simp only [List.length_append, List.length_cons, List.length_map, List.length_nil] at few ⊢
        omega

end Coincidence

end Sys2Proof.Machine
end

section
/-! SUPPORT. The expiries of a zone's timers (R107, R109), ZONE frames (R103), and the obligation O21. -/

namespace Sys2Proof.Machine

variable {s t u : State} {origin : Byte} {z : Nat} {zone : Zone} {condition : Condition} {cause : ZoneCause}

/-! ## The verification timer (R107) -/

theorem enterZone_confirmed (found : zoneAt s z = some zone) : zoneIs (enterZone z .confirmed none cause s) z .confirmed = true := by
  by_cases confirmed : zone.state = .confirmed
  · rw [enterZone_stays found confirmed]
    exact zoneIs_iff.2 ⟨zone, found, confirmed⟩
  · have moved := (zoneAt_stateMoved (zone := zone) (new := .confirmed) (verify := none) (cause := cause) (s := s)
      (lt_of_zoneAt found) z).trans (if_pos rfl)
    rw [enterZone_moves found confirmed, if_pos (by decide)]
    exact zoneIs_iff.2 ⟨_, coincideLoop_keeps _ _ _ z _ moved (by simp), rfl⟩

/-- The confirmation of a zone that is VERIFYING, before its coincidences. -/
def verifiedMoved (z : Nat) (zone : Zone) (s : State) : State := stateMoved z zone .confirmed none .verified s

section Verified
variable (found : zoneAt s z = some zone) (verifying : zone.state = .verifying)
include found verifying

theorem verified_eq : verified z s = coincide z (verifiedMoved z zone s) := by
  rw [verified, enterZone_moves found (by simp [verifying])]
  rfl

theorem verified_step (derived : recordDerived s = true) :
    zoneStep origin (verified z) s = handOn evacuate s.zones.alarm origin (stepRecord (verified z) s) ∧
      Alarmed z s (zoneStep origin (verified z) s) := by
  refine zoneStep_alarmed (enterZone_chain rfl z .verified s) derived ?_ (enterZone_confirmed found)
  simp [zoneIs, found, verifying]

theorem verified_gains (room : roomFor 1 s = true) :
    gains (zoneEntry z .confirmed .verifying .verified s) s (zoneStep origin (verified z) s) = true := by
  have added := stateMoved_adds z zone .confirmed none .verified s
  rw [verifying] at added
  refine zoneStep_gains origin (added.gains_one room) ?_ rfl
  rw [verified_eq found verifying]
  exact coincideLoop_chain _ _ _

theorem verificationExpires_eq (overdue : due zone.verifyTimer s.clock = true) :
    verificationExpires z s = zoneStep (byte z) (verified z) s := by
  simp only [verificationExpires, found]
  exact if_pos ⟨verifying, overdue⟩

end Verified

/-! ## The staleness timer (R109) -/

theorem isFault_eq_false {state : ZoneState} (reported : state ≠ .faultReported) (stale : state ≠ .faultStale) : state.isFault = false := by
  cases state with
  | faultReported => exact absurd rfl reported
  | faultStale => exact absurd rfl stale
  | _ => rfl

/-- The stale mark is set. -/
def Zone.staled (zone : Zone) : Zone := { zone with stale := true, staleTimer := none }

section Stale
variable (found : zoneAt s z = some zone)
include found

omit found in
theorem zoneStale_frame (z : Nat) (s : State) : sameBut zoneParts s (zoneStale z s) = true := by
  unfold zoneStale
  split
  · exact sameBut_refl _ s
  · dsimp only
    split
    · exact sameBut_trans (setZone_frame _ _ s) (enterZone_frame _ _ _ _ _)
    · exact setZone_frame _ _ s

theorem stalenessExpires_eq (overdue : due zone.staleTimer s.clock = true) :
    stalenessExpires z s = zoneStep (byte z) (zoneStale z) s := by
  simp only [stalenessExpires, found]
  exact if_pos overdue

theorem zoneStale_faults (sound : zone.state = .normal ∨ zone.state = .prealarm) : zoneStale z s =
    stateMoved z zone.staled .faultStale none .stale (setZone z (some zone.staled) s) := by
  have at_ : zoneAt (setZone z (some zone.staled) s) z = some zone.staled :=
    (zoneAt_setZone _ _ _ _).trans (if_pos ⟨rfl, lt_of_zoneAt found⟩)
  have fresh : zone.staled.state ≠ .faultStale := by
    obtain state | state := sound <;> simp [Zone.staled, state]
  simp only [zoneStale, found]
  exact (if_pos sound).trans (enterZone_moves at_ fresh)

theorem zoneStale_marks (normal : zone.state ≠ .normal) (prealarm : zone.state ≠ .prealarm) :
    zoneStale z s = setZone z (some zone.staled) s := by
  simp only [zoneStale, found]
  exact if_neg (not_or.2 ⟨normal, prealarm⟩)

/-- A zone that turns stale goes to FAULT(STALE). -/
theorem stale_faults (sound : zone.state = .normal ∨ zone.state = .prealarm) :
    zoneAt (zoneStep origin (zoneStale z) s) z = some { zone.staled with state := .faultStale, verifyTimer := none } ∧
      isRaised .zoneFault (zoneStep origin (zoneStale z) s) = true ∧
      (roomFor 1 s = true → gains (zoneEntry z .faultStale zone.state .stale s) s (zoneStep origin (zoneStale z) s) = true) := by
  have change := zoneStale_faults found sound
  have fresh : zone.state.isFault = false := by
    obtain state | state := sound <;> rw [state] <;> rfl
  refine ⟨?_, zoneStep_raised ?_, fun room => zoneStep_gains (t := zoneStale z s) origin ?_ (.refl _) rfl⟩
  · refine (closureKeeps_unmasked (zone := { zone.staled with state := .faultStale, verifyTimer := none }) (by simp)).step ?_
    rw [change]
    exact (zoneAt_stateMoved (lt_of_zoneAt found) z).trans (if_pos rfl)
  · rw [change]
    exact isRaised_stateMoved_fault rfl fresh
  · rw [change]
    exact ((stateMoved_adds z zone.staled .faultStale none .stale (setZone z (some zone.staled) s)).from rfl).gains_one room

/-- Any other zone keeps its state. -/
theorem stale_marks (normal : zone.state ≠ .normal) (prealarm : zone.state ≠ .prealarm) (derived : recordDerived s = true)
    (closed : windowsClosedInAlarm s = true) : zoneStep origin (zoneStale z) s = setZone z (some zone.staled) s := by
  have change := zoneStale_marks found normal prealarm
  rw [zoneStep_quiet derived closed (by rw [change]; exact derivedAlarm_setZone found rfl rfl) (by rw [change]; rfl), change]

end Stale

/-! ## ZONE frames (R103) -/

theorem takeZoneFrame_rejected {payload : List Byte} (bad : payload.length = 0 ∨ payload.length % 2 = 1 ∨ 48 < payload.length) :
    takeZoneFrame payload s = s := if_pos bad

theorem zonePairs_append {first second : List Byte} (even : first.length % 2 = 0) :
    zonePairs (first ++ second) = zonePairs first ++ zonePairs second := by
  induction first using zonePairs.induct with
  | case1 z condition rest ih =>
    rw [List.length_cons, List.length_cons] at even
    rw [List.cons_append, List.cons_append, zonePairs, zonePairs, ih (by omega), List.cons_append]
  | case2 payload other =>
    match payload with
    | [] => rfl
    | [_] => simp at even
    | z :: condition :: rest => exact absurd rfl (other z condition rest)

theorem takeZoneFrame_append {first second : List Byte} (evenFirst : first.length % 2 = 0) (evenSecond : second.length % 2 = 0)
    (someFirst : first ≠ []) (someSecond : second ≠ []) (short : (first ++ second).length ≤ 48) :
    takeZoneFrame (first ++ second) s = takeZoneFrame second (takeZoneFrame first s) := by
  have longFirst := List.length_pos_iff.2 someFirst
  have longSecond := List.length_pos_iff.2 someSecond
  rw [List.length_append] at short
  simp only [takeZoneFrame, List.length_append]
  rw [if_neg (by omega), if_neg (by omega), if_neg (by omega), zonePairs_append evenFirst, forEach, List.foldl_append]
  rfl

theorem zoneReport_unknown (none_ : zoneAt s z = none) : zoneReport z condition s = setAttention .unknownZone s := by
  simp only [zoneReport, none_]

theorem zoneStep_unknown (none_ : zoneAt s z = none) (derived : recordDerived s = true) (closed : windowsClosedInAlarm s = true) :
    zoneStep origin (zoneReport z condition) s = setAttention .unknownZone s := by
  have change := zoneReport_unknown (condition := condition) none_
  rw [zoneStep_quiet derived closed (by rw [change]; exact derivedAlarm_congr rfl rfl) (by rw [change]; rfl), change]

theorem ofByte_eq (code : Byte) :
    Condition.ofByte code = if code = 0 then .clear else if code = 1 then .prealarm else if code = 2 then .alarm else .fault := by
  have code_eq {n : Nat} {b : Byte} (h : code.toNat = n) (same : b.toNat = n) : code = b :=
    BitVec.eq_of_toNat_eq (h.trans same.symm)
  unfold Condition.ofByte
  split
  · next h => exact (if_pos (code_eq h rfl)).symm
  · next h => rw [code_eq (b := 1) h rfl]; rfl
  · next h => rw [code_eq (b := 2) h rfl]; rfl
  · next clear prealarm alarm =>
    rw [if_neg fun h => clear (by rw [h]; rfl), if_neg fun h => prealarm (by rw [h]; rfl), if_neg fun h => alarm (by rw [h]; rfl)]

section Frame
variable {f : Frame} {c : Character} {code : Byte} {n : Byte} (passing : passingFrame f c s = true) (zones : f.kind = kindZone)
include passing zones

theorem passes_zone {holds : State → Prop} (h : holds (takeZoneFrame f.payload (huntWith 0 s))) : passes f c s holds :=
  passes_of passing (by rwa [handToOwner_zone zones])

theorem passes_report {holds : State → Prop} (payload : f.payload = [n, code])
    (h : holds (zoneStep n (zoneReport n.toNat (Condition.ofByte code)) (huntWith 0 s))) : passes f c s holds :=
  passes_zone passing zones (by rwa [payload, takeZoneFrame_pair])

end Frame

/-- Settles O21: a report, a verification expiry and a staleness expiry, each by its change and what a step keeps of it. -/
theorem zoneTimersConfirmAndFault : Obligations.ZoneTimersConfirmAndFault := by
  refine ⟨fun f c s passing zones => ⟨fun bad => ?_, fun first second payload evenFirst evenSecond someFirst someSecond short => ?_,
    fun z code payload derived closed => ⟨fun none_ => ?_, fun zone found => ?_⟩⟩,
    fun s z zone powered found verifying overdue derived room => ?_,
    fun s z zone powered found overdue => ⟨fun sound room => ?_, fun normal prealarm derived closed => ?_⟩⟩
  · exact passes_zone passing zones (takeZoneFrame_rejected bad)
  · refine passes_zone passing zones ?_
    rw [payload] at short ⊢
    exact takeZoneFrame_append evenFirst evenSecond someFirst someSecond short
  · refine passes_report passing zones payload ?_
    rw [zoneStep_unknown (s := huntWith 0 s) none_ derived closed]
    exact ⟨setAttention_frame _ _, isRaised_set _ _⟩
  · intro condition alarmed next timed entry
    have isCondition : Condition.ofByte code = condition := ofByte_eq code
    have isNext : next = reportedState (covered s z.toNat) zone condition := by
      unfold reportedState
      rfl
    clear_value condition next
    subst isCondition isNext
    have frame (n : Byte) (s : State) := zoneStep_frame n (zoneParts_le (zoneReport_frame z.toNat (Condition.ofByte code) s))
    have moved : (byte z.toNat) = z := by simp [byte]
    refine ⟨fun alone timers => passes_report passing zones payload ⟨frame z _, ?_, fun moves room => ?_, fun stays quiet => ?_,
      fun confirms was fault last room => ?_, fun fault reported stale => ?_, fun confirms was => ?_⟩,
      fun p fresh verifies partner masked room => passes_report passing zones payload ⟨frame z _, ?_⟩,
      fun p fresh masks partner verifying room => passes_report passing zones payload ⟨frame z _, ?_⟩⟩
    · exact zoneAt_zoneStep_report (s := huntWith 0 s) found derived closed alone timers
    · exact zoneStep_report_gains (s := huntWith 0 s) found alone moves room
    · rw [zoneStep_report_stays (s := huntWith 0 s) found derived closed stays fun h =>
        h.2.2 (quiet (reportedState_confirmed h.1) h.2.1)]
      exact onZones_frame _ _
    · exact zoneStep_report_confirmedFault (s := huntWith 0 s) found was fault last room
    · refine zoneStep_report_fault (s := huntWith 0 s) found alone fault ?_
      exact isFault_eq_false reported stale
    · have alarmed := zoneStep_report_confirms (s := huntWith 0 s) (origin := z) found derived alone confirms was
      exact ⟨List.contains_iff_mem.2 alarmed.member, alarmed.raised⟩
    · exact report_verifies (s := huntWith 0 s) found room fresh verifies partner masked
    · exact report_masks (s := huntWith 0 s) found room fresh masks partner verifying
  · have expires : verificationExpires z s = _ := verificationExpires_eq found verifying overdue
    obtain ⟨-, alarmed⟩ := verified_step (origin := byte z) found verifying derived
    refine answers_event (f := verificationExpires z) rfl powered ?_
    rw [expires]
    refine ⟨zoneStep_frame _ (zoneParts_le (enterZone_frame _ _ _ _ s)), alarmed.confirmed, List.contains_iff_mem.2 alarmed.member,
      windowOpen_of_shut alarmed.shut, alarmed.raised, alarmed.relay, alarmed.override_, verified_gains found verifying room,
      fun calm open_ => ?_, fun shut => ?_⟩
    · rw [alarmed.phase, if_neg open_, if_pos calm]
    · rw [alarmed.phase, if_pos shut]
  · refine answers_event (f := stalenessExpires z) rfl powered ?_
    obtain ⟨after, raised, gained⟩ := stale_faults (origin := byte z) found sound
    rw [stalenessExpires_eq found overdue]
    exact ⟨zoneStep_frame _ (zoneParts_le (zoneStale_frame z s)), ⟨_, after, rfl, rfl, rfl, rfl, rfl, rfl⟩, raised, gained room⟩
  · have row : exec (.stalenessExpiry z) s = whilePowered s (stalenessExpires z) := rfl
    rw [row, whilePowered_of_powered powered, stalenessExpires_eq found overdue, stale_marks found normal prealarm derived closed]
    rfl

end Sys2Proof.Machine
end

section
/-! SUPPORT. The closure of one window with its resolution (R118), the windows' requests (R115 to R117), and the obligation O22. -/

namespace Sys2Proof.Machine

variable {s t u : State} {origin : Byte} {z w : Nat} {zone : Zone} {window : Window} {cause : ZoneCause}

/-! ## Changes that keep each zone's record or confirm it -/

/-- Each zone's record stands, or the zone is confirmed. -/
def KeepsOrConfirms (s t : State) : Prop := ∀ z, zoneAt t z = zoneAt s z ∨ zoneIs t z .confirmed = true

theorem KeepsOrConfirms.refl (s : State) : KeepsOrConfirms s s := fun _ => .inl rfl

theorem KeepsOrConfirms.trans (h : KeepsOrConfirms s t) (k : KeepsOrConfirms t u) : KeepsOrConfirms s u := by
  intro z
  obtain second | confirmed := k z
  · obtain first | confirmed := h z
    · exact .inl (second.trans first)
    · right
      rwa [zoneIs, second]
  · exact .inr confirmed

theorem forEach_keepsOrConfirms {α : Type} {f : α → State → State} (items : List α) (h : ∀ a t, KeepsOrConfirms t (f a t)) (s : State) :
    KeepsOrConfirms s (forEach items f s) :=
  forEach_induction (KeepsOrConfirms s) f items s (fun a _ t ht => ht.trans (h a t)) (.refl s)

theorem moveZone_confirms (p : Nat) (cause : ZoneCause) (s : State) : KeepsOrConfirms s (moveZone p .confirmed none cause s) := by
  intro z
  obtain same | ⟨zone, at_, moved⟩ := moveZone_zones none cause s (z := p) (new := .confirmed)
  · exact .inl (zoneAt_of_zones same z)
  · have record : zoneAt (moveZone p .confirmed none cause s) z = _ :=
      (zoneAt_of_zones moved z).trans (zoneAt_setZone p z _ s)
    by_cases own : p = z
    · rw [if_pos ⟨own, lt_of_zoneAt at_⟩] at record
      exact .inr (zoneIs_iff.2 ⟨_, record, rfl⟩)
    · rw [if_neg fun h => own h.1] at record
      exact .inl record

theorem coincideLoop_confirms (fuel : Nat) (work : List Nat) (s : State) : KeepsOrConfirms s (coincideLoop fuel work s) := by
  induction fuel generalizing work s with
  | zero => exact .refl s
  | succ fuel ih =>
    cases work with
    | nil => exact .refl s
    | cons z work =>
      have partners := forEach_keepsOrConfirms (linkedMasked s z) (fun p t => moveZone_confirms p .coincidence t) s
      unfold coincideLoop
      dsimp only
      split
      · exact (partners.trans (moveZone_confirms z .coincidence _)).trans (ih _ _)
      · exact partners.trans (ih _ _)

theorem enterZone_confirmed_confirms (z : Nat) (cause : ZoneCause) (s : State) :
    KeepsOrConfirms s (enterZone z .confirmed none cause s) := by
  unfold enterZone
  split
  · exact .refl s
  · exact (moveZone_confirms z cause s).trans (coincideLoop_confirms _ _ _)

theorem resolveAlarm_confirms (z : Nat) (s : State) : KeepsOrConfirms s (resolveAlarm z s) := by
  unfold resolveAlarm
  split
  · exact .refl s
  · split
    · exact enterZone_confirmed_confirms _ _ s
    · exact .refl s

/-! ## The resolution (R118) -/

/-- Pass 1 confirms its zone, if that is masked and last reported ALARM. -/
theorem resolveAlarm_confirmed (found : zoneAt s z = some zone) (masked : zone.state = .masked) (alarm : zone.last = .alarm) :
    zoneIs (resolveAlarm z s) z .confirmed = true := by
  simp only [resolveAlarm, found]
  rw [if_pos ⟨masked, alarm⟩]
  exact enterZone_confirmed found

theorem forEach_resolveAlarm_confirmed {zones : List Nat} (mem : z ∈ zones) (found : zoneAt s z = some zone)
    (masked : zone.state = .masked) (alarm : zone.last = .alarm) : zoneIs (forEach zones resolveAlarm s) z .confirmed = true := by
  have stays (rest : List Nat) {t : State} (h : zoneIs t z .confirmed = true) : zoneIs (forEach rest resolveAlarm t) z .confirmed = true := by
    obtain ⟨after, at_, state⟩ := zoneIs_iff.1 h
    exact zoneIs_iff.2 ⟨after, forEach_keeps rest resolveAlarm_keeps t z after at_ (by simp [state]), state⟩
  induction zones generalizing s with
  | nil => nomatch mem
  | cons first rest ih =>
    rw [forEach_cons]
    obtain rfl | mem := List.mem_cons.1 mem
    · exact stays rest (resolveAlarm_confirmed found masked alarm)
    · obtain same | confirmed := resolveAlarm_confirms first s z
      · exact ih mem (same.trans found)
      · exact stays rest confirmed

/-! ## The closure of one window -/

section Close
variable (at_ : s.zones.windows[w]? = some window) (isOpen : window.isOpen = true)
include at_ isOpen

theorem closing_one : [w].filter (windowOpen s) = [w] := by
  simp [windowOpen_iff.2 ⟨window, at_, isOpen⟩]

/-- The entry of a window that closes. -/
theorem closeWindow_adds (cause : ZoneCause) : Adds [entryNow s .zone [windowByte w, 8, 9, cause.code]] s (closeWindow cause w s) := by
  have close : closeWindow cause w s =
      reportWindow w false true cause (setWindow w { window with isOpen := false, timer := none } s) := by
    simp only [closeWindow, at_]
    exact if_pos isOpen
  rw [close]
  exact (Adds.report .zone [windowByte w, byte (windowCode false), byte (windowCode true), cause.code]
    (setWindow w { window with isOpen := false, timer := none } s)).from rfl

theorem closeWindows_one_window (cause : ZoneCause) :
    (closeWindows [w] cause s).zones.windows[w]? = some { window with isOpen := false, timer := none } := by
  rw [closeWindows_windows, at_, closing_one at_ isOpen]
  simp [isOpen]

theorem closeWindows_one_after (cause : ZoneCause) : Chain zoneKinds (closeWindow cause w s) (closeWindows [w] cause s) := by
  rw [closeWindows, closing_one at_ isOpen]
  exact (forEach_chain _ (fun z _ t => resolveAlarm_chain z t) _).trans (forEach_chain _ (fun z _ t => resolveClear_chain z t) _)

/-- A masked zone that last reported ALARM and that no other open window holds is confirmed. -/
theorem closeWindows_one_confirms (cause : ZoneCause) (found : zoneAt s z = some zone) (masked : zone.state = .masked)
    (alarm : zone.last = .alarm) (holds : window.holds z = true)
    (bare : ∀ v, v ≠ w → windowOpen s v = true → (s.zones.windows[v]?).any (fun window => window.holds z) = false) :
    zoneIs (closeWindows [w] cause s) z .confirmed = true := by
  have windows := forEach_closeWindow_windows cause [w] (s := s)
  have same := (forEach_closeWindow_zoneAt cause [w] z s).trans found
  have uncovers : z ∈ uncovered [w] (forEach [w] (closeWindow cause) s) := by
    have open_ : covered (forEach [w] (closeWindow cause) s) z = false := by
      refine Bool.eq_false_iff.2 fun covers => ?_
      obtain ⟨v, after, there, stillOpen, held⟩ := covered_iff.1 covers
      rw [windows] at there
      obtain ⟨before, hbefore, rfl⟩ := Option.map_eq_some_iff.1 there
      by_cases other : v = w
      · subst other
        cases at_.symm.trans hbefore
        simp [isOpen] at stillOpen
      · have apart : v ∉ [w] := by simpa using other
        simp only [apart, false_and, if_false] at stillOpen held
        have uncovered := bare v other (windowOpen_iff.2 ⟨before, hbefore, stillOpen⟩)
        rw [hbefore, Option.any_some, held] at uncovered
        nomatch uncovered
    have held : ((forEach [w] (closeWindow cause) s).zones.windows[w]?).any (fun window => window.holds z) = true := by
      rw [windows, at_]
      simpa [isOpen, Window.holds] using holds
    simp only [uncovered, List.mem_filter, List.mem_range, Bool.and_eq_true, Bool.not_eq_true']
    exact ⟨lt_of_zoneAt found, ⟨zoneIs_iff.2 ⟨zone, same, masked⟩, open_⟩, List.any_eq_true.2 ⟨w, List.mem_singleton.2 rfl, held⟩⟩
  rw [closeWindows, closing_one at_ isOpen]
  obtain ⟨after, there, state⟩ := zoneIs_iff.1 (forEach_resolveAlarm_confirmed uncovers same masked alarm)
  exact zoneIs_iff.2 ⟨after, forEach_keeps _ resolveClear_keeps _ z after there (by simp [state]), state⟩

/-- The step of a window's closure. -/
theorem zoneStep_closes (cause : ZoneCause) :
    (zoneStep origin (closeWindows [w] cause) s).zones.windows[w]? = some { window with isOpen := false, timer := none } ∧
      (roomFor 1 s = true → gains (entryNow s .zone [windowByte w, 8, 9, cause.code]) s (zoneStep origin (closeWindows [w] cause) s) = true) ∧
      ∀ z zone, zoneAt s z = some zone → zone.state = .masked → zone.last = .alarm → window.holds z = true →
        (∀ v, v ≠ w → windowOpen s v = true → (s.zones.windows[v]?).any (fun window => window.holds z) = false) →
        zoneIs (zoneStep origin (closeWindows [w] cause) s) z .confirmed = true :=
  ⟨(closureKeeps_window rfl).step (closeWindows_one_window at_ isOpen cause),
    fun room => zoneStep_gains origin ((closeWindow_adds at_ isOpen cause).gains_one room) (closeWindows_one_after at_ isOpen cause) rfl,
    fun z _ found masked alarm holds bare =>
      (closureKeeps_confirmed z).step (closeWindows_one_confirms at_ isOpen cause found masked alarm holds bare)⟩

end Close

/-! ## The opening of a window (R115) -/

section Open
variable {d : WindowDef} (at_ : s.zones.windows[w]? = some window) (defined : window.defn = some d)
include at_ defined

theorem openWindow_eq (cause : ZoneCause) : openWindow cause w s =
    if window.isOpen then setWindow w { window with isOpen := true, timer := some (s.timerOf (d.duration * 1000)) } s
    else reportWindow w true false cause (setWindow w { window with isOpen := true, timer := some (s.timerOf (d.duration * 1000)) } s) := by
  simp only [openWindow, at_, defined]

theorem openWindow_zones (cause : ZoneCause) : (openWindow cause w s).zones =
    (setWindow w { window with isOpen := true, timer := some (s.timerOf (d.duration * 1000)) } s).zones := by
  rw [openWindow_eq at_ defined]
  split
  · rfl
  · exact reportWindow_zones _ _ _ _ _

/-- Outside an alarm the opening of a window is its whole step. -/
theorem zoneStep_opens (cause : ZoneCause) (calm : s.zones.alarm.confirmed = []) (derived : recordDerived s = true) :
    zoneStep origin (openWindow cause w) s = openWindow cause w s := by
  have zones := openWindow_zones at_ defined cause
  have same : derivedAlarm (openWindow cause w s) = derivedAlarm s := derivedAlarm_congr (by rw [zones]; rfl) (by rw [zones]; rfl)
  have record := (recordDerived_iff.1 derived).1
  have closes : alarmClosure (openWindow cause w s) = openWindow cause w s := by
    refine alarmClosure_calm ?_
    rw [record, ← same] at calm
    exact calm
  rw [zoneStep_same (by rw [closes, same, record]), closes]

end Open

/-- Settles O22: a window opens in a quiet step, and closes in a step that resolves what it masked. -/
theorem windowsOpenAndClose : Obligations.WindowsOpenAndClose := by
  refine ⟨fun h s w window d a at_ defined => ⟨fun barred => ?_, fun calm stays derived => ?_⟩,
    fun h s w a range => ⟨fun shut => ?_, fun isOpen room => ?_⟩, fun s w window powered at_ isOpen overdue room => ?_⟩
  · have range : ¬ 15 < w.toNat := by
      have := (Vector.getElem?_eq_some_iff.1 at_).1
      omega
    refine onlyReplies_simple rfl a ?_
    rw [windowOpens, if_neg range]
    by_cases alarm : s.zones.alarm.confirmed ≠ []
    · exact if_pos alarm
    · exact (if_neg alarm).trans (if_pos (barred.resolve_left alarm))
  · have range : ¬ 15 < w.toNat := by
      have := (Vector.getElem?_eq_some_iff.1 at_).1
      omega
    have opens := zoneStep_opens (s := begin 0x43 h s) (origin := windowByte w.toNat) at_ defined .command calm derived
    have eq := openWindow_eq (s := begin 0x43 h s) at_ defined .command
    refine replies_simple (r := .done) (u := openWindow .command w.toNat (begin 0x43 h s)) rfl a ?_ ⟨?_, ?_, fun shut room => ?_, fun isOpen => ?_⟩
    · rw [windowOpens, if_neg range]
      refine (if_neg (not_not.2 calm)).trans ((if_neg stays).trans ?_)
      have bound : ((begin 0x43 h s).zones.windows[w.toNat]?.bind Window.defn) = some d := by
        rw [begin_zones, at_]
        exact defined
      simp only [bound, opens]
    · exact openWindow_frame _ _ _
    · exact openWindow_zones (s := begin 0x43 h s) at_ defined .command
    · rw [eq, if_neg (by simp [shut])]
      exact (Adds.report .zone _ _).one room
    · rw [eq, if_pos isOpen]
      rfl
  · refine onlyReplies_simple rfl a ?_
    rw [windowCloses, if_neg (by omega)]
    exact if_neg (Bool.eq_false_iff.1 shut)
  · obtain ⟨window, at_, opened⟩ := windowOpen_iff.1 isOpen
    obtain ⟨after, gained, confirms⟩ := zoneStep_closes (s := begin 0x44 h s) (origin := windowByte w.toNat) at_ opened .command
    refine replies_simple (r := .done) (u := zoneStep (windowByte w.toNat) (closeWindows [w.toNat] .command) (begin 0x44 h s)) rfl a ?_
      ⟨zoneStep_frame _ (zoneParts_le (closeWindows_frame _ _ _)), ?_, gained room, fun z zone found masked alarm holds bare => ?_⟩
    · rw [windowCloses, if_neg (by omega)]
      exact if_pos isOpen
    · rw [windowOpen, after]
    · refine confirms z zone found masked alarm ?_ bare
      rwa [at_, Option.any_some] at holds
  · have row : windowExpires w s = zoneStep (windowByte w) (closeWindows [w] .expiry) s := by
      simp only [windowExpires, at_]
      exact if_pos ⟨isOpen, overdue⟩
    obtain ⟨after, gained, confirms⟩ := zoneStep_closes (origin := windowByte w) at_ isOpen .expiry
    refine answers_event (f := windowExpires w) rfl powered ?_
    rw [row]
    exact ⟨zoneStep_frame _ (zoneParts_le (closeWindows_frame _ _ s)), after, gained room, confirms⟩

end Sys2Proof.Machine
end

section
/-! SUPPORT. ZISO, ZRST and ARST (R112 to R114), and the obligation O23. -/

namespace Sys2Proof.Machine

variable {s t u : State} {origin : Byte} {z : Nat} {zone : Zone} {new : ZoneState}

/-! ## A zone that enters a state without coincidences -/

section Enter
variable (found : zoneAt s z = some zone) (moves : zone.state ≠ new) (lone : new.coincides = false)
include found moves lone

theorem enterZone_plain (verify : Option Timer) (cause : ZoneCause) :
    enterZone z new verify cause s = stateMoved z zone new verify cause s := by
  rw [enterZone_moves found moves, lone]
  exact if_neg Bool.false_ne_true

/-- What a step leaves of a zone that enters such a state. -/
theorem zoneStep_enters (cause : ZoneCause) :
    zoneAt (zoneStep origin (enterZone z new none cause) s) z = some { zone with state := new, verifyTimer := none } ∧
      (roomFor 1 s = true →
        gains (zoneEntry z new zone.state cause s) s (zoneStep origin (enterZone z new none cause) s) = true) := by
  have enters := enterZone_plain found moves lone none cause
  have unmasked : new ≠ .masked := fun masked => by
    rw [masked] at lone
    nomatch lone
  constructor
  · refine (closureKeeps_unmasked (zone := { zone with state := new, verifyTimer := none }) unmasked).step ?_
    rw [enters]
    exact (zoneAt_stateMoved (lt_of_zoneAt found) z).trans (if_pos rfl)
  · intro room
    have gained := (stateMoved_adds z zone new none cause s).gains_one room
    rw [← enters] at gained
    exact zoneStep_gains origin gained (.refl _) rfl

end Enter

theorem restored_coincides (zone : Zone) : zone.restored.coincides = false := by
  unfold Zone.restored
  split <;> rfl

theorem restored_code (zone : Zone) : byte zone.restored.code = if zone.stale then 6 else 0 := by
  unfold Zone.restored
  split <;> rfl

theorem restoreZone_frame (z : Nat) (s : State) : sameBut zoneParts s (restoreZone z s) = true := by
  unfold restoreZone
  split
  · exact sameBut_refl _ s
  · exact enterZone_frame _ _ _ _ s

theorem restoreZone_eq (found : zoneAt s z = some zone) : restoreZone z s = enterZone z zone.restored none .command s := by
  simp only [restoreZone, found]

/-- The step that restores an isolated zone or resets a confirmed one. -/
theorem zoneStep_restores (found : zoneAt s z = some zone) (moves : zone.state ≠ zone.restored) :
    zoneAt (zoneStep origin (restoreZone z) s) z =
        some { zone with state := if zone.stale then .faultStale else .normal, verifyTimer := none } ∧
      (roomFor 1 s = true → gains (entryNow s .zone [byte z, if zone.stale then 6 else 0, byte zone.state.code, 5]) s
        (zoneStep origin (restoreZone z) s) = true) := by
  have change : zoneStep origin (restoreZone z) s = zoneStep origin (enterZone z zone.restored none .command) s := by
    rw [zoneStep, zoneStepWith, restoreZone_eq found]
    rfl
  have entry : entryNow s .zone [byte z, if zone.stale then 6 else 0, byte zone.state.code, 5] =
      zoneEntry z zone.restored zone.state .command s := by
    rw [← restored_code]
    rfl
  rw [change, entry]
  exact zoneStep_enters found moves (restored_coincides zone) .command

theorem ne_restored {state : ZoneState} (at_ : zone.state = state) (normal : state ≠ .normal) (stale : state ≠ .faultStale) :
    zone.state ≠ zone.restored := by
  unfold Zone.restored
  rw [at_]
  split
  · exact stale
  · exact normal

theorem byte_toNat_self (b : Byte) : byte b.toNat = b := by simp [byte]

/-! ## The commands -/

section Commands
variable {h : CommandHeader} {b : Byte} (a : accepted h s = true) (found : zoneAt s b.toNat = some zone)
include a found

/-- ARST of a zone answers by the reset of that zone. -/
theorem arst_replies {r : Result} {n : Nat} {holds : State → Prop}
    (reset : resetOne b.toNat (begin 0x42 h s) = { result := r, count := n, state := u }) (hu : holds u) (whole : r ≠ .partialDone) :
    replies (.arst h b) h 0x42 { result := r, data := [byte n] } s holds := by
  have range := lt_of_zoneAt found
  have one : b ≠ 0xFF := fun all => by
    rw [all] at range
    exact absurd range (by decide)
  have made : resetAlarm b (begin 0x42 h s) = { result := r, count := n, state := u } := by
    rw [resetAlarm, if_neg one, if_neg (by omega), reset]
  have executed : (resetAlarm b (begin 0x42 h s)).executed = { answer := { result := r, data := [byte n] }, state := u } := by
    rw [made, ResetAnswer.executed, if_neg whole]
  exact replies_execute (c := .arst h b) (code := 0x42) (checks := .plain) (body := fun s => (resetAlarm b s).executed)
    (x := { answer := { result := r, data := [byte n] }, state := u }) rfl a rfl
    (fun need => nomatch need) (fun lock => nomatch lock) executed hu

omit a in
theorem isConfirmed_zone (code : Byte) : isConfirmed (begin code h s) b.toNat = zoneIs s b.toNat .confirmed := by
  have range := lt_of_zoneAt found
  have other : b.toNat ≠ panelNumber := by
    unfold panelNumber
    omega
  exact if_neg other

omit a in
theorem resettable_zone (code : Byte) :
    resettable (begin code h s) b.toNat = decide (zone.state = .confirmed ∧ zone.last = .clear) := by
  have range := lt_of_zoneAt found
  have other : b.toNat ≠ panelNumber := by
    unfold panelNumber
    omega
  rw [resettable, if_neg other, show zoneAt (begin code h s) b.toNat = some zone from found]
  rfl

omit a in
theorem arst_resets (confirmed : zone.state = .confirmed) (clear : zone.last = .clear) :
    resetOne b.toNat (begin 0x42 h s) =
      { result := .done, count := 1, state := zoneStep b (restoreZone b.toNat) (begin 0x42 h s) } := by
  have range := lt_of_zoneAt found
  have other : b.toNat ≠ panelNumber := by
    unfold panelNumber
    omega
  have reset : resetZone b.toNat = restoreZone b.toNat := funext fun t => if_neg other
  rw [resetOne, isConfirmed_zone found, resettable_zone found,
    if_neg (not_not.2 (zoneIs_iff.2 ⟨zone, found, confirmed⟩)), if_pos (by simp [confirmed, clear]), byte_toNat_self, reset]

omit a in
theorem arst_refuses (confirmed : zone.state = .confirmed) (unclear : zone.last ≠ .clear) :
    resetOne b.toNat (begin 0x42 h s) = { result := .refusedState, count := 0, state := begin 0x42 h s } := by
  rw [resetOne, isConfirmed_zone found, resettable_zone found,
    if_neg (not_not.2 (zoneIs_iff.2 ⟨zone, found, confirmed⟩)), if_neg (by simp [unclear])]

end Commands

/-- Settles O23: ZISO, ZRST and ARST, each refused, without effect, or a step that enters its zone's new state. -/
theorem zonesAreIsolatedAndReset : Obligations.ZonesAreIsolatedAndReset := by
  intro h s z zone a found
  have range : ¬ 47 < z.toNat := by
    have := lt_of_zoneAt found
    omega
  have found_ (code : Byte) : zoneAt (begin code h s) z.toNat = some zone := found
  refine ⟨fun confirmed => ?_, fun isolated => ?_, fun open_ moves room => ?_, fun other => ?_, fun isolated room => ?_,
    fun confirmed clear room => ?_, fun confirmed unclear => ?_⟩
  · refine onlyReplies_simple rfl a ?_
    simp only [isolateZone, found_, if_neg range, if_pos confirmed]
  · refine onlyReplies_simple rfl a ?_
    simp only [isolateZone, found_, if_neg range, isolated]
    rfl
  · obtain ⟨after, gained⟩ := zoneStep_enters (s := begin 0x40 h s) (origin := z) (found_ 0x40) moves rfl .command
    refine replies_simple (r := .done) (u := zoneStep z (enterZone z.toNat .isolated none .command) (begin 0x40 h s)) rfl a
      ?_ ⟨zoneStep_frame _ (zoneParts_le (enterZone_frame _ _ _ _ _)), after, ?_⟩
    · simp only [isolateZone, found_, if_neg range, if_neg open_, if_neg moves, byte_toNat_self]
    · have entry := gained room
      rw [zoneEntry, byte_toNat_self] at entry
      exact entry
  · refine onlyReplies_simple rfl a ?_
    simp only [restoreIsolated, found_, if_neg range, if_neg other]
  · obtain ⟨after, gained⟩ := zoneStep_restores (s := begin 0x41 h s) (origin := z) (found_ 0x41)
      (ne_restored isolated (by decide) (by decide))
    refine replies_simple (r := .done) (u := zoneStep z (restoreZone z.toNat) (begin 0x41 h s)) rfl a
      ?_ ⟨zoneStep_frame _ (zoneParts_le (restoreZone_frame _ _)), after, ?_⟩
    · simp only [restoreIsolated, found_, if_neg range, if_pos isolated, byte_toNat_self]
    · have entry := gained room
      rw [isolated, byte_toNat_self] at entry
      exact entry
  · obtain ⟨after, gained⟩ := zoneStep_restores (s := begin 0x42 h s) (origin := z) (found_ 0x42)
      (ne_restored confirmed (by decide) (by decide))
    refine arst_replies a found (arst_resets found confirmed clear)
      ⟨zoneStep_frame _ (zoneParts_le (restoreZone_frame _ _)), after, ?_⟩ (by decide)
    have entry := gained room
    rw [confirmed, byte_toNat_self] at entry
    exact entry
  · obtain ⟨u, row, rfl⟩ := arst_replies (holds := fun u => u = begin 0x42 h s) a found (arst_refuses found confirmed unclear) rfl
      (by decide)
    exact row

end Sys2Proof.Machine
end

section
/-! SUPPORT. The arrival at the floor (R140, R145) and the judgement of a demonstration's descent (R161). -/

namespace Sys2Proof.Machine

variable {s t u : State} {start : Time}

/-! ## The arrival -/

/-- The descent time measured (R140). -/
def measured (descent : Nat) (s : State) : State := s.onCurtain fun c => { c with lastDescent := descent, floorCheck := true }

/-- The descent time at the reading, from a start. -/
def descentTime (s : State) (start : Time) : Nat := min 65535 (duration s.clock start)

/-- The ARRIVAL entry (R140, log entry 15). -/
def arrivalEntry (descent : Nat) (s : State) : ReportEntry :=
  entryNow s .curtain ([1, 1, s.curtain.code, 0] ++ bytes2 descent)

/-- What the iron's record is at the floor, with everything that the arrival leaves. -/
structure Arrived (descent : Nat) (c d : Curtain) : Prop where
  state : d.state = .atFloor
  mode : d.mode = .normal
  cause : d.cause = none
  lastDescent : d.lastDescent = descent
  start : d.descentStart = none
  relay : d.k5 = false
  checked : d.floorCheck = true
  stopped : d.estimator.running = false
  sequence : d.sequence = c.sequence
  flags : d.flags = c.flags
  alarm : d.stageAlarm = c.stageAlarm

section Arrival
variable (started : s.curtain.descentStart = some start)
include started

theorem arrive_eq : arrive s =
    reportCurtain 1 (changeCurtain (.plain .atFloor) (measured (descentTime s start) s)).curtain.code s.curtain.code
      (descentTime s start) (changeCurtain (.plain .atFloor) (measured (descentTime s start) s)) := by
  simp only [arrive, started, Option.map_some]
  rfl

theorem arrive_arrived : Arrived (descentTime s start) s.curtain (arrive s).curtain := by
  have curtain : (arrive s).curtain =
      moved (.plain .atFloor) (measured (descentTime s start) s) (measured (descentTime s start) s).curtain := by
    rw [arrive_eq started, sameBut_curtain (reportCurtain_frame _ _ _ _ _) (by decide), changeCurtain_curtain]
  have stops : (moved (.plain .atFloor) (measured (descentTime s start) s) (measured (descentTime s start) s).curtain).estimator.running =
      false := by simp [moved, movedEstimator, Move.plain]
  rw [curtain]
  exact ⟨rfl, rfl, rfl, rfl, rfl, rfl, rfl, stops, rfl, rfl, rfl⟩

theorem arrive_adds : Adds [changeEntry (.plain .atFloor) s, arrivalEntry (descentTime s start) s] s (arrive s) := by
  have change := (changeCurtain_adds (.plain .atFloor) (measured (descentTime s start) s)).from (s := s) rfl
  have curtain : (changeCurtain (.plain .atFloor) (measured (descentTime s start) s)).curtain = moved (.plain .atFloor) _ _ :=
    changeCurtain_curtain _ (measured (descentTime s start) s)
  have clock : (changeCurtain (.plain .atFloor) (measured (descentTime s start) s)).clock = s.clock :=
    sameBut_clock (changeCurtain_frame _ (measured (descentTime s start) s)) (by decide)
  have entry := Adds.report .curtain ([1, (changeCurtain (.plain .atFloor) (measured (descentTime s start) s)).curtain.code, s.curtain.code,
    byte (changeCurtain (.plain .atFloor) (measured (descentTime s start) s)).curtain.mode.code] ++ bytes2 (descentTime s start))
    (changeCurtain (.plain .atFloor) (measured (descentTime s start) s))
  rw [arrive_eq started, reportCurtain]
  rw [entryNow, clock, curtain] at entry
  rw [curtain]
  exact change.trans entry

end Arrival

theorem arrive_record (s : State) : (arrive s).phase.record = s.phase.record := sameBut_record (arrive_frame s) (by decide)

/-! ## The judgement -/

/-- The reason for which a demonstration's descent fails at its arrival. -/
def descentFault (s : State) : Option DemoReason :=
  if s.curtain.sequence.posSeen = false then some .unverified
  else if s.curtain.sequence.first.isSome then s.curtain.sequence.first
  else if s.command.profile.descentLimit < s.curtain.lastDescent then some .slow
  else none

/-- The demonstration records its descent time. -/
def descentTimed (s : State) : State := s.onPhase fun p => { p with demoTime := s.curtain.lastDescent }

/-- The demonstration is in its dwell. -/
def dwelling (s : State) : State :=
  setDemoStatus .dwell ((descentTimed s).onCurtain fun c =>
    { c with sequence := { c.sequence with dwellTimer := some (s.timerOf (s.command.profile.demoDwell * 1000)) } })

theorem judgeDescent_idle (other : s.phase.demoStatus ≠ .lowering) : judgeDescent s = s := if_pos other

section Judged
variable (lowering : s.phase.demoStatus = .lowering)
include lowering

theorem judgeDescent_fails {reason : DemoReason} (fault : descentFault s = some reason) :
    judgeDescent s = recordDemo (.failed reason) (descentTimed s) := by
  unfold descentFault at fault
  unfold judgeDescent
  rw [if_neg (not_not.2 lowering)]
  dsimp only
  split
  · next unseen =>
    rw [if_pos (by simpa using unseen)] at fault
    cases fault
    rfl
  · next seen =>
    rw [if_neg (by simpa using seen)] at fault
    split
    · next mark first =>
      have same : s.curtain.sequence.first = some mark := first
      rw [same] at fault
      cases fault
      rfl
    · next first =>
      have same : s.curtain.sequence.first = none := first
      rw [same, if_neg (by decide)] at fault
      split at fault
      · next slow =>
        cases fault
        exact if_pos slow
      · nomatch fault

theorem judgeDescent_dwells (sound : descentFault s = none) :
    judgeDescent s = if s.command.profile.demoDwell = 0 then dwellEnds (dwelling s) else dwelling s := by
  unfold descentFault at sound
  have seen : s.curtain.sequence.posSeen = true := by
    cases seen : s.curtain.sequence.posSeen with
    | true => rfl
    | false => simp [seen] at sound
  have first : s.curtain.sequence.first = none := by
    cases first : s.curtain.sequence.first with
    | none => rfl
    | some mark => simp [seen, first] at sound
  have fast : ¬ s.command.profile.descentLimit < s.curtain.lastDescent := fun slow => by simp [seen, first, slow] at sound
  have nothing : s.command.profile.demoDwell * 1000 = 0 ↔ s.command.profile.demoDwell = 0 := by omega
  unfold judgeDescent
  rw [if_neg (not_not.2 lowering)]
  dsimp only
  split
  · next unseen => simp [seen] at unseen
  · split
    · next mark marked => exact absurd (first.symm.trans marked) (by simp)
    · refine (if_neg fast).trans ?_
      by_cases zero : s.command.profile.demoDwell = 0
      · exact (if_pos (nothing.2 zero)).trans (if_pos zero).symm
      · exact (if_neg fun h => zero (nothing.1 h)).trans (if_neg zero).symm

end Judged

end Sys2Proof.Machine
end

section
/-! SUPPORT. The rise of the stage alarm: the release in an alarm (R145), and the rows of R144. -/

namespace Sys2Proof.Machine

variable {s t u p : State} {cause : Option FaultCause}

/-! ## The judgement in a stage alarm -/

/-- The reason for which a descent fails where no raise can follow it: a dwell of 0 ends in FAULT (R162). -/
def alarmFault (s : State) : Option DemoReason :=
  (descentFault s).or (if s.command.profile.demoDwell = 0 then some .fault else none)

/-- At most this many entries have been added. -/
def AddsUpTo (n : Nat) (s t : State) : Prop := ∃ entries, entries.length ≤ n ∧ Adds entries s t

theorem AddsUpTo.trans {m n : Nat} (h : AddsUpTo m s t) (k : AddsUpTo n t u) : AddsUpTo (m + n) s u := by
  obtain ⟨first, few, adds⟩ := h
  obtain ⟨second, fewer, more⟩ := k
  exact ⟨first ++ second, by rw [List.length_append]; omega, adds.trans more⟩

theorem AddsUpTo.mono {m n : Nat} (h : AddsUpTo m s t) (le : m ≤ n) : AddsUpTo n s t := by
  obtain ⟨entries, few, adds⟩ := h
  exact ⟨entries, few.trans le, adds⟩

theorem AddsUpTo.none {n : Nat} (h : t.phase.report = s.phase.report) : AddsUpTo n s t := ⟨[], Nat.zero_le _, .none h⟩

theorem Adds.upTo {entries : List ReportEntry} (h : Adds entries s t) : AddsUpTo entries.length s t := ⟨entries, le_rfl, h⟩

/-- With room, an entry added after a few others is gained. -/
theorem AddsUpTo.gains {n : Nat} {entry : ReportEntry} (h : AddsUpTo n s t) (k : Adds [entry] t u) (room : roomFor (n + 1) s = true) :
    Machine.gains entry s u = true := by
  obtain ⟨entries, few, adds⟩ := h
  exact (adds.trans k).gains (List.mem_append_right _ (List.mem_singleton.2 rfl)) (by
    rw [List.length_append, List.length_singleton]
    omega) room

/-- What the judgement of a descent leaves in a stage alarm. -/
structure JudgedInAlarm (s t : State) : Prop where
  curtain : t.curtain.undwelled = s.curtain.undwelled
  few : AddsUpTo 1 s t
  time : s.phase.demoStatus = .lowering → t.phase.demoTime = s.curtain.lastDescent
  fails : ∀ reason, s.phase.demoStatus = .lowering → alarmFault s = some reason →
    Adds [demoEntry (.failed reason) (descentTimed s)] s t

theorem undwelled_eq {c d : Curtain} (h : d.undwelled = c.undwelled) : d = { c with sequence := { c.sequence with dwellTimer := d.sequence.dwellTimer } } := by
  have back (x : Curtain) : x = { x.undwelled with sequence := { x.undwelled.sequence with dwellTimer := x.sequence.dwellTimer } } := rfl
  rw [back d, h]
  rfl

theorem JudgedInAlarm.state (h : JudgedInAlarm s t) : t.curtain.state = s.curtain.state := by rw [undwelled_eq h.curtain]

theorem JudgedInAlarm.marks (h : JudgedInAlarm s t) : t.curtain.sequence.markByte = s.curtain.sequence.markByte := by
  rw [undwelled_eq h.curtain]
  rfl

theorem demoTime_of_record {p q : PhaseUnit} {status : DemoStatus} (h : q.record = { p.record with demoStatus := status }) :
    q.demoTime = p.demoTime := by
  have time := congrArg (fun x : PhaseUnit => x.demoTime) h
  exact time

theorem recordDemo_judged {reason : DemoReason} (curtain : u.curtain.undwelled = s.curtain.undwelled)
    (time : u.phase.demoTime = s.curtain.lastDescent) (report : u.phase.report = s.phase.report) (clock : u.clock = s.clock)
    (only : ∀ other, alarmFault s = some other → other = reason) : JudgedInAlarm s (recordDemo (.failed reason) u) := by
  have marks : u.curtain.sequence.markByte = s.curtain.sequence.markByte := by
    rw [undwelled_eq curtain]
    rfl
  have entry : demoEntry (.failed reason) u = demoEntry (.failed reason) (descentTimed s) := by
    simp only [demoEntry, entryNow, time, marks, clock]
    rfl
  have added : Adds [demoEntry (.failed reason) (descentTimed s)] s (recordDemo (.failed reason) u) :=
    entry ▸ (recordDemo_adds (.failed reason) u).from report
  refine ⟨?_, added.upTo, fun _ => (demoTime_of_record (recordDemo_record _ u)).trans time, fun other _ fault => ?_⟩
  · rw [recordDemo_curtain]
    exact curtain
  · rw [only other fault]
    exact added

theorem judgeDescent_inAlarm (floor : s.curtain.state = .atFloor) (alarm : s.curtain.stageAlarm = true) :
    JudgedInAlarm s (judgeDescent s) := by
  by_cases lowering : s.phase.demoStatus = .lowering
  · cases fault : descentFault s with
    | some reason =>
      rw [judgeDescent_fails lowering fault]
      exact recordDemo_judged rfl rfl rfl rfl fun other is => by
        rw [alarmFault, fault, Option.some_or] at is
        exact (Option.some.inj is).symm
    | none =>
      rw [judgeDescent_dwells lowering fault]
      have reason : alarmFault s = if s.command.profile.demoDwell = 0 then some .fault else none := by
        rw [alarmFault, fault, Option.none_or]
      split
      · next zero =>
        rw [dwellEnds_fails (s := dwelling s) floor (.inr (.inr alarm))]
        exact recordDemo_judged rfl rfl rfl rfl fun other is => by
          rw [reason, if_pos zero] at is
          exact (Option.some.inj is).symm
      · next some_ =>
        exact ⟨rfl, .none rfl, fun _ => rfl, fun other _ is => by
          rw [reason, if_neg some_] at is
          nomatch is⟩
  · rw [judgeDescent_idle lowering]
    exact ⟨rfl, .none rfl, fun h => absurd h lowering, fun _ h => absurd h lowering⟩

/-! ## The release in a stage alarm (R144, R145) -/

/-- The descent start of a release: the one that stood, or the reading. -/
def releaseStart (s : State) : Time := s.curtain.descentStart.getD s.clock

theorem releasing_keeps (s : State) : (releasing s).curtain.sequence = s.curtain.sequence ∧
    (releasing s).curtain.stageAlarm = s.curtain.stageAlarm ∧ (releasing s).curtain.descentStart = some (releaseStart s) := by
  unfold releasing
  split <;> exact ⟨rfl, rfl, rfl⟩

theorem enterReleased_keeps (cause : Option FaultCause) (s : State) :
    (enterReleased cause s).curtain.sequence = s.curtain.sequence ∧
      (enterReleased cause s).curtain.stageAlarm = s.curtain.stageAlarm ∧
      (enterReleased cause s).curtain.descentStart = some (releaseStart s) := by
  rw [enterReleased_eq, changeCurtain_curtain]
  exact releasing_keeps s

theorem enterReleased_adds (cause : Option FaultCause) (s : State) : AddsUpTo 1 s (enterReleased cause s) := by
  rw [enterReleased_eq]
  exact ((changeCurtain_adds (releaseMove cause) (releasing s)).from (sameBut_report (releasing_frame s) (by decide))).upTo

section Release
variable (cause : Option FaultCause) (s : State)

theorem releaseInAlarm_open (reading : lineReading s 1 ≠ .active) : releaseInAlarm cause s = enterReleased cause s := by
  have lines := lineReading_of_lines (sameBut_lines (enterReleased_frame cause s) (by decide)) 1
  rw [releaseInAlarm, if_neg (by rwa [lines])]

/-- The release with its arrival, before the judgement. -/
def releasedToFloor : State := arrive (enterReleased cause s)

theorem releaseInAlarm_floor (reading : lineReading s 1 = .active) :
    releaseInAlarm cause s = judgeDescent (releasedToFloor cause s) := by
  have lines := lineReading_of_lines (sameBut_lines (enterReleased_frame cause s) (by decide)) 1
  rw [releaseInAlarm, if_pos (by rwa [lines])]
  rfl

theorem releasedToFloor_arrived : Arrived (descentTime s (releaseStart s)) (enterReleased cause s).curtain (releasedToFloor cause s).curtain := by
  have arrived := arrive_arrived (enterReleased_keeps cause s).2.2
  rwa [descentTime, sameBut_clock (enterReleased_frame cause s) (by decide)] at arrived

theorem releasedToFloor_adds : AddsUpTo 3 s (releasedToFloor cause s) :=
  (enterReleased_adds cause s).trans (arrive_adds (enterReleased_keeps cause s).2.2).upTo

theorem releasedToFloor_record : (releasedToFloor cause s).phase.record = s.phase.record :=
  (arrive_record _).trans (enterReleased_record cause s)

end Release

/-! ## The rows (R144) -/

/-- The stage alarm and K6 set, and the flow timer started where nothing flows. -/
def risen (s : State) : State :=
  if lineReading s 7 = .active then s.onCurtain fun c => { c with stageAlarm := true, k6 := true }
  else startFlow (s.onCurtain fun c => { c with stageAlarm := true, k6 := true })

theorem stageAlarmRises_eq (s : State) : stageAlarmRises s = stageAlarmRow (risen s) := rfl

theorem risen_eq (s : State) : ∃ timer, risen s = s.onCurtain fun c => { c with stageAlarm := true, k6 := true, flowTimer := timer } := by
  unfold risen
  split
  · exact ⟨s.curtain.flowTimer, rfl⟩
  · exact ⟨_, rfl⟩

/-- What every row leaves: the iron neither raises nor waits to, the marks stand, few entries are added. -/
structure RowTaken (p u : State) : Prop where
  raises : u.curtain.state ≠ .raising
  waits : u.curtain.state = .deadTime → u.curtain.pending ≠ some .raise
  marks : u.curtain.sequence.markByte = p.curtain.sequence.markByte
  few : AddsUpTo 4 p u

theorem rowTaken_same (raises : p.curtain.state ≠ .raising) (waits : p.curtain.state ≠ .deadTime) : RowTaken p p :=
  ⟨raises, fun dead => absurd dead waits, rfl, .none rfl⟩

theorem rowTaken_change {next : Move} (raises : next.state ≠ .raising) (waits : next.state = .deadTime → next.pending ≠ some .raise) :
    RowTaken p (changeCurtain next p) := by
  refine ⟨?_, ?_, ?_, (changeCurtain_adds next p).upTo.mono (by simp)⟩ <;> rw [changeCurtain_curtain]
  · exact raises
  · exact waits
  · rfl

theorem rowTaken_release (alarm : p.curtain.stageAlarm = true) (cause : Option FaultCause) : RowTaken p (releaseInAlarm cause p) := by
  obtain ⟨sequence, stage, -⟩ := enterReleased_keeps cause p
  by_cases reading : lineReading p 1 = .active
  · have arrived := releasedToFloor_arrived cause p
    have judged := judgeDescent_inAlarm arrived.state (arrived.alarm.trans (stage.trans alarm))
    have state := judged.state.trans arrived.state
    have marks := judged.marks
    rw [arrived.sequence, sequence] at marks
    rw [releaseInAlarm_floor cause p reading]
    refine ⟨fun raising => ?_, fun dead => ?_, marks, (releasedToFloor_adds cause p).trans judged.few⟩
    · rw [raising] at state
      nomatch state
    · rw [dead] at state
      nomatch state
  · obtain ⟨state, -⟩ := enterReleased_curtain cause p
    rw [releaseInAlarm_open cause p reading]
    refine ⟨?_, ?_, by rw [sequence], (enterReleased_adds cause p).mono (by decide)⟩ <;> rw [state] <;> simp

theorem stageAlarmRow_taken (alarm : p.curtain.stageAlarm = true) : RowTaken p (stageAlarmRow p) := by
  unfold stageAlarmRow
  split
  · next state => exact rowTaken_same (by simp [state]) (by simp [state])
  · next state => exact rowTaken_same (by simp [state]) (by simp [state])
  · exact rowTaken_release alarm _
  · exact rowTaken_release alarm _
  · split
    · exact rowTaken_release alarm _
    · split
      · exact rowTaken_change (by decide) (by decide)
      · next raising =>
        split
        · unfold setPending
          split
          · exact ⟨raising, fun _ => by simp, rfl, .none rfl⟩
          · exact rowTaken_change (by decide) (by decide)
        · next dead =>
          split
          · split
            · exact rowTaken_same raising dead
            · exact rowTaken_change (by simp [Move.moving]) (by simp [Move.moving])
          · have keeps : RowTaken (descentOpened p) (startDescent .emergency p) :=
              rowTaken_change (p := descentOpened p) (by simp [Move.moving]) (by simp [Move.moving])
            exact ⟨keeps.raises, keeps.waits, keeps.marks, (startDescent_adds .emergency p).upTo.mono (by simp)⟩

/-- A drive that cannot bring the iron down leaves its release. -/
theorem stageAlarmRow_releases (broken : p.curtain.ring = .broken ∨ p.curtain.flags.localControl = true ∨ p.curtain.state = .fault ∨
      p.curtain.state = .unknown) (floor : p.curtain.state ≠ .atFloor) (released : p.curtain.state ≠ .released) :
    ∃ cause, stageAlarmRow p = releaseInAlarm cause p := by
  unfold stageAlarmRow
  split
  · next state => exact absurd state floor
  · next state => exact absurd state released
  · exact ⟨_, rfl⟩
  · exact ⟨_, rfl⟩
  · next fault unknown =>
    refine ⟨none, if_pos ?_⟩
    obtain ring | isLocal | state | state := broken
    · exact .inl ring
    · exact .inr isLocal
    · exact absurd state (by assumption)
    · exact absurd state (by assumption)

/-- A healthy drive lowers the iron. -/
theorem stageAlarmRow_lowers (rests : p.curtain.state = .stored ∨ p.curtain.state = .stopped) (ring : p.curtain.ring = .ok)
    (free : p.curtain.flags.localControl = false) : stageAlarmRow p = startDescent .emergency p := by
  have healthy : ¬ (p.curtain.ring = .broken ∨ p.curtain.flags.localControl = true) := by simp [ring, free]
  unfold stageAlarmRow
  obtain state | state := rests <;> rw [state] <;> exact if_neg healthy

theorem stageAlarmRow_floor (floor : p.curtain.state = .atFloor) : stageAlarmRow p = p := by
  simp only [stageAlarmRow, floor]

end Sys2Proof.Machine
end

section
/-! SUPPORT. The telling of a stage alarm within a step of the Zone Monitor (R121, R144, R164), and the obligation O24. -/

namespace Sys2Proof.Machine

variable {s t u q v : State} {kinds : List Kind} {z : Nat} {zone : Zone} {before : AlarmRecord} {origin : Byte}

/-! ## What the rest of a handed-on change leaves of the iron -/

/-- The iron's record and the demonstration are as they were. -/
structure IronKept (s t : State) : Prop where
  curtain : t.curtain = s.curtain
  status : t.phase.demoStatus = s.phase.demoStatus
  time : t.phase.demoTime = s.phase.demoTime

theorem IronKept.refl (s : State) : IronKept s s := ⟨rfl, rfl, rfl⟩

theorem IronKept.trans (h : IronKept s t) (k : IronKept t u) : IronKept s u :=
  ⟨k.curtain.trans h.curtain, k.status.trans h.status, k.time.trans h.time⟩

theorem ironKept_of_record (curtain : t.curtain = s.curtain) (record : t.phase.record = s.phase.record) : IronKept s t :=
  ⟨curtain, demoStatus_of_record record, demoTime_of_record (status := s.phase.demoStatus) record⟩

theorem ironKept_of_sameBut {changed : List Part} (same : sameBut changed s t = true) (curtain : Part.curtain ∉ changed)
    (record : Part.record ∉ changed) : IronKept s t :=
  ironKept_of_record (sameBut_curtain same curtain) (sameBut_record same record)

/-- Neither a raise nor a pending raise: an evacuation changes nothing of the iron (R136, R138). -/
def Curtain.unraised (c : Curtain) : Prop := c.state ≠ .raising ∧ (c.state = .deadTime → c.pending ≠ some .raise)

theorem curtainToldPhase_unraised (rests : s.curtain.unraised) : curtainToldPhase .evacuating s = s := by
  unfold curtainToldPhase
  rw [if_pos rfl]
  split
  · next raising => exact absurd raising rests.1
  · next dead => exact if_neg (rests.2 dead)
  all_goals rfl

/-- With every window closed and the record derived, the close request finds nothing to do. -/
theorem closeAllWindows_idle {cause : ZoneCause} (shut : windowsShut s) (derived : recordDerived s = true) : closeAllWindows cause s = s := by
  have closed : closeWindows allWindows cause s = s := closeWindows_none fun w _ => windowOpen_of_shut shut w
  have record := (recordDerived_iff.1 derived).1
  rw [closeAllWindows, zoneStepWith, closed, alarmClosure_shut_id shut]
  exact if_pos record.symm

theorem evacuate_keeps_iron (shut : windowsShut s) (derived : recordDerived s = true) (rests : s.curtain.unraised) :
    IronKept s (evacuate s) := by
  unfold evacuate
  split
  · exact .refl s
  · have opened (x : State) : IronKept x (x.onPhase fun p => { p with saved := some p.phase, phase := .evacuating }) := ⟨rfl, rfl, rfl⟩
    have entry (x : State) (old : Phase) : IronKept x (reportPhase .evacuating old .alarm x) :=
      ironKept_of_sameBut (reportPhase_frame _ _ _ x) (by decide) (by decide)
    have zones (x : State) (old : Phase) : (reportPhase .evacuating old .alarm x).zones = x.zones :=
      sameBut_zones (reportPhase_frame _ _ _ x) (by decide)
    have told (x : State) (old : Phase) (shut : windowsShut x) (derived : recordDerived x = true) (rests : x.curtain.unraised) :
        IronKept x (notice true (tellPhase .evacuating old x)) := by
      rw [tellPhase, if_pos rfl, closeAllWindows_idle shut derived, curtainToldPhase_unraised (s := deriveK4 x) rests]
      have relay : IronKept x (deriveK4 x) := ⟨rfl, rfl, rfl⟩
      exact (relay.trans (ironKept_of_sameBut (callsToldPhase_frame _ _ (deriveK4 x)) (by decide) (by decide))).trans
        (ironKept_of_sameBut (notice_frame true _) (by decide) (by decide))
    have reached := (opened s).trans (entry _ s.phase.phase)
    have sameZones := zones (s.onPhase fun p => { p with saved := some p.phase, phase := .evacuating }) s.phase.phase
    refine reached.trans (told _ s.phase.phase ?_ ?_ ?_)
    · exact closureKeeps_shut.zones (s := s) sameZones shut
    · exact recordDerived_of_same (s := s) sameZones (congrArg (fun c => c.stageAlarm) reached.curtain) derived
    · rw [reached.curtain]
      exact rests

theorem handOn_keeps_iron (shut : windowsShut s) (derived : s.zones.alarm = derivedAlarm s)
    (rests : (curtainToldAlarm before (setAttention .alarmChange (reportAlarm origin s))).curtain.unraised) :
    IronKept (curtainToldAlarm before (setAttention .alarmChange (reportAlarm origin s))) (handOn evacuate before origin s) := by
  have calls : IronKept (curtainToldAlarm before (setAttention .alarmChange (reportAlarm origin s))) (toldAlarm before origin s) :=
    (IronKept.trans (t := deriveK4 (curtainToldAlarm before (setAttention .alarmChange (reportAlarm origin s)))) ⟨rfl, rfl, rfl⟩
      (ironKept_of_sameBut (callsToldAlarm_frame _ _) (by decide) (by decide)))
  have ends (after : AlarmRecord) (x : State) : IronKept x (notice true (staffRequest before after x)) := by
    have request : IronKept x (staffRequest before after x) := by
      unfold staffRequest
      split
      · exact ironKept_of_sameBut (requestCall_frame _ _ x) (by decide) (by decide)
      · exact .refl x
    exact request.trans (ironKept_of_sameBut (notice_frame true _) (by decide) (by decide))
  unfold handOn
  dsimp only
  refine IronKept.trans ?_ (ends _ _)
  split
  · refine calls.trans (evacuate_keeps_iron ?_ ?_ ?_)
    · exact closureKeeps_shut.zones (toldAlarm_zones before origin s) shut
    · exact toldAlarm_derived before origin derived
    · rw [calls.curtain]
      exact rests
  · exact calls

end Sys2Proof.Machine
end

section
/-! SUPPORT. The stage alarm that a confirmed zone raises (R107, R144, R145, R164), and the obligation O24. -/

namespace Sys2Proof.Machine

variable {s t u q : State} {kinds : List Kind} {z : Nat} {zone : Zone} {before : AlarmRecord} {origin : Byte}

theorem chain_k6 (h : Chain kinds s t) (hk : .stage ∉ kinds) : t.curtain.k6 = s.curtain.k6 :=
  h.keeps_field (field := fun s => s.curtain.k6) hk fun j s t other step => by
    cases step with
    | curtain h => exact h.stage.2
    | stage => exact absurd rfl other
    | _ => rfl

/-! ## The telling (R144, R164) -/

/-- The demonstration fails with the alarm where the confirmed set was empty. -/
def alarmFails (before : AlarmRecord) (s : State) : Bool :=
  decide (before.confirmed = [] ∧ s.zones.alarm.confirmed ≠ []) && s.phase.demoStatus.inProgress

theorem curtainToldAlarm_rises (stage : s.zones.alarm.stage = true) (calm : s.curtain.stageAlarm = false) :
    curtainToldAlarm before s =
      if alarmFails before s then recordDemo (.failed .alarm) (stageAlarmRow (risen s)) else stageAlarmRow (risen s) := by
  have told : curtainToldStage s.zones.alarm.stage s = stageAlarmRow (risen s) := by
    rw [curtainToldStage, stage, calm]
    rfl
  rw [curtainToldAlarm, told]
  rfl

/-- What the telling of the rise leaves, seen from the state at its rows. -/
structure Told (p u v : State) : Prop where
  curtain : v.curtain.undwelled = u.curtain.undwelled
  time : v.phase.demoTime = u.phase.demoTime
  later : Chain calm u v

theorem told_row (fails : Bool) (p : State) :
    Told p (stageAlarmRow p) (if fails then recordDemo (.failed .alarm) (stageAlarmRow p) else stageAlarmRow p) := by
  split
  · exact ⟨by rw [recordDemo_curtain]; rfl, demoTime_of_record (recordDemo_record _ _), recordDemo_chain rfl _⟩
  · exact ⟨rfl, rfl, .refl _⟩

/-! ## The step that raises the stage alarm -/

/-- The state told of the new record, and the rows' state (R121). -/
def stageTold (z : Nat) (s : State) : State := setAttention .alarmChange (reportAlarm (byte z) (stepRecord (verified z) s))

theorem stageTold_same (z : Nat) (s : State) : sameBut zoneParts s (stageTold z s) = true :=
  sameBut_trans (enterZone_frame z .confirmed none .verified s)
    (sameBut_trans (alarmClosure_frame (verified z s))
      (sameBut_trans (sameBut_mono (onZones_frame _ _) (by decide))
        (sameBut_trans (sameBut_mono (report_frame _ _ _) (by decide)) (sameBut_mono (setAttention_frame _ _) (by decide)))))

theorem stageTold_zones (z : Nat) (s : State) : (stageTold z s).zones = (stepRecord (verified z) s).zones :=
  (sameBut_zones (setAttention_frame _ _) (by decide)).trans (sameBut_zones (report_frame _ _ _) (by decide))

section Confirmed
variable (found : zoneAt s z = some zone) (verifying : zone.state = .verifying)
include found verifying

/-- The confirmed zone keeps its definition. -/
theorem verified_zoneAt : zoneAt (alarmClosure (verified z s)) z = some { zone with state := .confirmed, verifyTimer := none } := by
  have moved := (zoneAt_stateMoved (zone := zone) (new := .confirmed) (verify := none) (cause := .verified) (s := s)
    (lt_of_zoneAt found) z).trans (if_pos rfl)
  have change : zoneAt (verified z s) z = some { zone with state := .confirmed, verifyTimer := none } := by
    rw [verified_eq found verifying]
    exact coincideLoop_keeps _ _ _ z _ moved (by simp)
  exact (closureKeeps_unmasked (zone := { zone with state := .confirmed, verifyTimer := none }) (by simp)).alarmClosure change

theorem verified_set : confirmedZones (alarmClosure (verified z s)) ≠ [] :=
  List.ne_nil_of_mem ((mem_confirmedZones (lt_of_zoneAt found)).2 (zoneIs_iff.2 ⟨_, verified_zoneAt found verifying, rfl⟩))

theorem stageTold_confirmed : (stageTold z s).zones.alarm.confirmed ≠ [] := by
  rw [stageTold_zones]
  exact verified_set found verifying

theorem stageTold_stage (side : zone.defn.side = .stage) : (stageTold z s).zones.alarm.stage = true := by
  rw [stageTold_zones]
  change sideConfirmed (alarmClosure (verified z s)) .stage = true
  rw [sideConfirmed, Bool.or_eq_true, List.any_eq_true]
  exact .inr ⟨_, mem_zones.2 ⟨z, verified_zoneAt found verifying⟩, by simp [side]⟩

end Confirmed

theorem stageTold_calm (derived : recordDerived s = true) (calm : s.zones.alarm.stage = false) :
    (stageTold z s).curtain.stageAlarm = false := by
  rw [sameBut_curtain (stageTold_same z s) (by decide), (recordDerived_iff.1 derived).2, calm]

section Rise
variable (derived : recordDerived s = true) (calm : s.zones.alarm.stage = false) (found : zoneAt s z = some zone)
  (side : zone.defn.side = .stage) (verifying : zone.state = .verifying)
include derived calm found side verifying

/-- The step is the telling of the rise, and what follows leaves the iron. -/
theorem stage_step : ∃ v, curtainToldAlarm s.zones.alarm (stageTold z s) = v ∧
    IronKept v (zoneStep (byte z) (verified z) s) ∧ Chain phaseKinds v (zoneStep (byte z) (verified z) s) ∧
    Told (risen (stageTold z s)) (stageAlarmRow (risen (stageTold z s))) v := by
  obtain ⟨step, alarmed⟩ := verified_step (origin := byte z) found verifying derived
  have rises := curtainToldAlarm_rises (before := s.zones.alarm) (stageTold_stage found verifying side)
    (stageTold_calm derived calm)
  have told := told_row (alarmFails s.zones.alarm (stageTold z s)) (risen (stageTold z s))
  rw [← rises] at told
  have alarm : (risen (stageTold z s)).curtain.stageAlarm = true := by
    obtain ⟨timer, eq⟩ := risen_eq (stageTold z s)
    rw [eq]
    rfl
  have taken := stageAlarmRow_taken alarm
  have shut : windowsShut (stepRecord (verified z) s) := by
    have closed : windowsShut (alarmClosure (verified z s)) :=
      (alarmClosure_shut (verified z s)).resolve_left (verified_set found verifying)
    exact closureKeeps_shut.congr (alarmClosure (verified z s)) _ rfl rfl rfl closed
  refine ⟨_, rfl, ?_, ?_, told⟩
  · rw [step]
    refine handOn_keeps_iron shut rfl ?_
    have curtain := undwelled_eq told.curtain
    have state := congrArg (fun c : Curtain => c.state) curtain
    have pending := congrArg (fun c : Curtain => c.pending) curtain
    exact ⟨fun raising => taken.raises (state.symm.trans raising),
      fun dead raise => taken.waits (state.symm.trans dead) (pending.symm.trans raise)⟩
  · rw [step]
    exact handOn_later _ _ _

end Rise

end Sys2Proof.Machine
end

section
/-! SUPPORT. The obligation O24, by the row that the rise of the stage alarm takes. -/

namespace Sys2Proof.Machine

variable {s t u p v : State} {z : Nat} {zone : Zone} {cause : Option FaultCause}

/-! ## The state at the rows -/

/-- The state at the rows of R144: the confirmed zone's step has changed nothing of the iron but the stage alarm. -/
structure AtRows (s p : State) : Prop where
  curtain : ∃ timer, p.curtain = { s.curtain with stageAlarm := true, k6 := true, flowTimer := timer }
  clock : p.clock = s.clock
  lines : p.lines = s.lines
  profile : p.command.profile = s.command.profile
  record : p.phase.record = s.phase.record

theorem atRows_of {q : State} (same : sameBut zoneParts s q = true) (eq : ∃ timer, p = q.onCurtain fun c =>
    { c with stageAlarm := true, k6 := true, flowTimer := timer }) : AtRows s p := by
  obtain ⟨timer, rfl⟩ := eq
  have clock : q.clock = s.clock := sameBut_clock same (by decide)
  have lines : q.lines = s.lines := sameBut_lines same (by decide)
  have profile : q.command.profile = s.command.profile := profile_of_sameBut same (by decide)
  have record : q.phase.record = s.phase.record := sameBut_record same (by decide)
  refine ⟨⟨timer, ?_⟩, clock, lines, profile, record⟩
  rw [State.onCurtain_curtain, sameBut_curtain same (by decide)]

theorem atRows (z : Nat) (s : State) : AtRows s (risen (stageTold z s)) := atRows_of (stageTold_same z s) (risen_eq _)

section Rows
variable (rows : AtRows s p)
include rows

theorem AtRows.state : p.curtain.state = s.curtain.state := by
  obtain ⟨timer, eq⟩ := rows.curtain
  rw [eq]

theorem AtRows.ring : p.curtain.ring = s.curtain.ring := by
  obtain ⟨timer, eq⟩ := rows.curtain
  rw [eq]

theorem AtRows.flags : p.curtain.flags = s.curtain.flags := by
  obtain ⟨timer, eq⟩ := rows.curtain
  rw [eq]

theorem AtRows.sequence : p.curtain.sequence = s.curtain.sequence := by
  obtain ⟨timer, eq⟩ := rows.curtain
  rw [eq]

theorem AtRows.alarm : p.curtain.stageAlarm = true ∧ p.curtain.k6 = true := by
  obtain ⟨timer, eq⟩ := rows.curtain
  rw [eq]
  exact ⟨rfl, rfl⟩

theorem AtRows.start : releaseStart p = s.curtain.descentStart.getD s.clock := by
  obtain ⟨timer, eq⟩ := rows.curtain
  rw [releaseStart, eq, rows.clock]

theorem AtRows.status : p.phase.demoStatus = s.phase.demoStatus := demoStatus_of_record rows.record

theorem AtRows.reading (line : Nat) : lineReading p line = lineReading s line := lineReading_of_lines rows.lines line

end Rows

/-! ## Few entries before the rows -/

/-- The step changes no other zone and closes no window. -/
def quietZones (z : Nat) (s : State) : Prop :=
  (∀ other, linked s z other = false) ∧ (∀ other, zoneIs s other .masked = false) ∧ ∀ w, windowOpen s w = false

theorem risen_adds (found : zoneAt s z = some zone) (verifying : zone.state = .verifying) (quiet : quietZones z s) :
    AddsUpTo 2 s (risen (stageTold z s)) := by
  obtain ⟨alone, -, shut⟩ := quiet
  have change : verified z s = verifiedMoved z zone s := enterZone_alone found (by simp [verifying]) alone
  have windows (w : Nat) : windowOpen (verifiedMoved z zone s) w = false := by
    have same : (verifiedMoved z zone s).zones.windows = s.zones.windows := by
      rw [verifiedMoved, stateMoved_zones]
      rfl
    rw [← shut w, windowOpen, windowOpen, same]
  have closed : alarmClosure (verified z s) = verifiedMoved z zone s := by
    rw [change, alarmClosure, closeWindows_none fun w _ => windows w, ite_self]
  have report : (stepRecord (verified z) s).phase.report = (verifiedMoved z zone s).phase.report := by
    rw [stepRecord, closed]
    rfl
  have moved : Adds [zoneEntry z .confirmed zone.state .verified s] s (verifiedMoved z zone s) := stateMoved_adds _ _ _ _ _ s
  have told : Adds [alarmEntry (byte z) (stepRecord (verified z) s)] (stepRecord (verified z) s) (stageTold z s) :=
    (reportAlarm_adds (byte z) (stepRecord (verified z) s)).to rfl
  have risen_ : (risen (stageTold z s)).phase.report = (stageTold z s).phase.report := by
    obtain ⟨timer, eq⟩ := risen_eq (stageTold z s)
    rw [eq]
    rfl
  exact (((moved.to report).trans told).to risen_).upTo

/-! ## The release at the floor -/

/-- What `judged` says of a descent time, it says of the arrival. -/
theorem alarmFault_eq (s : State) : alarmFault s =
    if s.curtain.sequence.posSeen = false then some .unverified
    else if s.curtain.sequence.first.isSome then s.curtain.sequence.first
    else if s.command.profile.descentLimit < s.curtain.lastDescent then some .slow
    else if s.command.profile.demoDwell = 0 then some .fault else none := by
  unfold alarmFault descentFault
  split
  · rfl
  · split
    · next marked =>
      obtain ⟨mark, first⟩ := Option.isSome_iff_exists.1 marked
      rw [first]
      rfl
    · split
      · rfl
      · exact Option.none_or

/-- The arrival of a release from a state, before its judgement. -/
structure AtFloor (s a : State) : Prop where
  arrival : ∃ c, Arrived (min 65535 (min (s.clock - s.curtain.descentStart.getD s.clock).toNat 2147483647)) c a.curtain
  sequence : a.curtain.sequence = s.curtain.sequence
  record : a.phase.record = s.phase.record
  profile : a.command.profile = s.command.profile
  clock : a.clock = s.clock

theorem AtFloor.status {a : State} (h : AtFloor s a) : a.phase.demoStatus = s.phase.demoStatus := demoStatus_of_record h.record

section Floor
variable (rows : AtRows s p) (cause : Option FaultCause)
include rows

/-- The iron has been released to the floor, its descent measured. -/
theorem atFloor : AtFloor s (releasedToFloor cause p) := by
  have arrived := releasedToFloor_arrived cause p
  have frame := sameBut_trans (enterReleased_frame cause p) (arrive_frame (enterReleased cause p))
  have profile : (releasedToFloor cause p).command.profile = p.command.profile := profile_of_sameBut frame (by decide)
  have clock : (releasedToFloor cause p).clock = p.clock := sameBut_clock frame (by decide)
  rw [rows.start, descentTime, rows.clock] at arrived
  exact ⟨⟨_, arrived⟩, (arrived.sequence.trans (enterReleased_keeps cause p).1).trans rows.sequence,
    (releasedToFloor_record cause p).trans rows.record, profile.trans rows.profile, clock.trans rows.clock⟩

theorem atFloor_judged : JudgedInAlarm (releasedToFloor cause p) (judgeDescent (releasedToFloor cause p)) := by
  have arrived := releasedToFloor_arrived cause p
  exact judgeDescent_inAlarm arrived.state (arrived.alarm.trans ((enterReleased_keeps cause p).2.1.trans rows.alarm.1))

end Floor

end Sys2Proof.Machine
end

section
/-! SUPPORT. The obligation O24. -/

namespace Sys2Proof.Machine

variable {s t u p v : State} {z : Nat} {zone : Zone}

/-- The step of the confirmation, seen from the state at its rows. -/
structure RowStep (s p t : State) : Prop where
  rows : AtRows s p
  curtain : t.curtain.undwelled = (stageAlarmRow p).curtain.undwelled
  time : t.phase.demoTime = (stageAlarmRow p).phase.demoTime
  later : Chain usual (stageAlarmRow p) t

namespace RowStep
variable (h : RowStep s p t)
include h

theorem keeps {α : Type} (field : Curtain → α) (reads : ∀ c : Curtain, ∀ timer : Option Timer,
    field { c with sequence := { c.sequence with dwellTimer := timer } } = field c) :
    field t.curtain = field (stageAlarmRow p).curtain := by
  rw [undwelled_eq h.curtain]
  exact reads _ _

theorem state : t.curtain.state = (stageAlarmRow p).curtain.state := h.keeps (fun c => c.state) fun _ _ => rfl

theorem lowers (rests : s.curtain.state = .stored ∨ s.curtain.state = .stopped) (ring : s.curtain.ring = .ok)
    (free : s.curtain.flags.localControl = false) :
    t.curtain.state = .lowering ∧ t.curtain.mode = .emergency ∧ t.curtain.descentStart = some s.clock := by
  have row : stageAlarmRow p = startDescent .emergency p :=
    stageAlarmRow_lowers (by rwa [h.rows.state]) (by rw [h.rows.ring, ring]) (by rw [h.rows.flags, free])
  have curtain := startDescent_curtain .emergency p
  have start : (descentOpened p).curtain.descentStart = some s.clock := by rw [← h.rows.clock]; rfl
  have mode := h.keeps (fun c => c.mode) fun _ _ => rfl
  have begun := h.keeps (fun c => c.descentStart) fun _ _ => rfl
  rw [h.state, mode, begun, row, curtain]
  exact ⟨rfl, rfl, start⟩

theorem floor (floor : s.curtain.state = .atFloor) : t.curtain.state = .atFloor := by
  have at_ : p.curtain.state = .atFloor := h.rows.state.trans floor
  rw [h.state, stageAlarmRow_floor at_, at_]

section Released
variable (broken : s.curtain.ring = .broken ∨ s.curtain.flags.localControl = true ∨ s.curtain.state = .fault ∨ s.curtain.state = .unknown)
  (floor : s.curtain.state ≠ .atFloor) (released : s.curtain.state ≠ .released)
include broken floor released

theorem row : ∃ cause, stageAlarmRow p = releaseInAlarm cause p := by
  refine stageAlarmRow_releases ?_ (by rwa [h.rows.state]) (by rwa [h.rows.state])
  rwa [h.rows.ring, h.rows.flags, h.rows.state]

theorem releases (reading : lineReading s 1 ≠ .active) : t.curtain.state = .released ∧ t.curtain.k5 = true := by
  obtain ⟨cause, row⟩ := h.row broken floor released
  have entered := releaseInAlarm_open cause p (by rwa [h.rows.reading])
  obtain ⟨state, -, -, relay, -⟩ := enterReleased_curtain cause p
  have k5 := h.keeps (fun c => c.k5) fun _ _ => rfl
  rw [h.state, k5, row, entered]
  exact ⟨state, relay⟩

/-- The arrival that the release makes where C1 already reads ACTIVE, before its judgement. -/
theorem arrives (reading : lineReading s 1 = .active) : ∃ a : State, stageAlarmRow p = judgeDescent a ∧
    JudgedInAlarm a (judgeDescent a) ∧ AddsUpTo 3 p a ∧ AtFloor s a := by
  obtain ⟨cause, row⟩ := h.row broken floor released
  refine ⟨releasedToFloor cause p, row.trans (releaseInAlarm_floor cause p (by rwa [h.rows.reading])), atFloor_judged h.rows cause,
    releasedToFloor_adds cause p, atFloor h.rows cause⟩

end Released

/-- What the arrival leaves, the step leaves. -/
theorem arrived {a : State} (row : stageAlarmRow p = judgeDescent a) (judged : JudgedInAlarm a (judgeDescent a)) (at_ : AtFloor s a) :
    t.curtain.state = .atFloor ∧ t.curtain.k5 = false ∧ t.curtain.floorCheck = true ∧
      t.curtain.lastDescent = min 65535 (min (s.clock - s.curtain.descentStart.getD s.clock).toNat 2147483647) := by
  obtain ⟨_, arrived⟩ := at_.arrival
  have curtain := undwelled_eq (h.curtain.trans (row ▸ judged.curtain))
  rw [curtain]
  exact ⟨arrived.state, arrived.relay, arrived.checked, arrived.lastDescent⟩

/-- A demonstration in its descent records the descent time. -/
theorem timed {a : State} (row : stageAlarmRow p = judgeDescent a) (judged : JudgedInAlarm a (judgeDescent a)) (at_ : AtFloor s a)
    (lowering : s.phase.demoStatus = .lowering) : t.phase.demoTime = t.curtain.lastDescent := by
  obtain ⟨-, -, -, descent⟩ := h.arrived row judged at_
  obtain ⟨_, arrived⟩ := at_.arrival
  rw [h.time, row, judged.time (at_.status.trans lowering), arrived.lastDescent, descent]

/-- The result of the judgement is reported. -/
theorem judges {a : State} (row : stageAlarmRow p = judgeDescent a) (judged : JudgedInAlarm a (judgeDescent a)) (few : AddsUpTo 3 p a)
    (at_ : AtFloor s a) (lowering : s.phase.demoStatus = .lowering) (before : AddsUpTo 2 s p) (room : roomFor 20 s = true)
    {reason : DemoReason} (fault : alarmFault a = some reason) :
    gains (entryNow s .demo ([5, byte reason.code] ++ bytes2 t.phase.demoTime ++ [s.curtain.sequence.markByte])) s t = true := by
  have added := judged.fails reason (at_.status.trans lowering) fault
  have entry : demoEntry (.failed reason) (descentTimed a) =
      entryNow s .demo ([5, byte reason.code] ++ bytes2 t.phase.demoTime ++ [s.curtain.sequence.markByte]) := by
    rw [h.time, row, judged.time (at_.status.trans lowering), ← at_.sequence, entryNow, ← at_.clock]
    rfl
  have gained := ((before.trans few).mono (by decide : 5 ≤ 19)).gains added room
  rw [entry] at gained
  exact gains_later gained (row ▸ h.later) rfl

/-- A demonstration in progress fails with the alarm after its rows (R164, log entry 24). -/
theorem alarms (told : v = recordDemo (.failed .alarm) (stageAlarmRow p)) (kept : IronKept v t) (later : Chain phaseKinds v t) :
    t.phase.demoStatus = .failed .alarm ∧ isRaised .demoResult t = true ∧ t.curtain.sequence.dwellTimer = none ∧
      (AddsUpTo 2 s p → roomFor 20 s = true → gains
        (entryNow s .demo ([5, byte DemoReason.alarm.code] ++ bytes2 t.phase.demoTime ++ [s.curtain.sequence.markByte])) s t = true) := by
  have taken := stageAlarmRow_taken h.rows.alarm.1
  have frame := stageAlarmRow_frame p
  have entry : demoEntry (.failed .alarm) (stageAlarmRow p) =
      entryNow s .demo ([5, byte DemoReason.alarm.code] ++ bytes2 t.phase.demoTime ++ [s.curtain.sequence.markByte]) := by
    have clock : (stageAlarmRow p).clock = s.clock := (sameBut_clock frame (by decide)).trans h.rows.clock
    rw [h.time, demoEntry, entryNow, clock, taken.marks, h.rows.sequence]
    rfl
  subst told
  refine ⟨?_, chain_raised later (by decide) ?_, ?_, fun before room => ?_⟩
  · have status := congrArg (fun q : PhaseUnit => q.demoStatus) (recordDemo_record (.failed .alarm) (stageAlarmRow p))
    exact kept.status.trans status
  · rw [isRaised_recordDemo (by decide)]
    simp
  · rw [kept.curtain, recordDemo_curtain]
    rfl
  · have added := recordDemo_adds (.failed .alarm) (stageAlarmRow p)
    rw [entry] at added
    exact gains_later (((before.trans taken.few).mono (by decide : 6 ≤ 19)).gains added room) (phase_usual later) rfl

end RowStep

/-- Settles O24: the confirmation is a step whose telling takes a row of R144, and what follows leaves the iron. -/
theorem stageAlarmBringsIronDown : Obligations.StageAlarmBringsIronDown := by
  intro s z zone powered derived calm found side verifying overdue
  dsimp only
  have alarmed := (verified_step (origin := byte z) found verifying derived).2
  obtain ⟨v, told, kept, later, telling⟩ := stage_step derived calm found side verifying
  have rows := atRows z s
  have few (quiet : quietZones z s) := risen_adds found verifying quiet
  have fails (fresh : s.zones.alarm.confirmed = []) (going : s.phase.demoStatus.inProgress = true) :
      v = recordDemo (.failed .alarm) (stageAlarmRow (risen (stageTold z s))) := by
    have status : (stageTold z s).phase.demoStatus = s.phase.demoStatus :=
      demoStatus_of_record (sameBut_record (stageTold_same z s) (by decide))
    rw [← told, curtainToldAlarm_rises (stageTold_stage found verifying side) (stageTold_calm derived calm), if_pos]
    rw [alarmFails, status, going, Bool.and_true, decide_eq_true_eq]
    exact ⟨fresh, stageTold_confirmed found verifying⟩
  have step : RowStep s (risen (stageTold z s)) (zoneStep (byte z) (verified z) s) :=
    ⟨rows, by rw [kept.curtain, telling.curtain], kept.time.trans telling.time,
      (calm_usual telling.later).trans (phase_usual later)⟩
  have stageAlarm : (zoneStep (byte z) (verified z) s).curtain.stageAlarm = true := by
    rw [step.keeps (fun c => c.stageAlarm) fun _ _ => rfl, chain_stageAlarm (stageAlarmRow_chain _) (by decide), rows.alarm.1]
  have changes : Chain zoneKinds s (verified z s) := enterZone_chain rfl z .verified s
  have after := (recordDerived_iff.1 (zoneStep_derived (origin := byte z) changes derived)).2
  refine answers_event (f := verificationExpires z) rfl powered ?_
  rw [verificationExpires_eq found verifying overdue]
  generalize risen (stageTold z s) = p at *
  generalize ht : zoneStep (byte z) (verified z) s = t at *
  refine ⟨?_, after.symm.trans stageAlarm, stageAlarm, ?_, alarmed.relay, fun rests ring free => step.lowers rests ring free,
    fun broken floor released reading => step.releases broken floor released reading,
    fun broken floor released reading => ?_, fun going fresh => ?_, step.floor⟩
  · rw [← ht]
    exact zoneStep_frame _ (zoneParts_le (enterZone_frame _ _ _ _ s))
  · rw [step.keeps (fun c => c.k6) fun _ _ => rfl, chain_k6 (stageAlarmRow_chain _) (by decide), rows.alarm.2]
  · obtain ⟨a, row, judged, adds, at_⟩ := step.arrives broken floor released reading
    obtain ⟨state, relay, checked, descent⟩ := step.arrived row judged at_
    refine ⟨state, relay, checked, descent, fun lowering => ⟨step.timed row judged at_ lowering, fun quiet room reason fault => ?_⟩⟩
    refine step.judges row judged adds at_ lowering (few quiet) room ?_
    obtain ⟨_, arrived⟩ := at_.arrival
    rw [alarmFault_eq, at_.sequence, at_.profile, arrived.lastDescent, ← descent]
    exact fault
  · obtain ⟨status, raised, dwell, gained⟩ := step.alarms (fails fresh going) kept later
    exact ⟨status, raised, dwell, fun quiet => gained (few quiet)⟩

end Sys2Proof.Machine
end

section
/-! SUPPORT. C1's acceptance as ACTIVE in a descent (R140, R161). -/

namespace Sys2Proof.Machine

variable {s t u a : State} {l : Line} {c : Instr} {start : Time} {d : Curtain} {descent : Nat}

/-! ## The acceptance -/

/-- The state that the hand-off of C1 as ACTIVE starts from. -/
def floorLine (l : Line) (s : State) : State := noteAcceptance 1 l .active s

theorem floorLine_same (l : Line) (s : State) : sameBut [.lines, .report, .attention] s (floorLine l s) = true :=
  sameBut_trans (sameBut_mono (onLines_frame s _) (by decide)) (sameBut_mono (noteAcceptance_after 1 l .active s) (by decide))

theorem floorLine_adds (l : Line) (s : State) : AddsUpTo 1 s (floorLine l s) := by
  have entered : floorLine l s = reportContact 1 (edgesOf s 1) l.accepted .active (setLine 1 (l.accept 1 (edgesOf s 1) .active s.clock) s) := rfl
  rw [entered, reportContact]
  split
  · exact ((Adds.report .contact _ (setLine 1 (l.accept 1 (edgesOf s 1) .active s.clock) s)).from (s := s) rfl).upTo
  · exact .none rfl

/-- The sample, or the acceptance, that completes ACTIVE on C1 brings the arrival. -/
theorem floor_accepted (powered : s.powered = true) (line : s.lines[1]? = some l) (fresh : l.accepted ≠ .active)
    (enough : persistenceOf s 1 ≤ if l.candidate = some .active then l.count + 1 else 1) (reading : l.reading ≠ .active)
    (moves : s.curtain.state = .lowering ∨ s.curtain.state = .released)
    (row : c = .contactSample 1 .active ∨ (c = .contactAcceptance 1 ∧ l.candidate = some .active)) :
    exec c s = .next (judgeDescent (arrive (floorLine l s))) := by
  have completes : l.completes .active (persistenceOf s 1) = true := by simp [completes_iff fresh.symm, enough]
  have state : (floorLine l s).curtain.state = s.curtain.state := by
    rw [sameBut_curtain (floorLine_same l s) (by decide)]
  have reached : floorReached (floorLine l s) = judgeDescent (arrive (floorLine l s)) := by
    unfold floorReached
    obtain lowering | released := moves
    · simp only [state, lowering]
    · simp only [state, released]
  have handed : takeSample 1 .active s = judgeDescent (arrive (floorLine l s)) := by
    rw [takeSample_accepts line completes, acceptState_eq, ← reached]
    change handC1 l.reading .active (floorLine l s) = floorReached (floorLine l s)
    unfold handC1
    cases was : l.reading with
    | active => exact absurd was reading
    | normal => rfl
    | fault => rfl
  obtain rfl | ⟨rfl, candidate⟩ := row
  · rw [exec_contactSample powered, handed]
  · rw [exec_contactAcceptance powered, acceptLine, line]
    simp only [Option.bind_some, candidate, Option.any_some, completes, if_pos, handed]

/-! ## The judgement at the arrival -/

/-- What the arrival leaves and the judgement keeps. -/
structure AtRest (descent : Nat) (c : Curtain) : Prop where
  lastDescent : c.lastDescent = descent
  start : c.descentStart = none
  relay : c.k5 = false
  checked : c.floorCheck = true
  stopped : c.estimator.running = false

theorem Arrived.atRest {c : Curtain} (h : Arrived descent c d) : AtRest descent d := ⟨h.lastDescent, h.start, h.relay, h.checked, h.stopped⟩

theorem AtRest.of_undwelled {c : Curtain} (h : AtRest descent c) (same : d.undwelled = c.undwelled) : AtRest descent d := by
  rw [undwelled_eq same]
  exact ⟨h.lastDescent, h.start, h.relay, h.checked, h.stopped⟩

theorem AtRest.raises {c : Curtain} (h : AtRest descent c) (s : State) : AtRest descent (moved (.moving .raising .demo) s c) :=
  ⟨h.lastDescent, rfl, rfl, h.checked, by simp [moved, movedEstimator, Move.moving]⟩

/-- What the result of a judged descent leaves. -/
structure JudgedFailed (reason : DemoReason) (a t : State) : Prop where
  record : t.phase.record = { a.phase.record with demoStatus := .failed reason, demoTime := a.curtain.lastDescent }
  curtain : t.curtain.undwelled = a.curtain.undwelled
  dwell : t.curtain.sequence.dwellTimer = none
  raised : isRaised .demoResult t = true
  entry : Adds [entryNow a .demo ([5, byte reason.code] ++ bytes2 a.curtain.lastDescent ++ [a.curtain.sequence.markByte])] a t

theorem recordDemo_judgedFailed {reason : DemoReason} {u : State} (curtain : u.curtain.undwelled = a.curtain.undwelled)
    (record : u.phase.record = { a.phase.record with demoStatus := u.phase.demoStatus, demoTime := a.curtain.lastDescent })
    (report : u.phase.report = a.phase.report) (clock : u.clock = a.clock) : JudgedFailed reason a (recordDemo (.failed reason) u) := by
  have marks : u.curtain.sequence.markByte = a.curtain.sequence.markByte := by
    rw [undwelled_eq curtain]
    rfl
  have time := congrArg (fun p : PhaseUnit => p.demoTime) record
  change u.phase.demoTime = a.curtain.lastDescent at time
  have entry : demoEntry (.failed reason) u =
      entryNow a .demo ([5, byte reason.code] ++ bytes2 a.curtain.lastDescent ++ [a.curtain.sequence.markByte]) := by
    simp only [demoEntry, entryNow, time, marks, clock]
    rfl
  refine ⟨?_, ?_, ?_, ?_, entry ▸ (recordDemo_adds (.failed reason) u).from report⟩
  · rw [recordDemo_record, record]
  · rw [recordDemo_curtain]
    exact curtain
  · rw [recordDemo_curtain]
    rfl
  · rw [isRaised_recordDemo (by decide)]
    simp

section Judged
variable (lowering : a.phase.demoStatus = .lowering)
include lowering

theorem judged_fails {reason : DemoReason} (fault : descentFault a = some reason) : JudgedFailed reason a (judgeDescent a) := by
  rw [judgeDescent_fails lowering fault]
  exact recordDemo_judgedFailed rfl rfl rfl rfl

theorem judged_dwells (sound : descentFault a = none) (dwell : a.command.profile.demoDwell ≠ 0) : judgeDescent a = dwelling a := by
  rw [judgeDescent_dwells lowering sound, if_neg dwell]

theorem judged_barred (sound : descentFault a = none) (dwell : a.command.profile.demoDwell = 0) (floor : a.curtain.state = .atFloor)
    (barred : a.curtain.flags.localControl = true ∨ a.phase.phase = .evacuating ∨ a.curtain.stageAlarm = true) :
    JudgedFailed .fault a (judgeDescent a) := by
  rw [judgeDescent_dwells lowering sound, if_pos dwell, dwellEnds_fails (s := dwelling a) floor barred]
  exact recordDemo_judgedFailed rfl rfl rfl rfl

theorem judged_raises (sound : descentFault a = none) (dwell : a.command.profile.demoDwell = 0) (floor : a.curtain.state = .atFloor)
    (free : a.curtain.flags.localControl = false) (phase : a.phase.phase ≠ .evacuating) (calm : a.curtain.stageAlarm = false) :
    judgeDescent a = demoRaises (changeCurtain (.moving .raising .demo) (stopDwell (dwelling a))) := by
  rw [judgeDescent_dwells lowering sound, if_pos dwell]
  exact dwellEnds_raises (s := dwelling a) floor free phase calm

/-- The four ways in which a judged descent ends (R161, R162). -/
theorem judged_cases (floor : a.curtain.state = .atFloor) : (∃ reason, JudgedFailed reason a (judgeDescent a)) ∨
    judgeDescent a = dwelling a ∨ judgeDescent a = demoRaises (changeCurtain (.moving .raising .demo) (stopDwell (dwelling a))) := by
  cases fault : descentFault a with
  | some reason => exact .inl ⟨reason, judged_fails lowering fault⟩
  | none =>
    by_cases dwell : a.command.profile.demoDwell = 0
    · by_cases barred : a.curtain.flags.localControl = true ∨ a.phase.phase = .evacuating ∨ a.curtain.stageAlarm = true
      · exact .inl ⟨_, judged_barred lowering fault dwell floor barred⟩
      · rw [not_or, not_or] at barred
        exact .inr (.inr (judged_raises lowering fault dwell floor (Bool.eq_false_iff.2 barred.1) barred.2.1 (Bool.eq_false_iff.2 barred.2.2)))
    · exact .inr (.inl (judged_dwells lowering fault dwell))

end Judged

theorem judgeDescent_atRest (floor : a.curtain.state = .atFloor) (rest : AtRest descent a.curtain) :
    AtRest descent (judgeDescent a).curtain := by
  by_cases lowering : a.phase.demoStatus = .lowering
  · obtain ⟨reason, failed⟩ | dwells | raises := judged_cases lowering floor
    · exact rest.of_undwelled failed.curtain
    · rw [dwells]
      exact rest.of_undwelled rfl
    · rw [raises, demoRaises_curtain, changeCurtain_curtain]
      exact ((rest.of_undwelled (d := (stopDwell (dwelling a)).curtain) rfl).raises _).of_undwelled rfl
  · rwa [judgeDescent_idle lowering]

end Sys2Proof.Machine
end

section
/-! SUPPORT. The arrival that C1's acceptance brings, as O16 states it. -/

namespace Sys2Proof.Machine

variable {s t u a : State} {l : Line} {c : Instr} {start : Time}

theorem AddsUpTo.gains_mem {n : Nat} {entries : List ReportEntry} {entry : ReportEntry} (h : AddsUpTo n s t) (k : Adds entries t u)
    (mem : entry ∈ entries) (room : roomFor (n + entries.length) s = true) : Machine.gains entry s u = true := by
  obtain ⟨first, few, adds⟩ := h
  exact (adds.trans k).gains (List.mem_append_right _ mem) (by
    rw [List.length_append]
    omega) room

/-- The arrival in a descent that began at `start`. -/
structure ArrivedFrom (start : Time) (s a : State) : Prop where
  arrived : Arrived (min 65535 (min (s.clock - start).toNat 2147483647)) s.curtain a.curtain
  record : a.phase.record = s.phase.record
  profile : a.command.profile = s.command.profile
  clock : a.clock = s.clock
  same : sameBut ([.lines] ++ ironParts) s a = true
  few : AddsUpTo 3 s a
  reports : roomFor 3 s = true → gains (entryNow s .curtain ([1, 1, byte (if s.curtain.state = .released then 7 else 3), 0] ++
    bytes2 (min 65535 (min (s.clock - start).toNat 2147483647)))) s a = true

theorem arrivedFrom (l : Line) (moves : s.curtain.state = .lowering ∨ s.curtain.state = .released)
    (started : s.curtain.descentStart = some start) : ArrivedFrom start s (arrive (floorLine l s)) := by
  have same := floorLine_same l s
  have curtain : (floorLine l s).curtain = s.curtain := sameBut_curtain same (by decide)
  have clock : (floorLine l s).clock = s.clock := sameBut_clock same (by decide)
  have profile : (floorLine l s).command.profile = s.command.profile := profile_of_sameBut same (by decide)
  have record : (floorLine l s).phase.record = s.phase.record := sameBut_record same (by decide)
  have few := floorLine_adds l s
  have begun : (floorLine l s).curtain.descentStart = some start := by rw [curtain, started]
  generalize floorLine l s = x at *
  have arrived := arrive_arrived begun
  have adds := arrive_adds begun
  have frame := arrive_frame x
  have time : descentTime x start = min 65535 (min (s.clock - start).toNat 2147483647) := by
    rw [descentTime, clock]
    rfl
  rw [time, curtain] at arrived
  have code : s.curtain.code = byte (if s.curtain.state = .released then 7 else 3) := by
    obtain state | state := moves <;> rw [Curtain.code, state] <;> rfl
  have arrival : arrivalEntry (descentTime x start) x = entryNow s .curtain
      ([1, 1, byte (if s.curtain.state = .released then 7 else 3), 0] ++ bytes2 (min 65535 (min (s.clock - start).toNat 2147483647))) := by
    rw [arrivalEntry, entryNow, clock, time, curtain, code]
    rfl
  have profile_ : (arrive x).command.profile = x.command.profile := profile_of_sameBut frame (by decide)
  have clock_ : (arrive x).clock = x.clock := sameBut_clock frame (by decide)
  refine ⟨arrived, (arrive_record x).trans record, profile_.trans profile, clock_.trans clock,
    sameBut_trans (sameBut_mono same (by decide)) (sameBut_mono frame (by decide)), few.trans adds.upTo, fun room => ?_⟩
  rw [← arrival]
  exact few.gains_mem adds (by simp) room

section Judged
variable {moment : Nat} (h : ArrivedFrom start s a) (lowering : s.phase.demoStatus = .lowering)
include h lowering

theorem ArrivedFrom.status : a.phase.demoStatus = .lowering := (demoStatus_of_record h.record).trans lowering

omit lowering in
theorem ArrivedFrom.fault : descentFault a =
    if s.curtain.sequence.posSeen = false then some .unverified
    else if s.curtain.sequence.first.isSome then s.curtain.sequence.first
    else if s.command.profile.descentLimit < min 65535 (min (s.clock - start).toNat 2147483647) then some .slow
    else none := by
  rw [descentFault, h.arrived.sequence, h.profile, h.arrived.lastDescent]

omit lowering in
/-- A judged descent that fails leaves its result. -/
theorem ArrivedFrom.failed {reason : DemoReason} (failed : JudgedFailed reason a t) :
    (t.phase.record = { s.phase.record with
        demoStatus := .failed reason, demoTime := min 65535 (min (s.clock - start).toNat 2147483647) } ∧
      t.curtain.state = .atFloor) ∧ isRaised .demoResult t = true ∧ t.curtain.sequence.dwellTimer = none ∧
      (roomFor 4 s = true → gains (entryNow s .demo ([5, byte reason.code] ++
        bytes2 (min 65535 (min (s.clock - start).toNat 2147483647)) ++ [s.curtain.sequence.markByte])) s t = true) := by
  have state : t.curtain.state = .atFloor := by
    rw [undwelled_eq failed.curtain]
    exact h.arrived.state
  have entry := failed.entry
  rw [entryNow, h.clock, h.arrived.lastDescent, h.arrived.sequence] at entry
  exact ⟨⟨by rw [failed.record, h.record, h.arrived.lastDescent], state⟩, failed.raised, failed.dwell,
    fun room => h.few.gains entry room⟩

end Judged

theorem answers_of_exec {holds : State → Prop} (row : exec c s = .next t) (h : holds t) : answers c s holds := ⟨t, row, h⟩

/-- C1's acceptance where no demonstration is in its descent. -/
theorem floor_plain (row : exec c s = .next (judgeDescent a)) (h : ArrivedFrom start s a) (other : s.phase.demoStatus ≠ .lowering) :
    answers c s fun t =>
      sameBut ([.lines] ++ ironParts) s t = true ∧ t.curtain.state = .atFloor ∧ t.curtain.mode = .normal ∧
      t.curtain.cause = none ∧ t.curtain.lastDescent = min 65535 (min (s.clock - start).toNat 2147483647) ∧
      t.curtain.descentStart = none ∧ t.curtain.k5 = false ∧ t.curtain.floorCheck = true ∧
      t.curtain.estimator.running = false ∧ (roomFor 3 s = true → gains (entryNow s .curtain ([1, 1,
        byte (if s.curtain.state = .released then 7 else 3), 0] ++ bytes2 (min 65535 (min (s.clock - start).toNat 2147483647)))) s t = true) := by
  have idle : judgeDescent a = a := judgeDescent_idle (by rwa [demoStatus_of_record h.record])
  rw [idle] at row
  have arrived := h.arrived
  exact answers_of_exec row ⟨h.same, arrived.state, arrived.mode, arrived.cause, arrived.lastDescent, arrived.start, arrived.relay,
    arrived.checked, arrived.stopped, h.reports⟩

end Sys2Proof.Machine
end

section
/-! SUPPORT. The stages of the estimator (R151 to R155), and a POS in a descent driven by the part (R156, R159). -/

namespace Sys2Proof.Machine

variable {s t u w : State} {start : Time}

/-! ## The stages -/

section Stages
variable (p : Profile) (position : Nat) (now start : Time) (e : Estimator)

/-- What stages 4 and 5 leave of a report. -/
theorem predict_keeps (minSpeed : Nat) : (predict minSpeed position e).speed = e.speed ∧
    (predict minSpeed position e).refPosition = e.refPosition ∧ (predict minSpeed position e).refTime = e.refTime ∧
    (predict minSpeed position e).late = e.late ∧ (predict minSpeed position e).lateAction = e.lateAction ∧
    (predict minSpeed position e).running = e.running := by
  unfold predict
  split
  · exact ⟨rfl, rfl, rfl, rfl, rfl, rfl⟩
  · split <;> exact ⟨rfl, rfl, rfl, rfl, rfl, rfl⟩

theorem predict_made (minSpeed : Nat) :
    (predict minSpeed position e).predicted =
      (if position = 0 then 0 else if e.speed ≤ minSpeed then 65535 else min 65535 (position * 16000 / e.speed.toNat)) ∧
    (predict minSpeed position e).noProgress = (decide (position ≠ 0) && decide (e.speed ≤ minSpeed)) := by
  unfold predict
  split
  · next zero => exact ⟨rfl, by simp [zero]⟩
  · next some_ =>
    split
    · next slow => exact ⟨rfl, by simp [some_, slow]⟩
    · next fast =>
      refine ⟨rfl, ?_⟩
      rw [decide_eq_false fast, Bool.and_false]

theorem judgeReport_keeps (elapsed : Nat) : (judgeReport p elapsed e).speed = e.speed ∧
    (judgeReport p elapsed e).refPosition = e.refPosition ∧ (judgeReport p elapsed e).refTime = e.refTime ∧
    (judgeReport p elapsed e).predicted = e.predicted ∧ (judgeReport p elapsed e).noProgress = e.noProgress ∧
    (judgeReport p elapsed e).running = e.running := by
  unfold judgeReport
  split
  · exact ⟨rfl, rfl, rfl, rfl, rfl, rfl⟩
  · split <;> exact ⟨rfl, rfl, rfl, rfl, rfl, rfl⟩

theorem judgeReport_made (elapsed : Nat) :
    (judgeReport p elapsed e).late = (if elapsed < p.startGrace then e.late
      else if p.descentLimit < elapsed + e.predicted then min 8 (e.late + 1) else 0) ∧
    (judgeReport p elapsed e).lateAction =
      (e.lateAction && !(decide (p.startGrace ≤ elapsed) && decide (elapsed + e.predicted ≤ p.descentLimit))) := by
  unfold judgeReport
  split
  · next early =>
    have grace : ¬ p.startGrace ≤ elapsed := by omega
    exact ⟨rfl, by simp [grace]⟩
  · split
    · next late =>
      have over_ : ¬ elapsed + e.predicted ≤ p.descentLimit := by omega
      exact ⟨rfl, by simp [over_]⟩
    · next early fast =>
      have grace : p.startGrace ≤ elapsed := by omega
      have within : elapsed + e.predicted ≤ p.descentLimit := by omega
      exact ⟨rfl, by simp [grace, within]⟩

end Stages

/-- The estimator after a report at the reading, stage by stage, with the speed of stage 3 (R151 to R155). -/
structure Estimates (p : Profile) (position elapsed : Nat) (rate : Int) (now : Time) (e d : Estimator) : Prop where
  refPosition : d.refPosition = some position
  refTime : d.refTime = some now
  speed : d.speed = rate
  predicted : d.predicted =
    if position = 0 then 0 else if rate ≤ p.minSpeed then 65535 else min 65535 (position * 16000 / rate.toNat)
  noProgress : d.noProgress = (decide (position ≠ 0) && decide (rate ≤ p.minSpeed))
  late : d.late = if elapsed < p.startGrace then e.late
    else if p.descentLimit < elapsed + d.predicted then min 8 (e.late + 1) else 0

theorem estimate_estimates (p : Profile) (position : Nat) (now start : Time) (e : Estimator) :
    Estimates p position (duration now start) (takeReference p position now e).speed now e (estimate p position now start e) ∧
      (estimate p position now start e).lateAction = (e.lateAction && !(decide (p.startGrace ≤ duration now start) &&
        decide (duration now start + (estimate p position now start e).predicted ≤ p.descentLimit))) ∧
      (estimate p position now start e).running = e.running := by
  have taken : (takeReference p position now e).refPosition = some position ∧ (takeReference p position now e).refTime = some now ∧
      (takeReference p position now e).late = e.late ∧ (takeReference p position now e).lateAction = e.lateAction ∧
      (takeReference p position now e).running = e.running := ⟨rfl, rfl, rfl, rfl, rfl⟩
  unfold estimate
  generalize takeReference p position now e = r at *
  obtain ⟨refPosition, refTime, late, action, running⟩ := taken
  have kept := predict_keeps position r p.minSpeed
  have made := predict_made position r p.minSpeed
  generalize predict p.minSpeed position r = q at *
  obtain ⟨speed, position_, time, late_, action_, running_⟩ := kept
  obtain ⟨predicted, progress⟩ := made
  have keeps := judgeReport_keeps p q (duration now start)
  have makes := judgeReport_made p q (duration now start)
  generalize judgeReport p (duration now start) q = d at *
  obtain ⟨speed', position', time', predicted', progress', running'⟩ := keeps
  obtain ⟨late', action'⟩ := makes
  refine ⟨⟨?_, ?_, ?_, ?_, ?_, ?_⟩, ?_, ?_⟩
  · rw [position', position_, refPosition]
  · rw [time', time, refTime]
  · rw [speed', speed]
  · rw [predicted', predicted]
  · rw [progress', progress]
  · rw [late', predicted', late_, late]
  · rw [action', predicted', action_, action]
  · rw [running', running_, running]

/-! ## The demonstration's checks (R159) -/

theorem houseIsDark_iff : houseIsDark s = true ↔ ∃ g < 8, s.command.profile.demoGroups.getLsbD g = true ∧
    demonstrationFigure s g < s.command.profile.houseMinimum := by
  simp [houseIsDark]

theorem demonstrationFigure_congr (lights : t.lights = s.lights) (g : Nat) : demonstrationFigure t g = demonstrationFigure s g := by
  simp only [demonstrationFigure, groupEntries, lights]

theorem houseIsDark_congr (lights : t.lights = s.lights) (profile : t.command.profile = s.command.profile) :
    houseIsDark t = houseIsDark s := by
  simp only [houseIsDark, demonstrationFigure_congr lights, profile]

/-- What the checks of a POS leave. -/
structure PosChecked (w t : State) : Prop where
  same : sameBut [.curtain] w t = true
  rest : t.curtain = { w.curtain with sequence := t.curtain.sequence }
  unwatched : demoWatches w = false → t = w
  seen : demoWatches w = true → t.curtain.sequence =
    { w.curtain.sequence with
      posSeen := true, houseDark := t.curtain.sequence.houseDark, first := t.curtain.sequence.first }
  marked : w.curtain.sequence.first.isSome = true → t.curtain.sequence.first.isSome = true
  dark : demoWatches w = true → houseIsDark w = true → t.curtain.sequence.houseDark = true ∧ t.curtain.sequence.first.isSome = true
  light : demoWatches w = true → houseIsDark w = false → t.curtain.sequence.houseDark = w.curtain.sequence.houseDark

/-- The demonstration has seen a POS. -/
def posSeen (s : State) : State := s.onCurtain fun c => { c with sequence := { c.sequence with posSeen := true } }

theorem demoChecks_checked (w : State) : PosChecked w (demoChecks w) := by
  have eq : demoChecks w = if demoWatches w then (if houseIsDark w then markDemo .houseDark (posSeen w) else posSeen w) else w := rfl
  cases watches : demoWatches w with
  | false =>
    rw [eq, watches, if_neg (by decide)]
    exact ⟨sameBut_refl _ w, rfl, fun _ => rfl, fun h => (by rw [watches] at h; nomatch h), id,
      fun h => (by rw [watches] at h; nomatch h), fun h => (by rw [watches] at h; nomatch h)⟩
  | true =>
    rw [eq, watches, if_pos rfl]
    cases dark : houseIsDark w with
    | false =>
      rw [if_neg (by decide)]
      exact ⟨onCurtain_frame _ _, rfl, fun h => (by rw [watches] at h; nomatch h), fun _ => rfl, id,
        fun _ h => (by rw [dark] at h; nomatch h), fun _ _ => rfl⟩
    | true =>
      rw [if_pos rfl]
      refine ⟨sameBut_trans (onCurtain_frame _ _) (onCurtain_frame _ _), rfl, fun h => (by rw [watches] at h; nomatch h), fun _ => ?_,
        fun _ => rfl, fun _ _ => ⟨?_, rfl⟩, fun _ h => (by rw [dark] at h; nomatch h)⟩
      · simp [markDemo, posSeen]
      · simp [markDemo]

end Sys2Proof.Machine
end

section
/-! SUPPORT. The late action of a POS in a descent (R156). -/

namespace Sys2Proof.Machine

variable {s t u w x : State} {start : Time}

theorem chain_lights {kinds : List Kind} (h : Chain kinds s t) (lights : .lights ∉ kinds) (k4 : .k4 ∉ kinds) : t.lights = s.lights :=
  h.keeps (P := fun u => u.lights = s.lights) (fun j hj s t step before => by
    cases step with
    | lights => exact absurd hj lights
    | k4 => exact absurd hj k4
    | _ => exact before) rfl

theorem report_lights (kind : ReportKind) (data : List Byte) (s : State) : (report kind data s).lights = s.lights :=
  chain_lights (report_chain (kinds := zoneKinds) (by decide) (by decide) kind data s) (by decide) (by decide)

/-- The late count acts (R156). -/
def lateActs (s : State) : Prop :=
  isLate s.command.profile (duration s.clock (s.curtain.descentStart.getD s.clock)) (estimated s).curtain.estimator = true ∧
    s.command.profile.latePersistence ≤ (estimated s).curtain.estimator.late ∧ ¬ (estimated s).curtain.estimator.lateAction = true

theorem estimatorReport_quiet (quiet : ¬ lateActs s) : estimatorReport s = estimated s := by
  rw [estimatorReport_eq]
  exact if_neg quiet

/-- The late action mark is set. -/
def lateMarked (s : State) : State := s.onCurtain fun c => { c with estimator := { c.estimator with lateAction := true } }

theorem estimatorReport_acts (acts : lateActs s) : estimatorReport s = lateMarked (lateAction (estimated s)) := by
  rw [estimatorReport_eq]
  exact if_pos acts

/-- What the report to the estimator leaves, whatever the late count makes of it. -/
structure Reported (s w : State) : Prop where
  estimator : ∃ action running, w.curtain.estimator =
    { (estimated s).curtain.estimator with lateAction := action, running := running }
  watches : demoWatches w = demoWatches s
  houseDark : w.curtain.sequence.houseDark = s.curtain.sequence.houseDark
  lights : demoWatches s = true → w.lights = s.lights
  profile : w.command.profile = s.command.profile

/-- The entry of the late action. -/
def lateEntry (s : State) : ReportEntry :=
  entryNow s .curtain ([4, s.curtain.code, s.curtain.code, byte s.curtain.mode.code] ++ bytes2 s.curtain.position)

theorem reportStanding_adds (s : State) : Adds [lateEntry s] s (reportStanding 4 s.curtain.position s) := .report _ _ s

theorem reportStanding_same (event : Byte) (value : Nat) (s : State) : sameBut [.report, .attention] s (reportStanding event value s) = true :=
  report_frame _ _ s

/-! ## No action, and the action outside an emergency -/

theorem reported_quiet : Reported s (estimated s) :=
  ⟨⟨_, _, rfl⟩, rfl, rfl, fun _ => rfl, rfl⟩

/-- What a release keeps of a descent whose estimator runs. -/
structure LateKept (x r : State) : Prop where
  stopped : r.curtain.state ≠ .lowering
  profile : r.command.profile = x.command.profile
  estimator : ∃ action running, r.curtain.estimator = { x.curtain.estimator with lateAction := action, running := running }
  houseDark : r.curtain.sequence.houseDark = x.curtain.sequence.houseDark

theorem LateKept.arrive (h : LateKept x t) : LateKept x (Machine.arrive t) := by
  have profile : (Machine.arrive t).command.profile = t.command.profile := profile_of_sameBut (arrive_frame t) (by decide)
  have curtain : (Machine.arrive t).curtain.state = .atFloor ∧
      (∃ action running, (Machine.arrive t).curtain.estimator = { t.curtain.estimator with lateAction := action, running := running }) ∧
      (Machine.arrive t).curtain.sequence = t.curtain.sequence := by
    simp only [Machine.arrive]
    split
    · rw [changeCurtain_curtain]
      exact ⟨rfl, ⟨_, _, rfl⟩, rfl⟩
    · rw [reportCurtain_curtain, changeCurtain_curtain]
      exact ⟨rfl, ⟨_, _, rfl⟩, rfl⟩
  obtain ⟨state, ⟨action, running, estimator⟩, sequence⟩ := curtain
  obtain ⟨before, was, eq⟩ := h.estimator
  refine ⟨by simp [state], profile.trans h.profile, ⟨action, running, ?_⟩, by rw [sequence, h.houseDark]⟩
  rw [estimator, eq]

/-- The release before its arrival. -/
theorem lateKept_freed (running : x.curtain.estimator.running = true) : LateKept x (failDemo .fault (enterReleased none x)) := by
  have estimator : (enterReleased none x).curtain.estimator =
      movedEstimator (releasing x).curtain (releaseMove none) ∧ (releasing x).curtain.estimator = x.curtain.estimator := by
    rw [enterReleased_eq, changeCurtain_curtain, releasing, if_pos running]
    exact ⟨rfl, rfl⟩
  have profile : (failDemo .fault (enterReleased none x)).command.profile = x.command.profile :=
    profile_of_sameBut (sameBut_trans (ironParts_le (enterReleased_frame none x)) (failDemo_frame .fault _)) (by decide)
  refine ⟨?_, profile, ?_, ?_⟩
  · refine failDemo_keeps (P := fun c => c.state ≠ .lowering) (fun _ => id) ?_
    rw [(enterReleased_curtain none x).1]
    decide
  · refine failDemo_keeps (P := fun c => ∃ action running, c.estimator =
      { x.curtain.estimator with lateAction := action, running := running }) (fun _ => id) ?_
    rw [estimator.1, movedEstimator, estimator.2]
    exact ⟨_, _, rfl⟩
  · refine failDemo_keeps (P := fun c => c.sequence.houseDark = x.curtain.sequence.houseDark) (fun _ => id) ?_
    rw [(enterReleased_keeps none x).1]

theorem release_lateKept (running : x.curtain.estimator.running = true) : LateKept x (release none x) := by
  unfold release
  dsimp only
  split
  · exact (lateKept_freed running).arrive
  · exact lateKept_freed running

/-- A release adds no more than its change and a demonstration's result, where C1 does not read ACTIVE. -/
theorem release_few (reading : lineReading x 1 ≠ .active) : AddsUpTo 2 x (release none x) := by
  have few : AddsUpTo 1 (enterReleased none x) (failDemo .fault (enterReleased none x)) := by
    have adds := failDemo_adds .fault (enterReleased none x)
    split at adds
    · exact adds.upTo
    · exact adds.upTo.mono (by simp)
  rw [release_open reading]
  exact (enterReleased_adds none x).trans few

section Late
variable (acts : lateActs s) (lowering : s.curtain.state = .lowering)
include acts lowering

section Plain
variable (plain : s.curtain.mode ≠ .emergency)
include plain

theorem late_plain : estimatorReport s = lateMarked (if demoWatches s then markDemo .slow (reportStanding 4 s.curtain.position (estimated s))
    else setAttention .curtainFault (reportStanding 4 s.curtain.position (estimated s))) := by
  have held : ¬ ((estimated s).curtain.state = .lowering ∧ (estimated s).curtain.mode = .emergency) := fun h => plain h.2
  have moving : ¬ (estimated s).curtain.state = .released := fun h => by
    have := lowering.symm.trans h
    nomatch this
  rw [estimatorReport_acts acts, lateAction, if_neg held, if_neg moving]
  rfl

/-- What the late action leaves outside an emergency descent. -/
theorem late_plain_facts : Reported s (estimatorReport s) ∧ (estimatorReport s).curtain.state = .lowering ∧
    (estimatorReport s).curtain.estimator.lateAction = true ∧ Adds [lateEntry s] s (estimatorReport s) ∧
    (demoWatches s = true → (estimatorReport s).curtain.sequence.slow = true ∧
      (estimatorReport s).curtain.sequence.first.isSome = true ∧
      isRaised .curtainFault (estimatorReport s) = isRaised .curtainFault s) ∧
    (demoWatches s = false → isRaised .curtainFault (estimatorReport s) = true ∧
      (estimatorReport s).curtain.sequence = s.curtain.sequence) := by
  have same := reportStanding_same 4 s.curtain.position (estimated s)
  have curtain : (reportStanding 4 s.curtain.position (estimated s)).curtain = (estimated s).curtain := reportStanding_curtain _ _ _
  have entry : Adds [lateEntry s] s (reportStanding 4 s.curtain.position (estimated s)) := (reportStanding_adds (estimated s)).from rfl
  have lights : (reportStanding 4 s.curtain.position (estimated s)).lights = s.lights := report_lights _ _ _
  have profile : (reportStanding 4 s.curtain.position (estimated s)).command.profile = s.command.profile :=
    (profile_of_sameBut same (by decide)).trans rfl
  have flag : isRaised .curtainFault (reportStanding 4 s.curtain.position (estimated s)) = isRaised .curtainFault s :=
    isRaised_report (by decide) _ _ _
  have status : (reportStanding 4 s.curtain.position (estimated s)).phase.demoStatus = s.phase.demoStatus :=
    demoStatus_of_record ((sameBut_record same (by decide)).trans rfl)
  have state : (estimated s).curtain.state = .lowering := lowering
  rw [late_plain acts lowering plain]
  generalize reportStanding 4 s.curtain.position (estimated s) = r at *
  have watched (t : State) (st : t.curtain.state = r.curtain.state) (mode : t.curtain.mode = r.curtain.mode)
      (sameStatus : t.phase.demoStatus = r.phase.demoStatus) : demoWatches t = demoWatches s := by
    simp only [demoWatches, st, mode, sameStatus, curtain, status]
    rfl
  split
  · next watches =>
    refine ⟨⟨⟨true, _, by rw [← curtain]; rfl⟩, watched _ rfl rfl rfl, ?_, fun _ => lights, profile⟩, ?_, rfl, entry.to rfl,
      fun _ => ⟨?_, rfl, flag⟩, fun h => absurd (h.symm.trans watches) (by decide)⟩
    · change (r.curtain.sequence.houseDark || _) = _
      rw [curtain]
      exact Bool.or_false _
    · change r.curtain.state = _
      rw [curtain, state]
    · change (r.curtain.sequence.slow || _) = _
      exact Bool.or_true _
  · next watches =>
    refine ⟨⟨⟨true, _, by rw [← curtain]; rfl⟩, watched _ rfl rfl rfl, ?_, fun _ => lights, profile⟩, ?_, rfl, entry.to rfl,
      fun h => absurd h watches, fun _ => ⟨?_, ?_⟩⟩
    · change r.curtain.sequence.houseDark = _
      rw [curtain]
      rfl
    · change r.curtain.state = _
      rw [curtain, state]
    · exact isRaised_set .curtainFault r
    · change r.curtain.sequence = _
      rw [curtain]
      rfl

end Plain
section Emergency
variable (emergency : s.curtain.mode = .emergency)
include emergency

theorem late_emergency : estimatorReport s = lateMarked (reportStanding 4 s.curtain.position (release none (estimated s))) := by
  rw [estimatorReport_acts acts, lateAction, if_pos ⟨lowering, emergency⟩]
  rfl

theorem late_emergency_reported (running : (estimated s).curtain.estimator.running = true) : Reported s (estimatorReport s) := by
  have kept := release_lateKept running
  have unwatched : demoWatches s = false := decide_eq_false (by simp [emergency])
  rw [late_emergency acts lowering emergency]
  generalize release none (estimated s) = r at *
  have same := reportStanding_same 4 s.curtain.position r
  have curtain : (reportStanding 4 s.curtain.position r).curtain = r.curtain := reportStanding_curtain _ _ _
  have profile : (reportStanding 4 s.curtain.position r).command.profile = r.command.profile := profile_of_sameBut same (by decide)
  generalize reportStanding 4 s.curtain.position r = q at *
  refine ⟨?_, ?_, ?_, fun h => ?_, profile.trans kept.profile⟩
  · obtain ⟨action, running, eq⟩ := kept.estimator
    exact ⟨true, running, by rw [lateMarked, State.onCurtain_curtain, curtain, eq]⟩
  · rw [unwatched]
    refine decide_eq_false fun h => kept.stopped ?_
    rw [← curtain]
    exact h.2.1
  · change q.curtain.sequence.houseDark = _
    rw [curtain, kept.houseDark]
    rfl
  · rw [unwatched] at h
    nomatch h

/-- The late action in an emergency descent releases the iron. -/
theorem late_emergency_facts (reading : lineReading s 1 ≠ .active) : (estimatorReport s).curtain.state = .released ∧
    (estimatorReport s).curtain.k5 = true ∧ isRaised .curtainFault (estimatorReport s) = true ∧
    (estimatorReport s).curtain.estimator.lateAction = true ∧
    (roomFor 3 s = true → gains (entryNow s .curtain ([4, 7, 7, 2] ++ bytes2 s.curtain.position)) s (estimatorReport s) = true) := by
  obtain ⟨state, mode, -, relay, -⟩ := release_released (s := estimated s) (cause := none) reading
  have raised := isRaised_release (s := estimated s) (cause := none) reading
  have frame := release_frame none (estimated s)
  have heard := congrArg Prod.fst (release_heard none (estimated s))
  obtain ⟨entries, few, adds⟩ := release_few (x := estimated s) reading
  have clock : (estimated s).clock = s.clock := rfl
  have position : (estimated s).curtain.heard.1 = s.curtain.position := rfl
  have report : (estimated s).phase.report = s.phase.report := rfl
  rw [late_emergency acts lowering emergency]
  generalize release none (estimated s) = r at *
  generalize estimated s = x at *
  have curtain : (reportStanding 4 s.curtain.position r).curtain = r.curtain := reportStanding_curtain _ _ _
  have entry := reportStanding_adds r
  have flag : isRaised .curtainFault (reportStanding 4 s.curtain.position r) = isRaised .curtainFault r :=
    isRaised_report (by decide) _ _ _
  have there : r.curtain.position = s.curtain.position := heard.trans position
  have now_ : r.clock = x.clock := sameBut_clock frame (by decide)
  have code : lateEntry r = entryNow s .curtain ([4, 7, 7, 2] ++ bytes2 s.curtain.position) := by
    rw [lateEntry, entryNow, now_, clock, Curtain.code, state, mode, there]
    rfl
  rw [there, code] at entry
  generalize reportStanding 4 s.curtain.position r = q at *
  refine ⟨?_, ?_, flag.trans raised, rfl, fun room => ?_⟩
  · change q.curtain.state = _
    rw [curtain, state]
  · change q.curtain.k5 = _
    rw [curtain, relay]
  · exact AddsUpTo.gains (n := 2) ⟨entries, few, adds.from report⟩ (entry.to rfl) room

end Emergency
end Late

end Sys2Proof.Machine
end

section
/-! SUPPORT. The obligation O16: a POS in a descent, and the arrival. -/

namespace Sys2Proof.Machine

variable {s t u w x : State} {start : Time} {hi lo flags : Byte} {rest : List Byte}

/-- In a descent that the part drives a POS without flags feeds the estimator, and the demonstration checks it. -/
theorem takePos_descends (sound : flags.getLsbD 2 = false) (free : flags.getLsbD 3 = false) (was : s.curtain.flags.localControl = false)
    (derived : s.curtain.rederive = false) (checked : s.curtain.floorCheck = false) (lowering : s.curtain.state = .lowering)
    (started : s.curtain.descentStart = some start) :
    takePos (hi :: lo :: flags :: rest) s = demoChecks (estimatorReport (heardPos hi lo flags s)) := by
  have known : (heardPos hi lo flags s).curtain.state ≠ .unknown := by
    change s.curtain.state ≠ .unknown
    simp [lowering]
  rw [takePos_eq, driveFault_quiet sound, was, applyLocalFlag_quiet (s := heardPos hi lo flags s) free,
    applyDerivation_quiet known derived, applyFloorCheck_quiet (s := heardPos hi lo flags s) checked]
  refine if_pos (.inr ⟨lowering, ?_⟩)
  change s.curtain.descentStart.isSome = true
  rw [started]
  rfl

/-- What the POS records in a descent. -/
structure PosHeard (hi lo : Byte) (s x : State) : Prop where
  same : sameBut [.curtain] s x = true
  curtain : ∃ drive, x.curtain = { s.curtain with
    position := number2 hi lo, reportTime := some s.clock, stale := false, emergencyTimer := none
    staleTimer := some { start := s.clock, length := s.command.profile.positionStale }, flags := drive }
  clock : x.clock = s.clock
  lines : x.lines = s.lines
  profile : x.command.profile = s.command.profile
  phase : x.phase = s.phase
  lights : x.lights = s.lights
  attention : x.command.attention = s.command.attention

theorem posHeard (lowering : s.curtain.state = .lowering) : PosHeard hi lo s (heardPos hi lo flags s) := by
  rw [heardPos_eq]
  refine ⟨onCurtain_frame _ _, ⟨DriveFlags.ofByte flags, ?_⟩, rfl, rfl, rfl, rfl, rfl, rfl⟩
  rw [State.onCurtain_curtain, recordedPos, if_pos (.inl lowering)]

theorem flag_bits (clear : flags.toNat % 16 / 4 = 0) : flags.getLsbD 2 = false ∧ flags.getLsbD 3 = false := by
  constructor <;> rw [BitVec.getLsbD, Nat.testBit_eq_decide_div_mod_eq] <;> simp <;> omega

theorem reported (lowering : x.curtain.state = .lowering) (running : (estimated x).curtain.estimator.running = true) :
    Reported x (estimatorReport x) := by
  by_cases acts : lateActs x
  · by_cases emergency : x.curtain.mode = .emergency
    · exact late_emergency_reported acts lowering emergency running
    · exact (late_plain_facts acts lowering emergency).1
  · rw [estimatorReport_quiet acts]
    exact reported_quiet

/-- What the report makes of the estimator stays through the late action and the checks. -/
theorem Reported.fed {p : Profile} {position elapsed : Nat} {rate : Int} {now : Time} {e : Estimator}
    (estimates : Estimates p position elapsed rate now e (estimated x).curtain.estimator) (reports : Reported x (estimatorReport x)) :
    Estimates p position elapsed rate now e (demoChecks (estimatorReport x)).curtain.estimator := by
  obtain ⟨action, running, eq⟩ := reports.estimator
  have kept : (demoChecks (estimatorReport x)).curtain.estimator = (estimatorReport x).curtain.estimator := by
    rw [(demoChecks_checked (estimatorReport x)).rest]
  rw [kept, eq]
  exact ⟨estimates.refPosition, estimates.refTime, estimates.speed, estimates.predicted, estimates.noProgress, estimates.late⟩

section Descent
variable (heard : PosHeard hi lo s x) (lowering : s.curtain.state = .lowering) (started : s.curtain.descentStart = some start)
include heard

theorem PosHeard.state : x.curtain.state = s.curtain.state := by
  obtain ⟨drive, eq⟩ := heard.curtain
  rw [eq]

theorem PosHeard.mode : x.curtain.mode = s.curtain.mode := by
  obtain ⟨drive, eq⟩ := heard.curtain
  rw [eq]

theorem PosHeard.position : x.curtain.position = number2 hi lo := by
  obtain ⟨drive, eq⟩ := heard.curtain
  rw [eq]

theorem PosHeard.sequence : x.curtain.sequence = s.curtain.sequence := by
  obtain ⟨drive, eq⟩ := heard.curtain
  rw [eq]

theorem PosHeard.reading (line : Nat) : lineReading x line = lineReading s line := lineReading_of_lines heard.lines line

include started in
theorem PosHeard.estimator : (estimated x).curtain.estimator =
    estimate s.command.profile (number2 hi lo) s.clock start s.curtain.estimator := by
  obtain ⟨drive, eq⟩ := heard.curtain
  rw [estimated, State.onCurtain_curtain, heard.profile, heard.clock, eq, started]
  rfl

include lowering in
theorem PosHeard.watches : demoWatches x = true ↔ s.phase.demoStatus = .lowering ∧ s.curtain.mode = .demo := by
  rw [demoWatches, decide_eq_true_eq, heard.phase, heard.state, heard.mode]
  simp [lowering]

theorem PosHeard.raised (flag : Flag) : isRaised flag x = isRaised flag s := by rw [isRaised, isRaised, heard.attention]

include started in
/-- The late count acts by the report's elapsed time and prediction (R155, R156). -/
theorem PosHeard.acts {elapsed : Nat} (time : duration s.clock start = elapsed) : lateActs x ↔
    (s.command.profile.startGrace ≤ elapsed ∧
      s.command.profile.descentLimit < elapsed + (estimated x).curtain.estimator.predicted) ∧
    s.command.profile.latePersistence ≤ (estimated x).curtain.estimator.late ∧ s.curtain.estimator.lateAction = false := by
  have begun : x.curtain.descentStart.getD x.clock = start := by
    obtain ⟨drive, eq⟩ := heard.curtain
    rw [eq]
    exact congrArg (fun o => Option.getD o x.clock) started
  obtain ⟨-, action, -⟩ := estimate_estimates s.command.profile (number2 hi lo) s.clock start s.curtain.estimator
  rw [← heard.estimator started, time] at action
  rw [lateActs, begun, heard.profile, heard.clock, isLate, time, decide_eq_true_eq, action]
  refine and_congr_right fun late => and_congr_right fun _ => ?_
  have over_ : ¬ elapsed + (estimated x).curtain.estimator.predicted ≤ s.command.profile.descentLimit := by omega
  rw [decide_eq_false over_, Bool.and_false, Bool.not_false, Bool.and_true, Bool.not_eq_true]

/-- The sequence that the checks of a watching demonstration leave, and that of no demonstration. -/
theorem PosHeard.quiet (lowering : s.curtain.state = .lowering) (quiet : ¬ lateActs x) :
    sameBut [.curtain] s (demoChecks (estimatorReport x)) = true ∧
      (demoChecks (estimatorReport x)).curtain.state = .lowering ∧
      (demoChecks (estimatorReport x)).curtain.mode = s.curtain.mode ∧
      (demoChecks (estimatorReport x)).curtain.emergencyTimer = none ∧
      (demoChecks (estimatorReport x)).curtain.descentStart = s.curtain.descentStart ∧
      (demoChecks (estimatorReport x)).curtain.staleTimer = some { start := s.clock, length := s.command.profile.positionStale } ∧
      (demoChecks (estimatorReport x)).curtain.estimator.lateAction = (estimated x).curtain.estimator.lateAction ∧
      (demoWatches x = true → (demoChecks (estimatorReport x)).curtain.sequence = { s.curtain.sequence with
        posSeen := true
        houseDark := (demoChecks (estimatorReport x)).curtain.sequence.houseDark
        first := (demoChecks (estimatorReport x)).curtain.sequence.first }) ∧
      (demoWatches x = false → (demoChecks (estimatorReport x)).curtain.sequence = s.curtain.sequence) := by
  rw [estimatorReport_quiet quiet]
  obtain ⟨same, rest, unwatched, seen, -, -, -⟩ := demoChecks_checked (estimated x)
  obtain ⟨drive, eq⟩ := heard.curtain
  have sequence := heard.sequence
  have watching : demoWatches (estimated x) = demoWatches x := rfl
  have fields : (demoChecks (estimated x)).curtain.state = x.curtain.state ∧ (demoChecks (estimated x)).curtain.mode = x.curtain.mode ∧
      (demoChecks (estimated x)).curtain.emergencyTimer = x.curtain.emergencyTimer ∧
      (demoChecks (estimated x)).curtain.descentStart = x.curtain.descentStart ∧
      (demoChecks (estimated x)).curtain.staleTimer = x.curtain.staleTimer ∧
      (demoChecks (estimated x)).curtain.estimator = (estimated x).curtain.estimator := by
    rw [rest]
    exact ⟨rfl, rfl, rfl, rfl, rfl, rfl⟩
  have before : (estimated x).curtain.sequence = s.curtain.sequence := sequence
  obtain ⟨state, mode, emergency, descent, stale, estimator⟩ := fields
  refine ⟨sameBut_trans heard.same (sameBut_trans (onCurtain_frame _ _) same), ?_, ?_, ?_, ?_, ?_, ?_, fun h => ?_, fun h => ?_⟩
  · rw [state, heard.state, lowering]
  · rw [mode, heard.mode]
  · rw [emergency, eq]
  · rw [descent, eq]
  · rw [stale, eq]
  · rw [estimator]
  · have seq := seen (watching.trans h)
    rwa [before] at seq
  · rw [unwatched (watching.trans h), before]

end Descent

end Sys2Proof.Machine
end

section
/-! SUPPORT. The obligation O16. -/

namespace Sys2Proof.Machine

variable {s t u w x a : State} {start : Time} {hi lo flags : Byte} {rest : List Byte} {l : Line} {c : Instr}

/-! ## The arrival of a demonstration's descent -/

section Judged
variable (h : ArrivedFrom start s a) (lowering : s.phase.demoStatus = .lowering)
include h

/-- What every judgement of the arrival leaves, whatever it decides. -/
theorem ArrivedFrom.judged : sameBut ([.lines] ++ curtainParts) s (judgeDescent a) = true ∧
    AtRest (min 65535 (min (s.clock - start).toNat 2147483647)) (judgeDescent a).curtain ∧
    (roomFor 3 s = true → gains (entryNow s .curtain ([1, 1, byte (if s.curtain.state = .released then 7 else 3), 0] ++
      bytes2 (min 65535 (min (s.clock - start).toNat 2147483647)))) s (judgeDescent a) = true) :=
  ⟨sameBut_trans (sameBut_mono h.same (by decide)) (sameBut_mono (judgeDescent_frame a) (by decide)),
    judgeDescent_atRest h.arrived.state h.arrived.atRest,
    fun room => gains_later (h.reports room) (calm_usual (judgeDescent_chain a)) rfl⟩

include lowering

/-- A descent with a fault is FAILED by it (R161). -/
theorem ArrivedFrom.fails {reason : DemoReason} (fault : descentFault a = some reason) :
    (((judgeDescent a).phase.record = { s.phase.record with
        demoStatus := .failed reason, demoTime := min 65535 (min (s.clock - start).toNat 2147483647) } ∧
      (judgeDescent a).curtain.state = .atFloor) ∧ isRaised .demoResult (judgeDescent a) = true ∧
      (judgeDescent a).curtain.sequence.dwellTimer = none ∧
      (roomFor 4 s = true → gains (entryNow s .demo ([5, byte reason.code] ++
        bytes2 (min 65535 (min (s.clock - start).toNat 2147483647)) ++ [s.curtain.sequence.markByte])) s (judgeDescent a) = true)) :=
  h.failed (judged_fails (h.status lowering) fault)

theorem ArrivedFrom.dwells (sound : descentFault a = none) (dwell : 1 ≤ s.command.profile.demoDwell) :
    ((judgeDescent a).phase.record = { s.phase.record with
        demoStatus := .dwell, demoTime := min 65535 (min (s.clock - start).toNat 2147483647) } ∧
      (judgeDescent a).curtain.state = .atFloor) ∧
    (judgeDescent a).curtain.sequence = { s.curtain.sequence with
      dwellTimer := some { start := s.clock, length := s.command.profile.demoDwell * 1000 } } := by
  have some_ : a.command.profile.demoDwell ≠ 0 := by
    rw [h.profile]
    omega
  rw [judged_dwells (h.status lowering) sound some_]
  refine ⟨⟨?_, h.arrived.state⟩, ?_⟩
  · change { a.phase.record with demoStatus := .dwell, demoTime := a.curtain.lastDescent } = _
    rw [h.record, h.arrived.lastDescent]
  · change { a.curtain.sequence with dwellTimer := some { start := a.clock, length := a.command.profile.demoDwell * 1000 } } = _
    rw [h.arrived.sequence, h.clock, h.profile]

/-- The raise at the end of a dwell of 0 (R162). -/
theorem ArrivedFrom.raises (sound : descentFault a = none) (dwell : s.command.profile.demoDwell = 0)
    (free : s.curtain.flags.localControl = false) (phase : s.phase.phase ≠ .evacuating) (calm : s.curtain.stageAlarm = false) :
    ((judgeDescent a).phase.record = { s.phase.record with
        demoStatus := .raising, demoTime := min 65535 (min (s.clock - start).toNat 2147483647) } ∧
      (judgeDescent a).curtain.state = .raising) ∧ (judgeDescent a).curtain.mode = .demo ∧
    (judgeDescent a).curtain.sequence.dwellTimer = none := by
  have none_ : a.command.profile.demoDwell = 0 := by rw [h.profile, dwell]
  have free_ : a.curtain.flags.localControl = false := by rw [h.arrived.flags, free]
  have phase_ : a.phase.phase ≠ .evacuating := by rwa [phase_of_record h.record]
  have calm_ : a.curtain.stageAlarm = false := by rw [h.arrived.alarm, calm]
  rw [judged_raises (h.status lowering) sound none_ h.arrived.state free_ phase_ calm_]
  refine ⟨⟨?_, ?_⟩, ?_, ?_⟩
  · rw [demoRaises_record, changeCurtain_record]
    change { a.phase.record with demoStatus := .raising, demoTime := a.curtain.lastDescent } = _
    rw [h.record, h.arrived.lastDescent]
  all_goals
    rw [demoRaises_curtain, changeCurtain_curtain]
    rfl

/-- A raise that is refused at the end of a dwell of 0 (R162). -/
theorem ArrivedFrom.barred (sound : descentFault a = none) (dwell : s.command.profile.demoDwell = 0)
    (held : ¬ (s.curtain.flags.localControl = false ∧ s.phase.phase ≠ .evacuating ∧ s.curtain.stageAlarm = false)) :
    JudgedFailed .fault a (judgeDescent a) := by
  have none_ : a.command.profile.demoDwell = 0 := by rw [h.profile, dwell]
  refine judged_barred (h.status lowering) sound none_ h.arrived.state ?_
  rw [h.arrived.flags, h.arrived.alarm, phase_of_record h.record]
  rw [not_and_or, not_and_or, Bool.not_eq_false, not_not, Bool.not_eq_false] at held
  exact held

end Judged

/-! ## A POS in a descent -/

section Checked
variable (h : PosChecked w t)
include h

theorem PosChecked.state : t.curtain.state = w.curtain.state := by rw [h.rest]

theorem PosChecked.relay : t.curtain.k5 = w.curtain.k5 := by rw [h.rest]

theorem PosChecked.estimator : t.curtain.estimator = w.curtain.estimator := by rw [h.rest]

theorem PosChecked.raised {flag : Flag} : isRaised flag t = isRaised flag w := isRaised_of_sameBut h.same (by decide)

theorem PosChecked.report : t.phase.report = w.phase.report := sameBut_report h.same (by decide)

end Checked

theorem PosHeard.lateEntry (heard : PosHeard hi lo s x) (lowering : s.curtain.state = .lowering) :
    Machine.lateEntry x = entryNow s .curtain ([4, 3, 3, byte s.curtain.mode.code] ++ bytes2 (number2 hi lo)) := by
  have state := heard.state.trans lowering
  rw [Machine.lateEntry, entryNow, heard.clock, Curtain.code, state, heard.mode, heard.position]
  rfl

theorem roomFor_congr {n : Nat} (same : t.phase.report = s.phase.report) : roomFor n t = roomFor n s := by rw [roomFor, roomFor, same]

theorem gains_congr {entry : ReportEntry} (before : t.phase.report = s.phase.report) (after : w.phase.report = u.phase.report) :
    Machine.gains entry s w = Machine.gains entry t u := by rw [Machine.gains, Machine.gains, before, after]

/-- The estimator after a POS in a descent. -/
theorem PosHeard.estimates (heard : PosHeard hi lo s x) (started : s.curtain.descentStart = some start) :
    Estimates s.command.profile (number2 hi lo) (duration s.clock start)
      (takeReference s.command.profile (number2 hi lo) s.clock s.curtain.estimator).speed s.clock s.curtain.estimator
      (estimated x).curtain.estimator ∧
    (estimated x).curtain.estimator.lateAction = (s.curtain.estimator.lateAction &&
      !(decide (s.command.profile.startGrace ≤ duration s.clock start) && decide (duration s.clock start +
        (estimated x).curtain.estimator.predicted ≤ s.command.profile.descentLimit))) ∧
    (estimated x).curtain.estimator.running = s.curtain.estimator.running := by
  rw [heard.estimator started]
  exact estimate_estimates s.command.profile (number2 hi lo) s.clock start s.curtain.estimator

/-- Settles O16: a POS in a descent by the stages of the estimator and the late action, the arrival by its judgement. -/
theorem floorArrivalMeasuresDescent : Obligations.FloorArrivalMeasuresDescent := by
  refine ⟨fun f c s hi lo flags rest start passing pos source payload clear was derived checked lowering started running => ?_,
    fun s l start powered line fresh enough reading moves started c row => ⟨fun other room => ?_, fun status => ?_⟩⟩
  · intro p e position elapsed speed predicted isLate_ late acts watched dark
    obtain ⟨sound, free⟩ := flag_bits clear
    have heard : PosHeard hi lo (huntWith 0 s) (heardPos hi lo flags (huntWith 0 s)) := posHeard lowering
    refine passes_of passing ?_
    have taken : handToOwner f (huntWith 0 s) = takePos (hi :: lo :: flags :: rest) (huntWith 0 s) :=
      handToOwner_driven (s := huntWith 0 s) pos payload source
    obtain ⟨frame, there, time, -, stale⟩ := takePos_becomes hi lo flags rest (huntWith 0 s)
    have descends := takePos_descends (s := huntWith 0 s) (hi := hi) (lo := lo) (rest := rest) sound free was derived checked lowering started
    rw [taken]
    rw [descends] at frame there time stale ⊢
    obtain ⟨estimates, action, runs⟩ := heard.estimates started
    have reports := reported (heard.state.trans lowering) (runs.trans running)
    have actsIff := heard.acts started (elapsed := elapsed) rfl
    have fed : Estimates p position elapsed speed s.clock e _ := Reported.fed estimates reports
    have watchesIff := heard.watches lowering
    have darkIff : houseIsDark (huntWith 0 s) = true ↔ dark := houseIsDark_iff
    have check := demoChecks_checked (estimatorReport (heardPos hi lo flags (huntWith 0 s)))
    have quiet := heard.quiet lowering
    have predictedIs : (estimated (heardPos hi lo flags (huntWith 0 s))).curtain.estimator.predicted = predicted := estimates.predicted
    have lateIs : (estimated (heardPos hi lo flags (huntWith 0 s))).curtain.estimator.late = late := by
      rw [estimates.late, predictedIs]
      rfl
    have houseIs (watches : watched) : houseIsDark (estimatorReport (heardPos hi lo flags (huntWith 0 s))) = true ↔ dark := by
      rw [← darkIff, houseIsDark_congr ((reports.lights (watchesIff.2 watches)).trans heard.lights) (reports.profile.trans heard.profile)]
    have stay := heard.curtain
    generalize heardPos hi lo flags (huntWith 0 s) = x at *
    rw [predictedIs] at action
    have acting : lateActs x ↔ acts := by
      rw [actsIff, predictedIs, lateIs]
      rfl
    refine ⟨frame, there, time, stale, fed.refPosition, fed.refTime, fed.speed, fed.predicted, fed.noProgress, ?_, ?_, ?_, ?_, ?_, ?_, ?_⟩
    · rw [fed.late, fed.predicted]
    · intro idle
      obtain ⟨same, state, mode, emergency, began, timer, mark, seen, unseen⟩ := quiet (acting.not.2 idle)
      refine ⟨same, state, mode, emergency, began.trans started, timer, mark.trans action, ?_⟩
      split
      · next watches => exact seen (watchesIff.2 watches)
      · next unwatched => exact unseen (Bool.eq_false_iff.2 (watchesIff.not.2 unwatched))
    · intro watches
      rw [check.seen (reports.watches.trans (watchesIff.2 watches))]
    · exact fun watches dark => check.dark (reports.watches.trans (watchesIff.2 watches)) ((houseIs watches).2 dark)
    · intro watches light
      rw [check.light (reports.watches.trans (watchesIff.2 watches)) (Bool.eq_false_iff.2 ((houseIs watches).not.2 light)), reports.houseDark,
        heard.sequence]
      rfl
    · intro late plain
      obtain ⟨-, state, mark, entry, slow, fault⟩ := late_plain_facts (acting.2 late) (heard.state.trans lowering)
        (heard.mode.symm ▸ plain)
      refine ⟨check.state.trans state, check.estimator ▸ mark, fun _ => ?_, fun watches => ?_, fun unwatched => ?_⟩
      · rw [heard.lateEntry lowering] at entry
        exact ((entry.from (congrArg PhaseUnit.report heard.phase)).to check.report).one ‹_›
      · obtain ⟨slow, first, flag⟩ := slow (watchesIff.2 watches)
        refine ⟨?_, check.marked first, check.raised.trans (flag.trans (heard.raised _))⟩
        rw [check.seen (reports.watches.trans (watchesIff.2 watches))]
        exact slow
      · have unwatched := Bool.eq_false_iff.2 (watchesIff.not.2 unwatched)
        obtain ⟨raised, same⟩ := fault unwatched
        rw [check.unwatched (reports.watches.trans unwatched)]
        exact ⟨raised, same.trans heard.sequence⟩
    · intro late emergency reading
      obtain ⟨state, relay, raised, mark, entry⟩ := late_emergency_facts (acting.2 late) (heard.state.trans lowering)
        (heard.mode.trans emergency) (fun active => reading ((heard.reading 1).symm.trans active))
      refine ⟨check.state.trans state, check.relay.trans relay, check.raised.trans raised, check.estimator ▸ mark, fun room => ?_⟩
      have gained := entry ((roomFor_congr (congrArg PhaseUnit.report heard.phase)).trans room)
      rw [entryNow, heard.clock, heard.position] at gained
      exact (gains_congr (congrArg PhaseUnit.report heard.phase) check.report).trans gained
  · obtain ⟨t, row, same, state, mode, cause, last, began, relay, checked, stopped, reports⟩ :=
      floor_plain (floor_accepted powered line fresh enough reading moves row) (arrivedFrom l moves started) other
    exact answers_of_exec row ⟨same, state, mode, cause, last, began, relay, checked, stopped, reports room⟩
  · have h := arrivedFrom l moves started
    refine answers_of_exec (floor_accepted powered line fresh enough reading moves row) ?_
    generalize arrive (floorLine l s) = a at *
    obtain ⟨same, rests, reports⟩ := h.judged
    have fault := h.fault
    refine ⟨same, rests.lastDescent, rests.start, rests.relay, rests.checked, rests.stopped, reports, fun unseen => ?_, fun seen => ?_⟩
    · rw [if_pos unseen] at fault
      exact h.fails status fault
    · rw [if_neg (by simp [seen])] at fault
      refine ⟨fun mark first => ?_, fun first slow => ?_, fun first within => ?_⟩
      · rw [first, Option.isSome_some, if_pos rfl] at fault
        exact h.fails status fault
      · rw [first, Option.isSome_none, if_neg (by decide), if_pos slow] at fault
        exact h.fails status fault
      · rw [first, Option.isSome_none, if_neg (by decide), if_neg (by omega)] at fault
        exact ⟨h.dwells status fault, fun dwell ⟨free, phase, calm⟩ => h.raises status fault dwell free phase calm,
          fun dwell held => h.failed (h.barred status fault dwell held)⟩

end Sys2Proof.Machine
end

section
/-! SUPPORT. The Call Unit's requests as its work, and a change of phase outside an evacuation, step by step (R37). -/

namespace Sys2Proof.Machine

variable {s t u x : State}

/-! ## The requests and the tellings of the Call Unit -/

namespace CallWork

theorem reportRequest (id : Nat) (source : CallSource) (outcome : CallOutcome) (reason : Option Result) (s : State) :
    CallWork s (Machine.reportRequest id source outcome reason s) := report _ s

theorem displace (victim : CallInstance) (s : State) : CallWork s (Machine.displace victim s) :=
  (setQueue _ s).trans ((reportCall _ _ _).trans (setAttention _ _))

theorem requeue (call : CallInstance) (s : State) : CallWork s (Machine.requeue call s) := by
  simp only [Machine.requeue]
  split
  · exact reportCall _ _ s
  · split
    · exact setQueue _ s
    · split
      · exact (displace _ s).trans (setQueue _ _)
      · exact (reportCall _ _ s).trans (setAttention _ _)

theorem preempt (priority : Nat) (s : State) : CallWork s (Machine.preempt priority s) := by
  simp only [Machine.preempt]
  split
  · split
    · split
      · exact (abortSounding _ _ s).trans (requeue _ _)
      · exact (abortSounding _ _ s).trans ((reportCall _ _ _).trans (setAttention _ _))
    · exact refl s
  · exact refl s

theorem enqueueRequest (id : Nat) (source : CallSource) (s : State) : CallWork s (Machine.enqueueRequest id source s) :=
  (setQueue _ s).trans ((preempt _ _).trans (selection _))

theorem refuseRequest (id : Nat) (source : CallSource) (reason : Result) (s : State) :
    CallWork s (Machine.refuseRequest id source reason s).2 := by
  simp only [Machine.refuseRequest]
  split
  · exact (reportRequest _ _ _ _ s).trans ((setAttention _ _).trans (selection _))
  · exact (reportRequest _ _ _ _ s).trans (selection _)

theorem requestCall (id : Nat) (source : CallSource) (s : State) : CallWork s (Machine.requestCall id source s).2 := by
  unfold Machine.requestCall
  split
  · exact refuseRequest _ _ _ s
  · split
    · exact (reportRequest _ _ _ _ s).trans (selection _)
    · split
      · exact enqueueRequest _ _ s
      · split
        · exact (displace _ s).trans (enqueueRequest _ _ _)
        · exact refuseRequest _ _ _ s

theorem endEvac (s : State) : CallWork s (Machine.endEvac s) := by
  unfold Machine.endEvac
  split
  · exact (setQueue _ s).trans (reportCall _ _ _)
  · split
    · split
      · exact (abortSounding _ _ s).trans (reportCall _ _ _)
      · exact refl s
    · exact refl s

theorem callsToldPhase (new previous : Phase) (s : State) : CallWork s (Machine.callsToldPhase new previous s) := by
  unfold Machine.callsToldPhase
  split
  · exact requestCall _ _ s
  · split
    · exact (endEvac s).trans (selection _)
    · split
      · exact requestCall _ _ s
      · exact selection s

theorem notice (urgent : Bool) (s : State) : CallWork s (Machine.notice urgent s) :=
  CallWork.trans (t := reportAttention s) ⟨rfl, rfl, rfl, rfl, List.prefix_refl _⟩ (offer _ _ _ _ _)

end CallWork

/-! ## A change of phase -/

section Change
variable {new : Phase} {cause : PhaseCause} {fields : PhaseUnit → PhaseUnit} {further : State → State}

/-- The record with the new phase, and its entry (R37, steps 1 and 2). -/
def phaseEntered (new : Phase) (cause : PhaseCause) (fields : PhaseUnit → PhaseUnit) (s : State) : State :=
  reportPhase new s.phase.phase cause (s.onPhase fun p => { fields p with phase := new })

/-- The entry of a change of phase. -/
def phaseEntry (new : Phase) (cause : PhaseCause) (fields : PhaseUnit → PhaseUnit) (s : State) : ReportEntry :=
  entryNow s .phase [byte new.code, byte s.phase.phase.code, byte (fields s.phase).act, cause.code, flagByte (fields s.phase).showStop]

theorem phaseEntered_adds (report : (fields s.phase).report = s.phase.report) :
    Adds [phaseEntry new cause fields s] s (phaseEntered new cause fields s) :=
  Adds.from (s := s) (Adds.report .phase _ (s.onPhase fun p => { fields p with phase := new })) report

theorem phaseEntered_same : sameBut [.report, .record, .attention] s (phaseEntered new cause fields s) = true :=
  sameBut_trans (sameBut_mono (onPhase_frame s _) (by decide)) (sameBut_mono (report_frame .phase _ _) (by decide))

theorem phaseEntered_record : (phaseEntered new cause fields s).phase.record = { fields s.phase with phase := new }.record :=
  sameBut_record (report_frame .phase _ (s.onPhase fun p => { fields p with phase := new })) (by decide)

/-- The fields of two records that agree. -/
structure SameFields (p q : PhaseUnit) : Prop where
  phase : p.phase = q.phase
  act : p.act = q.act
  curtainUp : p.curtainUp = q.curtainUp
  holdPending : p.holdPending = q.holdPending
  showStop : p.showStop = q.showStop
  demoStatus : p.demoStatus = q.demoStatus
  demoTime : p.demoTime = q.demoTime

theorem sameFields {p q : PhaseUnit} (h : p.record = q.record) : SameFields p q := by
  simp only [PhaseUnit.record, PhaseUnit.mk.injEq] at h
  obtain ⟨phase, -, act, -, -, up, -, -, -, pending, stop, status, time, -⟩ := h
  exact ⟨phase, act, up, pending, stop, status, time⟩

theorem phaseEntered_fields : SameFields (phaseEntered new cause fields s).phase { fields s.phase with phase := new } :=
  sameFields phaseEntered_record

/-- What the telling of a change of phase leaves of the state with its entries. -/
structure PhaseTold (new : Phase) (x t : State) : Prop where
  same : sameBut callParts x t = true
  work : CallWork x t
  chain : Chain calm x t
  noticed : noticed true t fun v => v.phase.phase = new

/-- Where no window closes and no demonstration ends, a change of phase tells the Call Unit alone. -/
theorem changePhase_tells (calm : new ≠ .evacuating) (performing : new ≠ .closed)
    (phase : (further (phaseEntered new cause fields s)).phase.phase = new) :
    PhaseTold new (deriveK4 (further (phaseEntered new cause fields s))) (changePhase new cause fields further s) := by
  have told : changePhase new cause fields further s =
      notice true (callsToldPhase new s.phase.phase (deriveK4 (further (phaseEntered new cause fields s)))) := by
    have curtain (v : State) : curtainToldPhase new v = v := (if_neg calm).trans (if_neg performing)
    simp only [changePhase, tellPhase, if_neg calm, curtain]
    rfl
  rw [told]
  generalize further (phaseEntered new cause fields s) = y at *
  have calls : sameBut callParts (deriveK4 y) (callsToldPhase new s.phase.phase (deriveK4 y)) = true := callsToldPhase_frame _ _ _
  have here : (callsToldPhase new s.phase.phase (deriveK4 y)).phase.phase = new :=
    (phase_of_record (sameBut_record calls (by decide))).trans phase
  exact ⟨sameBut_trans calls (sameBut_mono (notice_frame _ _) (by decide)), (CallWork.callsToldPhase _ _ _).trans (CallWork.notice _ _),
    (callsToldPhase_chain _ _ _).trans (notice_chain _ _),
    ⟨_, rfl, here⟩⟩

theorem deriveK4_of_follows (h : k4Follows s) : deriveK4 s = s := by
  rw [deriveK4, ← show s.lights.k4 = _ from h]
  rfl

/-- K4 follows in the new phase where it followed in the last, neither of them EVACUATING. -/
theorem k4Follows_open (relay : k4Follows s) (before : s.phase.phase ≠ .evacuating) (after : x.phase.phase ≠ .evacuating)
    (lights : x.lights.k4 = s.lights.k4) (zones : x.zones = s.zones) : k4Follows x := by
  rw [k4Follows, lights, zones, show s.lights.k4 = _ from relay, decide_eq_false before, decide_eq_false after]

theorem k4_of_relays (relays : relaysFollow s = true) : k4Follows s := by
  simp only [relaysFollow, Bool.and_eq_true, decide_eq_true_eq] at relays
  exact relays.2.1

/-- What a change of phase outside an evacuation leaves, after the record and the entries `x`. -/
structure PhaseChanged (parts : List Part) (new : Phase) (s x t : State) : Prop where
  same : sameBut parts s t = true
  record : t.phase.record = x.phase.record
  curtain : t.curtain = x.curtain
  raised : ∀ flag, isRaised flag x = true → isRaised flag t = true
  grows : x.phase.report <+: t.phase.report
  defs : t.calls.defs = x.calls.defs
  noticed : noticed true t fun v => v.phase.phase = new

/-- A change of phase outside an evacuation and not to CLOSED, where the relays follow (R37). -/
theorem changePhase_changes {parts : List Part} (calm : new ≠ .evacuating) (performing : new ≠ .closed)
    (before : s.phase.phase ≠ .evacuating) (relay : k4Follows s) (opened : further (phaseEntered new cause fields s) = x)
    (frame : sameBut parts s x = true) (within : callParts ⊆ parts) (lights : Part.lights ∉ parts)
    (zones : Part.zones ∉ parts) (phase : x.phase.phase = new) :
    PhaseChanged parts new s x (changePhase new cause fields further s) := by
  have told := changePhase_tells (cause := cause) (fields := fields) (further := further) (s := s) calm performing (by rw [opened, phase])
  have k4 : x.lights.k4 = s.lights.k4 := by
    have settled := congrArg HouseLights.k4 (sameBut_lights frame lights)
    exact settled
  have follows : k4Follows x := k4Follows_open relay before (by rwa [phase]) k4 (sameBut_zones frame zones)
  rw [opened, deriveK4_of_follows follows] at told
  exact ⟨sameBut_trans frame (sameBut_mono told.same within), sameBut_record told.same (by decide), sameBut_curtain told.same (by decide),
    fun flag raised => chain_raised told.chain (by decide) raised, told.work.grows, told.work.defs, told.noticed⟩

section Changed
variable {parts : List Part} (h : PhaseChanged parts new s x t) {entries : List ReportEntry} {entry : ReportEntry}
include h

theorem PhaseChanged.reports (adds : Adds entries s x) (room : roomFor entries.length s = true) :
    (s.phase.report ++ entries).isPrefixOf t.phase.report = true := by
  rw [List.isPrefixOf_iff_prefix, ← adds (by simpa [roomFor] using room)]
  exact h.grows

theorem PhaseChanged.gains (gained : gains entry s x = true) : Machine.gains entry s t = true := by
  simp only [Machine.gains, decide_eq_true_eq] at gained ⊢
  exact lt_of_lt_of_le gained (h.grows.sublist.count_le entry)

end Changed

/-- A change of phase that adds nothing to its entry. -/
theorem changePhase_plain (calm : new ≠ .evacuating) (performing : new ≠ .closed) (before : s.phase.phase ≠ .evacuating)
    (relay : k4Follows s) : PhaseChanged phaseParts new s (phaseEntered new cause fields s) (changePhase new cause fields id s) :=
  changePhase_changes calm performing before relay rfl (sameBut_mono phaseEntered_same (by decide)) (by decide) (by decide) (by decide)
    (phase_of_record phaseEntered_record)

end Change

end Sys2Proof.Machine
end

section
/-! SUPPORT. The fired marks that BGPF and an interval clear (R181), and the obligations O46 and O47. -/

namespace Sys2Proof.Machine

variable {s t u x : State} {h : CommandHeader}

/-! ## The fired marks cleared -/

/-- Changes of the definitions one by one, each of its own id alone, change the ids that a list names. -/
theorem callEntry_forEach {f : Nat → State → State} {g : CallEntry → CallEntry} (twice : ∀ e, g (g e) = g e)
    (one : ∀ i id t, callEntry (f i t) id = if i = id then (callEntry t id).map g else callEntry t id) (ids : List Nat) (id : Nat)
    (s : State) : callEntry (forEach ids f s) id = if id ∈ ids then (callEntry s id).map g else callEntry s id := by
  induction ids generalizing s with
  | nil => rfl
  | cons i rest ih =>
    rw [forEach_cons, ih, one]
    by_cases first : i = id <;> by_cases later : id ∈ rest
    · simp [first, later, Function.comp_def, twice]
    · simp [first, later]
    · simp [first, later]
    · simp [first, later, Ne.symm first]

theorem callEntry_forEach_all {f : Nat → State → State} {g : CallEntry → CallEntry} (twice : ∀ e, g (g e) = g e)
    (one : ∀ i id t, callEntry (f i t) id = if i = id then (callEntry t id).map g else callEntry t id) (id : Nat) (s : State) :
    callEntry (forEach (List.range 32) f s) id = (callEntry s id).map g := by
  rw [callEntry_forEach twice one]
  cases he : callEntry s id with
  | none => simp
  | some e => simp [lt_of_callEntry he]

theorem callEntry_clearFired (id : Nat) (s : State) :
    callEntry (clearFired s) id = (callEntry s id).map fun e => { e with fired := false } :=
  callEntry_forEach_all (g := fun e => { e with fired := false }) (fun _ => rfl) (fun i id t => callEntry_setFired false i id t) id s

/-- A definition after the start of an interval. -/
def CallEntry.intervalBegun (e : CallEntry) : CallEntry := { e with fired := e.fired && !e.defn.scheduledOn .intervalEnd }

theorem callEntry_clearIntervalFired (id : Nat) (s : State) :
    callEntry (clearIntervalFired s) id = (callEntry s id).map CallEntry.intervalBegun := by
  refine callEntry_forEach_all (fun e => by simp [CallEntry.intervalBegun]) (fun i id t => ?_) id s
  cases he : callEntry t i with
  | none =>
    dsimp only
    split
    · next same =>
      rw [← same, he]
      rfl
    · rfl
  | some e =>
    dsimp only
    cases scheduled : e.defn.scheduledOn .intervalEnd with
    | true =>
      rw [if_pos rfl, callEntry_setFired]
      split
      · next same =>
        rw [← same, he]
        simp [CallEntry.intervalBegun, scheduled]
      · rfl
    | false =>
      rw [if_neg (by decide)]
      split
      · next same =>
        rw [← same, he]
        simp [CallEntry.intervalBegun, scheduled]
      · rfl

/-! ## BGPF and OPHS -/

/-- A performance begins, in CLOSED without an alarm (R38). -/
theorem beginPerformance_begins {number countdown : Nat} (low : number ≠ 0) (high : number ≤ 9999) (up : countdown ≤ 7200)
    (closed : s.phase.phase = .closed) (calm : s.zones.alarm.confirmed = []) : beginPerformance number countdown s =
      (.done, changePhase .preshow .command id id (clearFired (s.onPhase (PhaseUnit.begun number countdown)))) := by
  rw [beginPerformance, if_neg (by omega), if_neg (by simp [closed]), if_neg (by simp [calm])]
  rfl

/-- What a performance begins with (R38). -/
theorem begun_changes {number countdown : Nat} (closed : s.phase.phase = .closed) (calm : s.zones.alarm.confirmed = [])
    (relay : s.lights.k4 = false) {t : State}
    (begun : changePhase .preshow .command id id (clearFired (s.onPhase (PhaseUnit.begun number countdown))) = t) :
    sameBut phaseParts s t = true ∧
      t.phase.record = { s.phase.record with
        phase := .preshow, number := number, act := 0, curtainUp := countdown, intervalLeft := 0
        demoStatus := .notDone, demoTime := 0 } ∧
      t.phase.report.head? = some (entryNow s .phase [1, 0, 0, 0, flagByte s.phase.showStop]) ∧
      (∀ id e, callEntry t id = some e → e.fired = false) ∧ noticed true t fun v => v.phase.phase = .preshow := by
  have cleared := clearFired_frame (s.onPhase (PhaseUnit.begun number countdown))
  have first : sameBut phaseParts s (clearFired (s.onPhase (PhaseUnit.begun number countdown))) = true :=
    sameBut_trans (sameBut_mono (onPhase_frame s _) (by decide)) (sameBut_mono cleared (by decide))
  have record : (clearFired (s.onPhase (PhaseUnit.begun number countdown))).phase.record = (s.phase.begun number countdown).record :=
    sameBut_record cleared (by decide)
  have empty : (clearFired (s.onPhase (PhaseUnit.begun number countdown))).phase.report = [] :=
    (sameBut_report cleared (by decide)).trans rfl
  have marks (id : Nat) := callEntry_clearFired id (s.onPhase (PhaseUnit.begun number countdown))
  have clock : (clearFired (s.onPhase (PhaseUnit.begun number countdown))).clock = s.clock :=
    (sameBut_clock cleared (by decide)).trans rfl
  generalize clearFired (s.onPhase (PhaseUnit.begun number countdown)) = x at *
  have phase : x.phase.phase = .closed := (congrArg PhaseUnit.phase record).trans closed
  have act : x.phase.act = 0 := congrArg PhaseUnit.act record
  have stop : x.phase.showStop = s.phase.showStop := by
    have same := congrArg PhaseUnit.showStop record
    exact same
  have relay_ : x.lights.k4 = false := by
    have settled := congrArg HouseLights.k4 (sameBut_lights first (by decide))
    exact settled.trans relay
  have zones : x.zones = s.zones := sameBut_zones first (by decide)
  have follows : k4Follows x := by
    rw [k4Follows, relay_, zones, calm, phase]
    rfl
  have changed := changePhase_plain (new := .preshow) (cause := .command) (fields := id) (s := x) (by decide) (by decide)
    (by simp [phase]) follows
  rw [begun] at changed
  have entry : phaseEntry .preshow .command id x = entryNow s .phase [1, 0, 0, 0, flagByte s.phase.showStop] := by
    simp only [phaseEntry, entryNow, id, phase, act, stop, clock]
    rfl
  have reports := changed.reports (phaseEntered_adds rfl) (by simp [roomFor, empty])
  refine ⟨sameBut_trans first changed.same, ?_, ?_, fun i e found => ?_, changed.noticed⟩
  · rw [changed.record, phaseEntered_record]
    change { x.phase.record with phase := .preshow } = _
    rw [record]
    rfl
  · rw [empty, entry, List.isPrefixOf_iff_prefix] at reports
    obtain ⟨later, eq⟩ := reports
    rw [← eq]
    rfl
  · have same : callEntry t i = callEntry x i := by
      have calls : (phaseEntered .preshow .command id x).calls = x.calls := sameBut_calls phaseEntered_same (by decide)
      exact callEntry_congr (changed.defs.trans (congrArg CallUnit.defs calls)) i
    rw [same, marks] at found
    obtain ⟨before, -, rfl⟩ := Option.map_eq_some_iff.1 found
    rfl

/-- A change of phase that adds nothing but its entry to the report and the phase to the record. -/
theorem plainChange_changes {new : Phase} (calm : new ≠ .evacuating) (performing : new ≠ .closed)
    (before : s.phase.phase ≠ .evacuating) (relays : relaysFollow s = true) (room : roomFor 1 s = true) :
    sameBut phaseParts s (changePhase new .command id id s) = true ∧
      (changePhase new .command id id s).phase.record = { s.phase.record with phase := new } ∧
      (s.phase.report ++ [entryNow s .phase
        [byte new.code, byte s.phase.phase.code, byte s.phase.act, 0, flagByte s.phase.showStop]]).isPrefixOf
        (changePhase new .command id id s).phase.report = true ∧
      noticed true (changePhase new .command id id s) fun v => v.phase.phase = new := by
  have changed := changePhase_plain (new := new) (cause := .command) (fields := id) calm performing before (k4_of_relays relays)
  refine ⟨changed.same, ?_, changed.reports (phaseEntered_adds rfl) room, changed.noticed⟩
  rw [changed.record, phaseEntered_record]
  rfl

/-- Settles O46: BGPF by its conditions and the record that it clears, OPHS as a plain change of phase. -/
theorem performanceBeginsAndHouseOpens : Obligations.PerformanceBeginsAndHouseOpens := by
  refine fun h s a => ⟨fun number countdown => ⟨fun wrong => ?_, fun low high up => ⟨fun barred => ?_, fun closed calm relay => ?_⟩⟩,
    fun other => ?_, fun preshow relays room => ?_⟩
  · have answer : beginPerformance number.toNat countdown.toNat (begin 0x20 h s) = (.refusedRange, begin 0x20 h s) := by
      refine if_pos (wrong.imp_left fun zero => ?_)
      rw [zero]
      rfl
    exact onlyReplies_simple (code := 0x20) (body := beginPerformance number.toNat countdown.toNat) rfl a answer
  · have range : ¬ (number.toNat = 0 ∨ 9999 < number.toNat ∨ 7200 < countdown.toNat) := by omega
    have answer : beginPerformance number.toNat countdown.toNat (begin 0x20 h s) = (.refusedState, begin 0x20 h s) := by
      refine (if_neg range).trans ?_
      obtain other | alarm := barred
      · exact if_pos other
      · split
        · rfl
        · exact if_pos alarm
    exact onlyReplies_simple (code := 0x20) (body := beginPerformance number.toNat countdown.toNat) rfl a answer
  · exact replies_simple (code := 0x20) (body := beginPerformance number.toNat countdown.toNat) rfl a
      (beginPerformance_begins (s := begin 0x20 h s) (by omega) high up closed calm)
      (begun_changes (s := begin 0x20 h s) closed calm relay rfl)
  · have answer : openHouse .command (begin 0x21 h s) = (.refusedState, begin 0x21 h s) := if_neg other
    exact onlyReplies_simple (code := 0x21) (body := openHouse .command) rfl a answer
  · have answer : openHouse .command (begin 0x21 h s) = (.done, changePhase .houseOpen .command id id (begin 0x21 h s)) := if_pos preshow
    have changed := plainChange_changes (s := begin 0x21 h s) (new := .houseOpen) (by decide) (by decide) (by simp [preshow]) relays room
    rw [begin_phase, preshow] at changed
    exact replies_simple (code := 0x21) (body := openHouse .command) rfl a answer changed

end Sys2Proof.Machine
end

section
/-! SUPPORT. The obligations O47 and O50: the hold and its release, show stop, and the return from the evacuation. -/

namespace Sys2Proof.Machine

variable {s t u x : State} {h : CommandHeader}

/-! ## The hold (R40, R41) -/

theorem held_changes (open_ : s.phase.phase = .preshow ∨ s.phase.phase = .houseOpen) (relays : relaysFollow s = true)
    (room : roomFor 2 s = true) (held : changePhase .held .command (fun p => { p with heldFrom := some p.phase })
      (fun s => reportHold 0 s.phase.holdPending s) s = t) :
    sameBut phaseParts s t = true ∧ t.phase.record = { s.phase.record with phase := .held, heldFrom := some s.phase.phase } ∧
      (s.phase.report ++ [entryNow s .phase [3, byte s.phase.phase.code, byte s.phase.act, 0, flagByte s.phase.showStop],
        entryNow s .hold ([0] ++ bytes2 s.phase.curtainUp ++ [flagByte s.phase.holdPending])]).isPrefixOf t.phase.report = true ∧
      noticed true t fun v => v.phase.phase = .held := by
  have before : s.phase.phase ≠ .evacuating := by
    obtain at_ | at_ := open_ <;> simp [at_]
  have entered := phaseEntered_adds (s := s) (new := .held) (cause := .command) (fields := fun p => { p with heldFrom := some p.phase }) rfl
  have same := phaseEntered_same (s := s) (new := .held) (cause := .command) (fields := fun p => { p with heldFrom := some p.phase })
  have record := phaseEntered_record (s := s) (new := .held) (cause := .command) (fields := fun p => { p with heldFrom := some p.phase })
  have changed := fun y => changePhase_changes (parts := phaseParts) (x := y) (s := s) (new := .held) (cause := .command)
    (fields := fun p => { p with heldFrom := some p.phase }) (further := fun s => reportHold 0 s.phase.holdPending s) (by decide) (by decide)
    before (k4_of_relays relays)
  generalize phaseEntered .held .command (fun p => { p with heldFrom := some p.phase }) s = r at *
  have added : Adds _ r (reportHold 0 r.phase.holdPending r) := .report .hold _ r
  have frame := reportHold_frame 0 r.phase.holdPending r
  have whole : (reportHold 0 r.phase.holdPending r).phase.record = r.phase.record := sameBut_record frame (by decide)
  have held_ := sameFields record
  have up : r.phase.curtainUp = s.phase.curtainUp := held_.curtainUp
  have pending : r.phase.holdPending = s.phase.holdPending := held_.holdPending
  have clock : r.clock = s.clock := sameBut_clock same (by decide)
  have phase : (reportHold 0 r.phase.holdPending r).phase.phase = .held :=
    (phase_of_record whole).trans held_.phase
  have changed := changed _ rfl (sameBut_trans (sameBut_mono same (by decide)) (sameBut_mono frame (by decide))) (by decide) (by decide) (by decide) phase
  rw [held] at changed
  have entry : entryNow r .hold ([0] ++ bytes2 r.phase.curtainUp ++ [flagByte r.phase.holdPending]) =
      entryNow s .hold ([0] ++ bytes2 s.phase.curtainUp ++ [flagByte s.phase.holdPending]) := by rw [entryNow, clock, up, pending]; rfl
  rw [entry] at added
  refine ⟨changed.same, ?_, changed.reports (entered.trans added) room, changed.noticed⟩
  rw [changed.record, whole, record]
  rfl

/-- The end of a hold clears its pending second, which counts the curtain-up countdown down by one (R41). -/
theorem endHold_record (s : State) : (endHold s).phase.record = { s.phase.record with
    holdPending := false, curtainUp := if s.phase.holdPending then s.phase.curtainUp - 1 else s.phase.curtainUp } := by
  have reported (pending : Bool) (y : State) : (reportHold 1 pending y).phase.record = y.phase.record :=
    sameBut_record (reportHold_frame 1 pending y) (by decide)
  rw [endHold, reported]
  change { (pendingDecrement s).phase.record with holdPending := false } = _
  unfold pendingDecrement
  dsimp only
  split
  · next counts =>
    rw [announce_record, if_pos counts.1]
    rfl
  · next quiet =>
    cases pending : s.phase.holdPending with
    | false => rfl
    | true =>
      rw [pending] at quiet
      have zero : s.phase.curtainUp = 0 := by simpa using quiet
      rw [if_pos rfl, zero, Nat.zero_sub, ← zero]
      rfl

theorem released_changes {target : Phase} (held : s.phase.phase = .held) (open_ : target = .preshow ∨ target = .houseOpen)
    (relays : relaysFollow s = true) (room : roomFor 1 s = true)
    (released : changePhase target .command (fun p => { p with heldFrom := none }) endHold s = t) :
    sameBut phaseParts s t = true ∧
      t.phase.record = { s.phase.record with
        phase := target, heldFrom := none, holdPending := false
        curtainUp := if s.phase.holdPending then s.phase.curtainUp - 1 else s.phase.curtainUp } ∧
      gains (entryNow s .phase [byte target.code, 3, byte s.phase.act, 0, flagByte s.phase.showStop]) s t = true ∧
      noticed true t fun v => v.phase.phase = target := by
  have others : target ≠ .evacuating ∧ target ≠ .closed := by
    obtain rfl | rfl := open_ <;> decide
  have entered := phaseEntered_adds (s := s) (new := target) (cause := .command) (fields := fun p => { p with heldFrom := none }) rfl
  have same := phaseEntered_same (s := s) (new := target) (cause := .command) (fields := fun p => { p with heldFrom := none })
  have record := phaseEntered_record (s := s) (new := target) (cause := .command) (fields := fun p => { p with heldFrom := none })
  have changed := fun y => changePhase_changes (parts := phaseParts) (x := y) (s := s) (new := target) (cause := .command)
    (fields := fun p => { p with heldFrom := none }) (further := endHold) others.1 others.2 (by simp [held]) (k4_of_relays relays)
  have entry : phaseEntry target .command (fun p => { p with heldFrom := none }) s =
      entryNow s .phase [byte target.code, 3, byte s.phase.act, 0, flagByte s.phase.showStop] := by
    rw [phaseEntry, held]
    rfl
  rw [entry] at entered
  generalize phaseEntered target .command (fun p => { p with heldFrom := none }) s = r at *
  have whole := endHold_record r
  have left := sameFields record
  have changed := changed _ rfl (sameBut_trans (sameBut_mono same (by decide)) (endHold_frame r)) (by decide) (by decide) (by decide)
    ((sameFields (p := (endHold r).phase) (q := { r.phase with holdPending := false, curtainUp := _ }) whole).phase.trans left.phase)
  rw [released] at changed
  refine ⟨changed.same, ?_, changed.gains ?_, changed.noticed⟩
  · rw [changed.record, whole, record, left.holdPending, left.curtainUp]
    rfl
  · exact gains_later (entered.gains_one room) (routine_usual (endHold_chain r)) rfl

/-- Settles O47: HOLD by the hold's entries, RLHD by the end of the hold. -/
theorem houseIsHeldAndReleased : Obligations.HouseIsHeldAndReleased := by
  refine fun h s a => ⟨fun closed hidden => ?_, fun open_ relays room => ?_, fun other => ?_,
    fun target held from_ open_ relays room => ?_⟩
  · have answer : holdHouse .command (begin 0x22 h s) = (.refusedState, begin 0x22 h s) := if_neg (by simp [closed, hidden])
    exact onlyReplies_simple (code := 0x22) (body := holdHouse .command) rfl a answer
  · exact replies_simple (code := 0x22) (body := holdHouse .command) rfl a (if_pos open_)
      (held_changes (s := begin 0x22 h s) open_ relays room rfl)
  · have answer : releaseHold .command (begin 0x23 h s) = (.refusedState, begin 0x23 h s) := if_neg other
    exact onlyReplies_simple (code := 0x23) (body := releaseHold .command) rfl a answer
  · have answer : releaseHold .command (begin 0x23 h s) =
        (.done, changePhase target .command (fun p => { p with heldFrom := none }) endHold (begin 0x23 h s)) := by
      have at_ : (begin 0x23 h s).phase.phase = .held := held
      have origin : (begin 0x23 h s).phase.heldFrom = some target := from_
      rw [releaseHold, if_pos at_, origin]
      rfl
    exact replies_simple (code := 0x23) (body := releaseHold .command) rfl a answer
      (released_changes (s := begin 0x23 h s) held open_ relays room rfl)

end Sys2Proof.Machine
end

section
/-! SUPPORT. The obligation O50: show stop, and the return from the evacuation. -/

namespace Sys2Proof.Machine

variable {s t u x : State} {h : CommandHeader}

/-- A change of show stop by a command (R54). -/
theorem changeShowStop_changes (value : Bool) (room : roomFor 1 s = true) (changed : changeShowStop value .command s = t) :
    sameBut phaseParts s t = true ∧ t.phase.record = { s.phase.record with showStop := value } ∧
      (s.phase.report ++ [entryNow s .phase [byte s.phase.phase.code, byte s.phase.phase.code, byte s.phase.act, 0,
        flagByte value]]).isPrefixOf t.phase.report = true ∧ noticed true t fun v => v.phase.showStop = value := by
  have entered : Adds [entryNow s .phase [byte s.phase.phase.code, byte s.phase.phase.code, byte s.phase.act, 0, flagByte value]] s
      (reportPhase s.phase.phase s.phase.phase .command (s.onPhase fun p => { p with showStop := value })) :=
    Adds.from (s := s) (Adds.report .phase _ (s.onPhase fun p => { p with showStop := value })) rfl
  have same : sameBut phaseParts s
      (reportPhase s.phase.phase s.phase.phase .command (s.onPhase fun p => { p with showStop := value })) = true :=
    sameBut_trans (sameBut_mono (onPhase_frame s _) (by decide)) (sameBut_mono (report_frame .phase _ _) (by decide))
  have record : (reportPhase s.phase.phase s.phase.phase .command (s.onPhase fun p => { p with showStop := value })).phase.record =
      { s.phase.record with showStop := value } :=
    (sameBut_record (report_frame .phase _ (s.onPhase fun p => { p with showStop := value })) (by decide)).trans rfl
  have whole : changeShowStop value .command s = notice true
      (selection (reportPhase s.phase.phase s.phase.phase .command (s.onPhase fun p => { p with showStop := value }))) := rfl
  rw [← changed, whole]
  generalize reportPhase s.phase.phase s.phase.phase .command (s.onPhase fun p => { p with showStop := value }) = x at *
  have selected := selection_frame x
  have told : sameBut callParts x (notice true (selection x)) = true :=
    sameBut_trans selected (sameBut_mono (notice_frame _ _) (by decide))
  have kept : (selection x).phase.record = x.phase.record := sameBut_record selected (by decide)
  have stop : (selection x).phase.showStop = value := (sameFields (q := { s.phase with showStop := value }) (kept.trans record)).showStop
  refine ⟨sameBut_trans same (sameBut_mono told (by decide)), (sameBut_record told (by decide)).trans record, ?_, ⟨_, rfl, stop⟩⟩
  rw [List.isPrefixOf_iff_prefix, ← entered.one room]
  exact ((CallWork.selection x).trans (CallWork.notice true _)).grows

/-- The return from the evacuation to a phase outside it (R48). -/
theorem returned_changes {saved : Phase} (evacuating : s.phase.phase = .evacuating) (calm : s.zones.alarm.confirmed = [])
    (outside : saved ≠ .closed ∧ saved ≠ .evacuating) (room : roomFor 1 s = true)
    (returned : changePhase saved .command (fun p => { p with saved := none }) id s = t) :
    sameBut (.lights :: phaseParts) s t = true ∧ t.phase.record = { s.phase.record with phase := saved, saved := none } ∧
      t.lights.k4 = false ∧ t.lights.groups = s.lights.groups ∧
      gains (entryNow s .phase [byte saved.code, 7, byte s.phase.act, 0, flagByte s.phase.showStop]) s t = true ∧
      noticed true t fun v => v.phase.phase = saved := by
  have entered := phaseEntered_adds (s := s) (new := saved) (cause := .command) (fields := fun p => { p with saved := none }) rfl
  have same := phaseEntered_same (s := s) (new := saved) (cause := .command) (fields := fun p => { p with saved := none })
  have record := phaseEntered_record (s := s) (new := saved) (cause := .command) (fields := fun p => { p with saved := none })
  have told := changePhase_tells (s := s) (new := saved) (cause := .command) (fields := fun p => { p with saved := none }) (further := id)
    outside.2 outside.1 phaseEntered_fields.phase
  have entry : phaseEntry saved .command (fun p => { p with saved := none }) s =
      entryNow s .phase [byte saved.code, 7, byte s.phase.act, 0, flagByte s.phase.showStop] := by
    rw [phaseEntry, evacuating]
    rfl
  rw [entry] at entered
  rw [returned, id] at told
  generalize phaseEntered saved .command (fun p => { p with saved := none }) s = r at *
  have zones : r.zones = s.zones := sameBut_zones same (by decide)
  have phase : r.phase.phase = saved := (sameFields record).phase
  have groups : r.lights.groups = s.lights.groups := by
    have settled := congrArg HouseLights.groups (sameBut_lights same (by decide))
    exact settled
  have relay : (deriveK4 r).lights.k4 = false := by
    change (!r.zones.alarm.confirmed.isEmpty || decide (r.phase.phase = .evacuating)) = false
    rw [zones, calm, phase, decide_eq_false outside.2]
    rfl
  have settled := sameBut_lights told.same (by decide)
  refine ⟨?_, ?_, ?_, ?_, ?_, told.noticed⟩
  · exact sameBut_trans (sameBut_mono same (by decide))
      (sameBut_trans (sameBut_mono (deriveK4_frame r) (by decide)) (sameBut_mono told.same (by decide)))
  · rw [sameBut_record told.same (by decide)]
    exact record
  · have k4 := congrArg HouseLights.k4 settled
    exact k4.trans relay
  · have kept := congrArg HouseLights.groups settled
    exact kept.trans groups
  · have gained := entered.gains_one room
    simp only [gains, decide_eq_true_eq] at gained ⊢
    exact lt_of_lt_of_le gained (told.work.grows.sublist.count_le _)

/-- Settles O50: SHST and SHRS by the change of show stop, EVRS by the change back to the saved phase. -/
theorem showStopAndEvacuationReturn : Obligations.ShowStopAndEvacuationReturn := by
  refine fun h s a => ⟨fun closed => ?_, fun open_ stopped => ?_, fun open_ running room => ?_, fun running => ?_, fun stopped room => ?_,
    fun barred => ?_, fun saved evacuating calm origin kept room => ?_⟩
  · have answer : setShowStop .command (begin 0x26 h s) = (.refusedState, begin 0x26 h s) := if_pos closed
    exact onlyReplies_simple (code := 0x26) (body := setShowStop .command) rfl a answer
  · have answer : setShowStop .command (begin 0x26 h s) = (.done, begin 0x26 h s) := (if_neg open_).trans (if_pos stopped)
    exact onlyReplies_simple (code := 0x26) (body := setShowStop .command) rfl a answer
  · have answer : setShowStop .command (begin 0x26 h s) = (.done, changeShowStop true .command (begin 0x26 h s)) :=
      (if_neg open_).trans (if_neg (by simp [running]))
    obtain ⟨same, record, reports, told⟩ := changeShowStop_changes (s := begin 0x26 h s) true room rfl
    have stop : (changeShowStop true .command (begin 0x26 h s)).phase.showStop = true :=
      (sameFields (q := { s.phase with showStop := true }) record).showStop
    refine replies_simple (code := 0x26) (body := setShowStop .command) rfl a answer ⟨same, record, reports, ?_, told⟩
    rw [overrideActive, stop, Bool.or_true]
  · have answer : clearShowStop (begin 0x27 h s) = (.done, begin 0x27 h s) := if_neg (by simp [running])
    exact onlyReplies_simple (code := 0x27) (body := clearShowStop) rfl a answer
  · exact replies_simple (code := 0x27) (body := clearShowStop) rfl a (if_pos stopped)
      (changeShowStop_changes (s := begin 0x27 h s) false room rfl)
  · have answer : returnFromEvacuation (begin 0x28 h s) = (.refusedState, begin 0x28 h s) :=
      if_neg fun both => barred.elim (fun other => other both.1) fun alarm => alarm both.2
    exact onlyReplies_simple (code := 0x28) (body := returnFromEvacuation) rfl a answer
  · have outside : saved ≠ .closed ∧ saved ≠ .evacuating := by
      simp only [phasesKept, origin, Bool.and_eq_true, decide_eq_true_eq] at kept
      exact kept.1.2
    have answer : returnFromEvacuation (begin 0x28 h s) =
        (.done, changePhase saved .command (fun p => { p with saved := none }) id (begin 0x28 h s)) := by
      have both : (begin 0x28 h s).phase.phase = .evacuating ∧ (begin 0x28 h s).zones.alarm.confirmed = [] := ⟨evacuating, calm⟩
      have back : (begin 0x28 h s).phase.saved = some saved := origin
      rw [returnFromEvacuation, if_pos both, back]
      rfl
    exact replies_simple (code := 0x28) (body := returnFromEvacuation) rfl a answer
      (returned_changes (s := begin 0x28 h s) evacuating calm outside room rfl)

end Sys2Proof.Machine
end

section
/-! SUPPORT. The requests for a phase (R49): their refusals and their transitions (R39, R42 to R45), and the obligation O49. -/

namespace Sys2Proof.Machine

variable {s t u x : State} {h : CommandHeader} {cause : PhaseCause} {target : Phase} {act countdown : Nat}

/-! ## The checks of a request -/

section Checks
variable (known : target.requestable = true) (range : act ≤ 5)
include known range

theorem phaseRequest_eq : phaseRequest (some target) act countdown cause s =
    if act ≠ 0 ∧ actAfter target s ≠ some act then (.refusedState, s)
    else if target = .interval ∧ 3600 < countdown then (.refusedRange, s) else takeTransition target countdown cause s := by
  refine (if_neg (by simp [known])).trans (if_neg ?_)
  omega

/-- A request whose act does not fit is refused (R49 item 2). -/
theorem phaseRequest_misfit (given : act ≠ 0) (other : actAfter target s ≠ some act) :
    phaseRequest (some target) act countdown cause s = (.refusedState, s) := by
  rw [phaseRequest_eq known range]
  exact if_pos ⟨given, other⟩

/-- A request whose act fits is taken by the table (R49 item 4). -/
theorem phaseRequest_fits (fits : act = 0 ∨ actAfter target s = some act) (short : target = .interval → countdown ≤ 3600) :
    phaseRequest (some target) act countdown cause s = takeTransition target countdown cause s := by
  rw [phaseRequest_eq known range]
  refine (if_neg ?_).trans (if_neg ?_)
  · rintro ⟨given, other⟩
    exact fits.elim given other
  · rintro ⟨interval, long⟩
    have := short interval
    omega

theorem phaseRequest_takes (other : target ≠ .interval) (fits : act = 0 ∨ actAfter target s = some act) :
    phaseRequest (some target) act countdown cause s = takeTransition target countdown cause s :=
  phaseRequest_fits known range fits fun interval => absurd interval other

/-- A request that the table does not take is refused, whatever its act (R49 items 2 and 4). -/
theorem phaseRequest_untaken (other : target ≠ .interval) (untaken : takeTransition target countdown cause s = (.refusedState, s)) :
    phaseRequest (some target) act countdown cause s = (.refusedState, s) := by
  rw [phaseRequest_eq known range]
  split
  · rfl
  · exact (if_neg fun both => other both.1).trans untaken

end Checks

/-! ## The refusals by target -/

theorem openHouse_refused (range : act ≤ 5) (wrong : act ≠ 0 ∨ s.phase.phase ≠ .preshow) :
    phaseRequest (some .houseOpen) act countdown cause s = (.refusedState, s) := by
  by_cases given : act = 0
  · have closed : s.phase.phase ≠ .preshow := wrong.resolve_left fun n => n given
    refine phaseRequest_untaken rfl range (by decide) ?_
    cases at_ : s.phase.phase with
    | preshow => exact absurd at_ closed
    | _ => simp [takeTransition, at_]
  · exact phaseRequest_misfit rfl range given nofun

/-- The phases from which RUNNING is refused, and the acts (R42, R44, R45). -/
def runningBarred (act : Nat) (s : State) : Prop :=
  s.phase.phase = .closed ∨ s.phase.phase = .preshow ∨ s.phase.phase = .running ∨ s.phase.phase = .egress ∨
    s.phase.phase = .evacuating ∨ ((s.phase.phase = .houseOpen ∨ s.phase.phase = .held) ∧ 1 < act) ∨
    (s.phase.phase = .interval ∧ (s.phase.act = 5 ∨ (act ≠ 0 ∧ act ≠ s.phase.act + 1)))

theorem running_refused (range : act ≤ 5) (barred : runningBarred act s) :
    phaseRequest (some .running) act countdown cause s = (.refusedState, s) := by
  have untaken (h : takeTransition .running countdown cause s = (.refusedState, s)) := phaseRequest_untaken (act := act) rfl range (by decide) h
  obtain at_ | at_ | at_ | at_ | at_ | ⟨at_ | at_, above⟩ | ⟨at_, last | ⟨given, other⟩⟩ := barred
  · exact untaken (by simp [takeTransition, at_])
  · exact untaken (by simp [takeTransition, at_])
  · exact untaken (by simp [takeTransition, at_])
  · exact untaken (by simp [takeTransition, at_])
  · exact untaken (by simp [takeTransition, at_])
  · exact phaseRequest_misfit rfl range (by omega) (by simp only [actAfter, at_]; simp; omega)
  · exact phaseRequest_misfit rfl range (by omega) (by simp only [actAfter, at_]; simp; omega)
  · exact untaken (by simp [takeTransition, at_, last])
  · exact phaseRequest_misfit rfl range given (by simp only [actAfter, at_]; simpa using Ne.symm other)

theorem egress_refused (range : act ≤ 5) (wrong : s.phase.phase ≠ .running ∨ (act ≠ 0 ∧ act ≠ s.phase.act)) :
    phaseRequest (some .egress) act countdown cause s = (.refusedState, s) := by
  by_cases misfit : act ≠ 0 ∧ act ≠ s.phase.act
  · exact phaseRequest_misfit rfl range misfit.1 (by simpa [actAfter] using Ne.symm misfit.2)
  · have other := wrong.resolve_right misfit
    refine phaseRequest_untaken rfl range (by decide) ?_
    cases at_ : s.phase.phase with
    | running => exact absurd at_ other
    | _ => simp [takeTransition, at_]

theorem interval_misfit (range : act ≤ 5) (given : act ≠ 0) (other : act ≠ s.phase.act) :
    phaseRequest (some .interval) act countdown cause s = (.refusedState, s) :=
  phaseRequest_misfit rfl range given (by simpa [actAfter] using Ne.symm other)

theorem interval_fits (fits : act = 0 ∨ act = s.phase.act) : act = 0 ∨ actAfter .interval s = some act :=
  fits.imp_right fun same => by simp [actAfter, same]

theorem interval_long (range : act ≤ 5) (fits : act = 0 ∨ act = s.phase.act) (long : 3600 < countdown) :
    phaseRequest (some .interval) act countdown cause s = (.refusedRange, s) := by
  rw [phaseRequest_eq rfl range]
  exact (if_neg fun both => (interval_fits fits).elim both.1 both.2).trans (if_pos ⟨rfl, long⟩)

theorem interval_refused (range : act ≤ 5) (fits : act = 0 ∨ act = s.phase.act) (short : countdown ≤ 3600)
    (other : s.phase.phase ≠ .running) : phaseRequest (some .interval) act countdown cause s = (.refusedState, s) := by
  rw [phaseRequest_fits rfl range (interval_fits fits) fun _ => short]
  cases at_ : s.phase.phase with
  | running => exact absurd at_ other
  | _ => simp [takeTransition, at_]

/-! ## The transitions -/

/-- A transition that adds nothing but its entry. -/
theorem transition_changes {new : Phase} {fields : PhaseUnit → PhaseUnit} (calm : new ≠ .evacuating) (performing : new ≠ .closed)
    (before : s.phase.phase ≠ .evacuating) (relay : k4Follows s) (report : (fields s.phase).report = s.phase.report)
    (room : roomFor 1 s = true) :
    sameBut phaseParts s (changePhase new cause fields id s) = true ∧
      (changePhase new cause fields id s).phase.record = { fields s.phase with phase := new }.record ∧
      gains (phaseEntry new cause fields s) s (changePhase new cause fields id s) = true := by
  have changed := changePhase_plain (cause := cause) (fields := fields) calm performing before relay
  exact ⟨changed.same, changed.record.trans phaseEntered_record, changed.gains ((phaseEntered_adds report).gains_one room)⟩

section Taken
variable (relays : relaysFollow s = true)
include relays

theorem openHouse_taken (preshow : s.phase.phase = .preshow) (room : roomFor 1 s = true) :
    ∃ t, phaseRequest (some .houseOpen) 0 countdown cause s = (.done, t) ∧ t = changePhase .houseOpen cause id id s ∧
      sameBut phaseParts s t = true ∧ t.phase.record = { s.phase.record with phase := .houseOpen } ∧
      gains (entryNow s .phase [2, 1, byte s.phase.act, cause.code, flagByte s.phase.showStop]) s t = true := by
  obtain ⟨same, record, gained⟩ := transition_changes (s := s) (cause := cause) (new := .houseOpen) (fields := id) (by decide) (by decide)
    (by simp [preshow]) (k4_of_relays relays) rfl room
  refine ⟨_, ?_, rfl, same, record, ?_⟩
  · rw [phaseRequest_takes rfl (by decide) (by decide) (.inl rfl)]
    simp only [takeTransition, preshow, openHouse, if_pos]
  · rw [phaseEntry, preshow] at gained
    exact gained

theorem egress_taken (running : s.phase.phase = .running) (range : act ≤ 5) (fits : act = 0 ∨ act = s.phase.act)
    (room : roomFor 1 s = true) :
    ∃ t, phaseRequest (some .egress) act countdown cause s = (.done, t) ∧
      sameBut phaseParts s t = true ∧ t.phase.record = { s.phase.record with phase := .egress } ∧
      gains (entryNow s .phase [6, 4, byte s.phase.act, cause.code, flagByte s.phase.showStop]) s t = true := by
  obtain ⟨same, record, gained⟩ := transition_changes (s := s) (cause := cause) (new := .egress) (fields := id) (by decide) (by decide)
    (by simp [running]) (k4_of_relays relays) rfl room
  refine ⟨_, ?_, same, record, ?_⟩
  · rw [phaseRequest_takes rfl range (by decide) (fits.imp_right fun same => by simp [actAfter, same])]
    simp only [takeTransition, running]
  · rw [phaseEntry, running] at gained
    exact gained

theorem nextAct_taken (interval : s.phase.phase = .interval) (range : act ≤ 5) (fits : act = 0 ∨ act = s.phase.act + 1)
    (before : s.phase.act < 5) (room : roomFor 1 s = true) :
    ∃ t, phaseRequest (some .running) act countdown cause s = (.done, t) ∧
      sameBut phaseParts s t = true ∧ t.phase.record = { s.phase.record with phase := .running, act := s.phase.act + 1 } ∧
      gains (entryNow s .phase [4, 5, byte (s.phase.act + 1), cause.code, flagByte s.phase.showStop]) s t = true := by
  obtain ⟨same, record, gained⟩ := transition_changes (s := s) (cause := cause) (new := .running)
    (fields := fun p => { p with act := p.act + 1 }) (by decide) (by decide) (by simp [interval]) (k4_of_relays relays) rfl room
  refine ⟨_, ?_, same, record, ?_⟩
  · rw [phaseRequest_takes rfl range (by decide) (fits.imp_right fun same => by simp [actAfter, same, interval])]
    have last : s.phase.act ≠ 5 := by omega
    simp only [takeTransition, interval, if_neg last]
  · rw [phaseEntry, interval] at gained
    exact gained

end Taken

end Sys2Proof.Machine
end

section
/-! SUPPORT. The interval and the first act (R42, R43, R55), and the obligation O49. -/

namespace Sys2Proof.Machine

variable {s t u x : State} {h : CommandHeader} {cause : PhaseCause} {target : Phase} {act countdown : Nat}

/-! ## The interval (R43) -/

theorem interval_taken (relays : relaysFollow s = true) (running : s.phase.phase = .running) (range : act ≤ 5)
    (fits : act = 0 ∨ act = s.phase.act) (short : countdown ≤ 3600) (room : roomFor 1 s = true) :
    ∃ t, phaseRequest (some .interval) act countdown cause s = (.done, t) ∧
      sameBut phaseParts s t = true ∧ t.phase.record = { s.phase.record with phase := .interval, intervalLeft := countdown } ∧
      (∀ id e, callEntry t id = some e → e.defn.anchor = some .intervalEnd → e.fired = false) ∧
      gains (entryNow s .phase [5, 4, byte s.phase.act, cause.code, flagByte s.phase.showStop]) s t = true := by
  have answer : phaseRequest (some .interval) act countdown cause s = (.done, beginInterval cause countdown s) := by
    rw [phaseRequest_fits rfl range (interval_fits fits) fun _ => short]
    simp only [takeTransition, running]
  refine ⟨_, answer, ?_⟩
  have cleared := clearIntervalFired_frame (s.onPhase fun p => { p with intervalLeft := countdown })
  have first : sameBut phaseParts s (clearIntervalFired (s.onPhase fun p => { p with intervalLeft := countdown })) = true :=
    sameBut_trans (sameBut_mono (onPhase_frame s _) (by decide)) (sameBut_mono cleared (by decide))
  have record : (clearIntervalFired (s.onPhase fun p => { p with intervalLeft := countdown })).phase.record =
      { s.phase.record with intervalLeft := countdown } := (sameBut_record cleared (by decide)).trans rfl
  have report : (clearIntervalFired (s.onPhase fun p => { p with intervalLeft := countdown })).phase.report = s.phase.report :=
    (sameBut_report cleared (by decide)).trans rfl
  have marks (id : Nat) := callEntry_clearIntervalFired id (s.onPhase fun p => { p with intervalLeft := countdown })
  have clock : (clearIntervalFired (s.onPhase fun p => { p with intervalLeft := countdown })).clock = s.clock :=
    (sameBut_clock cleared (by decide)).trans rfl
  unfold beginInterval
  generalize clearIntervalFired (s.onPhase fun p => { p with intervalLeft := countdown }) = x at *
  have fields := sameFields (q := { s.phase with intervalLeft := countdown }) record
  have phase : x.phase.phase ≠ .evacuating := by simp [fields.phase, running]
  have k4 : x.lights.k4 = s.lights.k4 := by
    have settled := congrArg HouseLights.k4 (sameBut_lights first (by decide))
    exact settled
  have follows : k4Follows x := k4Follows_open (k4_of_relays relays) (by simp [running]) phase k4 (sameBut_zones first (by decide))
  have changed := changePhase_plain (new := .interval) (cause := cause) (fields := id) (s := x) (by decide) (by decide) phase follows
  have entry : phaseEntry .interval cause id x =
      entryNow s .phase [5, 4, byte s.phase.act, cause.code, flagByte s.phase.showStop] := by
    simp only [phaseEntry, entryNow, id, fields.phase, fields.act, fields.showStop, clock, running]
    rfl
  refine ⟨sameBut_trans first changed.same, ?_, fun i e found anchored => ?_, ?_⟩
  · rw [changed.record, phaseEntered_record]
    change { x.phase.record with phase := .interval } = _
    rw [record]
  · have calls : (phaseEntered .interval cause id x).calls = x.calls := sameBut_calls phaseEntered_same (by decide)
    have same : callEntry (changePhase .interval cause id id x) i = callEntry x i :=
      callEntry_congr (changed.defs.trans (congrArg CallUnit.defs calls)) i
    rw [same, marks] at found
    obtain ⟨before, -, rfl⟩ := Option.map_eq_some_iff.1 found
    have scheduled : before.defn.scheduledOn .intervalEnd = true := decide_eq_true anchored
    rw [CallEntry.intervalBegun, scheduled]
    exact Bool.and_false _
  · have gained := changed.gains ((phaseEntered_adds rfl).gains_one (by rwa [roomFor, report]))
    rw [entry] at gained
    exact (gains_congr report rfl).trans gained

/-! ## The first act (R42, R55) -/

/-- The entry of a demonstration that is missed. -/
def missedEntry (s : State) : ReportEntry := entryNow s .demo ([6, 0xFF] ++ bytes2 s.phase.demoTime ++ [0])

/-- What the check of the demonstration leaves (R55, R165). -/
structure DemoMissed (s t : State) : Prop where
  same : sameBut [.curtain, .record, .report, .attention] s t = true
  state : t.curtain.state = s.curtain.state
  mode : t.curtain.mode = s.curtain.mode
  record : t.phase.record = { s.phase.record with demoStatus := .missed }
  raised : isRaised .demoResult t = true
  entry : Adds [missedEntry s] s t

theorem checkDemonstration_passed (passed : s.phase.demoStatus = .passed) : checkDemonstration s = s := if_pos passed

theorem checkDemonstration_misses (other : s.phase.demoStatus ≠ .passed) : DemoMissed s (checkDemonstration s) := by
  have judged (y : State) (curtain : sameBut [.curtain] s y = true) (state : y.curtain.state = s.curtain.state)
      (mode : y.curtain.mode = s.curtain.mode) :
      DemoMissed s (setAttention .demoResult (report .demo ([byte DemoStatus.missed.code, 0xFF] ++
        bytes2 (setDemoStatus .missed y).phase.demoTime ++ [0]) (setDemoStatus .missed y))) := by
    have added := Adds.report .demo ([byte DemoStatus.missed.code, 0xFF] ++ bytes2 (setDemoStatus .missed y).phase.demoTime ++ [0])
      (setDemoStatus .missed y)
    have frame := report_frame .demo ([byte DemoStatus.missed.code, 0xFF] ++ bytes2 (setDemoStatus .missed y).phase.demoTime ++ [0])
      (setDemoStatus .missed y)
    have kept := sameBut_curtain frame (by decide)
    have record := sameBut_record frame (by decide)
    have before := sameBut_record curtain (by decide)
    have time : (setDemoStatus .missed y).phase.demoTime = s.phase.demoTime := (sameFields before).demoTime
    have clock := sameBut_clock curtain (by decide)
    have entries := sameBut_report curtain (by decide)
    refine ⟨?_, (congrArg Curtain.state kept).trans state, (congrArg Curtain.mode kept).trans mode, ?_, isRaised_set _ _, ?_⟩
    · exact sameBut_trans (sameBut_mono curtain (by decide)) (sameBut_trans (sameBut_mono (setDemoStatus_frame .missed y) (by decide))
        (sameBut_trans (sameBut_mono frame (by decide)) (sameBut_mono (setAttention_frame .demoResult _) (by decide))))
    · refine record.trans ?_
      change { y.phase.record with demoStatus := .missed } = _
      rw [before]
    · have entry : entryNow (setDemoStatus .missed y) .demo ([byte DemoStatus.missed.code, 0xFF] ++
          bytes2 (setDemoStatus .missed y).phase.demoTime ++ [0]) = missedEntry s := by
        rw [entryNow, show (setDemoStatus .missed y).clock = s.clock from clock, time]
        rfl
      rw [entry] at added
      exact (added.to rfl).from entries
  unfold checkDemonstration
  rw [if_neg other]
  dsimp only
  split
  · exact judged (stopDwell s) (stopDwell_frame s) rfl rfl
  · exact judged s (sameBut_refl _ s) rfl rfl

/-- The HOLD entry of a hold that is left, and nothing else. -/
theorem leaveHold_adds (previous : Phase) (s : State) : AddsUpTo 1 s (leaveHold previous s) := by
  unfold leaveHold
  split
  · exact (Adds.report .hold _ s).upTo
  · exact .none rfl

theorem leaveHold_same (previous : Phase) (s : State) : sameBut [.report, .attention] s (leaveHold previous s) = true := by
  unfold leaveHold
  split
  · exact report_frame .hold _ s
  · exact sameBut_refl _ s

/-- The state of the first act before the units are told. -/
def firstAct (cause : PhaseCause) (s : State) : State :=
  leaveHold s.phase.phase (phaseEntered .running cause (fun p => { p with act := 1, heldFrom := none, holdPending := false }) s)

theorem firstAct_same : sameBut phaseParts s (firstAct cause s) = true :=
  sameBut_trans (sameBut_mono phaseEntered_same (by decide)) (sameBut_mono (leaveHold_same _ _) (by decide))

theorem firstAct_record : (firstAct cause s).phase.record =
    { s.phase.record with phase := .running, act := 1, heldFrom := none, holdPending := false } :=
  (sameBut_record (leaveHold_same _ _) (by decide)).trans phaseEntered_record

/-- The entry of the first act. -/
def firstActEntry (cause : PhaseCause) (s : State) : ReportEntry :=
  entryNow s .phase [4, byte s.phase.phase.code, 1, cause.code, flagByte s.phase.showStop]

theorem firstAct_gains (room : roomFor 1 s = true) : gains (firstActEntry cause s) s (firstAct cause s) = true :=
  gains_later ((phaseEntered_adds (new := .running) (cause := cause)
    (fields := fun p => { p with act := 1, heldFrom := none, holdPending := false }) rfl).gains_one room) (calm_usual (leaveHold_chain _ _)) rfl

theorem firstAct_few : AddsUpTo 2 s (firstAct cause s) :=
  (phaseEntered_adds (fields := fun p => { p with act := 1, heldFrom := none, holdPending := false }) rfl).upTo.trans (leaveHold_adds _ _)

theorem firstAct_taken (relays : relaysFollow s = true) (before : s.phase.phase = .houseOpen ∨ s.phase.phase = .held) (first : act ≤ 1)
    (room : roomFor 3 s = true) :
    ∃ t, phaseRequest (some .running) act countdown cause s = (.done, t) ∧
      sameBut (.curtain :: phaseParts) s t = true ∧
      t.phase.record = { s.phase.record with
        phase := .running, act := 1, heldFrom := none, holdPending := false
        demoStatus := if s.phase.demoStatus = .passed then .passed else .missed } ∧
      t.curtain.state = s.curtain.state ∧ t.curtain.mode = s.curtain.mode ∧
      gains (firstActEntry cause s) s t = true ∧
      (s.phase.demoStatus ≠ .passed → isRaised .demoResult t = true ∧ gains (missedEntry s) s t = true) := by
  have outside : s.phase.phase ≠ .evacuating := by
    obtain at_ | at_ := before <;> simp [at_]
  have answer : phaseRequest (some .running) act countdown cause s = (.done, beginAct1 cause s) := by
    have fits : act = 0 ∨ actAfter .running s = some act := by
      obtain at_ | at_ := before <;> simp only [actAfter, at_, Option.some.injEq] <;> omega
    rw [phaseRequest_takes rfl (by omega) (by decide) fits]
    obtain at_ | at_ := before <;> simp only [takeTransition, at_]
  refine ⟨_, answer, ?_⟩
  have opened := firstAct_same (cause := cause) (s := s)
  have record := firstAct_record (cause := cause) (s := s)
  have gained := firstAct_gains (cause := cause) (s := s) (by simp only [roomFor, decide_eq_true_eq] at room ⊢; omega)
  have few := firstAct_few (cause := cause) (s := s)
  have changed (x : State) := changePhase_changes (parts := .curtain :: phaseParts) (x := x) (s := s) (new := .running) (cause := cause)
    (fields := fun p => { p with act := 1, heldFrom := none, holdPending := false })
    (further := fun r => checkDemonstration (leaveHold s.phase.phase r)) (by decide) (by decide) outside (k4_of_relays relays)
  change ∀ x, checkDemonstration (firstAct cause s) = x → _ at changed
  have whole : beginAct1 cause s = changePhase .running cause (fun p => { p with act := 1, heldFrom := none, holdPending := false })
    (fun r => checkDemonstration (leaveHold s.phase.phase r)) s := rfl
  rw [whole]
  generalize firstAct cause s = r at *
  have fields := sameFields (q := { s.phase with phase := .running, act := 1, heldFrom := none, holdPending := false }) record
  have curtain : r.curtain = s.curtain := sameBut_curtain opened (by decide)
  have clock : r.clock = s.clock := sameBut_clock opened (by decide)
  by_cases passed : s.phase.demoStatus = .passed
  · have checked := checkDemonstration_passed (fields.demoStatus.trans passed)
    have changed := changed r checked (sameBut_mono opened (by decide)) (by decide) (by decide) (by decide) fields.phase
    refine ⟨changed.same, ?_, by rw [changed.curtain, curtain], by rw [changed.curtain, curtain], changed.gains gained,
      fun other => absurd passed other⟩
    rw [changed.record, record, if_pos passed, ← passed]
    rfl
  · have missed := checkDemonstration_misses (s := r) (fun same => passed (fields.demoStatus.symm.trans same))
    have later := checkDemonstration_chain r
    generalize checkDemonstration r = x at *
    have after := sameFields (q := { r.phase with demoStatus := .missed }) missed.record
    have changed := changed x rfl (sameBut_trans (sameBut_mono opened (by decide)) (sameBut_mono missed.same (by decide))) (by decide)
      (by decide) (by decide) (after.phase.trans fields.phase)
    have entry : missedEntry r = missedEntry s := by rw [missedEntry, missedEntry, entryNow, entryNow, clock, fields.demoTime]
    have added := missed.entry
    rw [entry] at added
    refine ⟨changed.same, ?_, ?_, ?_, changed.gains (gains_later gained (calm_usual later) rfl), fun _ =>
      ⟨changed.raised _ missed.raised, changed.gains (few.gains added room)⟩⟩
    · rw [changed.record, missed.record, record, if_neg passed]
    · rw [changed.curtain, missed.state, curtain]
    · rw [changed.curtain, missed.mode, curtain]

/-! ## PHSE -/

section Request
variable {target act : Byte} {interval : BitVec 16} (a : accepted h s = true)
include a

/-- PHSE is a phase request by a command. -/
theorem phse_refuses {r : Result} (answer : phaseRequest (Phase.ofCode target.toNat) act.toNat interval.toNat .command (begin 0x25 h s) =
    (r, begin 0x25 h s)) : onlyReplies (.phse h target act interval) h 0x25 r s :=
  onlyReplies_simple (code := 0x25) (body := phaseRequest (Phase.ofCode target.toNat) act.toNat interval.toNat .command) rfl a answer

theorem phse_replies {holds : State → Prop} (taken : ∃ t, phaseRequest (Phase.ofCode target.toNat) act.toNat interval.toNat .command
    (begin 0x25 h s) = (.done, t) ∧ holds t) : replies (.phse h target act interval) h 0x25 (.plain .done) s holds := by
  obtain ⟨t, answer, hold⟩ := taken
  exact replies_simple (code := 0x25) (body := phaseRequest (Phase.ofCode target.toNat) act.toNat interval.toNat .command) rfl a answer hold

end Request

theorem zero_or_toNat {b : Byte} {n : Nat} (h : b = 0 ∨ b.toNat = n) : b.toNat = 0 ∨ b.toNat = n :=
  h.imp_left fun zero => by rw [zero]; rfl

theorem toNat_ne_zero {b : Byte} (h : b ≠ 0) : b.toNat ≠ 0 := fun zero => h (BitVec.eq_of_toNat_eq zero)

/-- A target out of range, or one that no request names, is refused (R49 item 1). -/
theorem phaseRequest_outside {target act : Byte} (wrong : target = 0 ∨ target = 1 ∨ target = 3 ∨ 6 < target.toNat ∨ 5 < act.toNat) :
    phaseRequest (Phase.ofCode target.toNat) act.toNat countdown cause s = (.refusedRange, s) := by
  obtain rfl | rfl | rfl | above | long := wrong
  · rfl
  · rfl
  · rfl
  · by_cases evacuating : target.toNat = 7
    · rw [evacuating]
      rfl
    · obtain ⟨n, eq⟩ : ∃ n, target.toNat = n + 8 := ⟨target.toNat - 8, by omega⟩
      rw [eq]
      rfl
  · cases named : Phase.ofCode target.toNat with
    | none => rfl
    | some phase =>
      simp only [phaseRequest, if_pos long, ite_self]

/-- Settles O49: PHSE by its checks in their order, and by the transitions of the table. -/
theorem phaseRequestsFollowTheTable : Obligations.PhaseRequestsFollowTheTable := by
  refine fun h s target act interval a => ⟨fun wrong => phse_refuses a (phaseRequest_outside wrong), ?_, ?_, ?_, ?_, ?_, ?_, ?_, ?_, ?_, ?_⟩
  · rintro rfl rfl preshow relays room
    obtain ⟨t, answer, -, rest⟩ := openHouse_taken (s := begin 0x25 h s) (cause := .command) (countdown := interval.toNat) relays preshow room
    exact phse_replies a ⟨t, answer, rest⟩
  · rintro rfl range wrong
    exact phse_refuses a (openHouse_refused range (wrong.symm.imp_left toNat_ne_zero))
  · rintro rfl first before relays room
    exact phse_replies a (firstAct_taken (s := begin 0x25 h s) (cause := .command) relays before first room)
  · rintro rfl range barred
    refine phse_refuses a (running_refused range ?_)
    obtain at_ | at_ | at_ | at_ | at_ | ⟨at_, above⟩ | ⟨at_, last⟩ := barred
    · exact .inl at_
    · exact .inr (.inl at_)
    · exact .inr (.inr (.inl at_))
    · exact .inr (.inr (.inr (.inl at_)))
    · exact .inr (.inr (.inr (.inr (.inl at_))))
    · exact .inr (.inr (.inr (.inr (.inr (.inl ⟨at_, above⟩)))))
    · exact .inr (.inr (.inr (.inr (.inr (.inr ⟨at_, last.imp_right (And.imp_left toNat_ne_zero)⟩)))))
  · rintro rfl fits range running short relays room
    exact phse_replies a (interval_taken (s := begin 0x25 h s) (cause := .command) relays running range (zero_or_toNat fits) short room)
  · rintro rfl range given other
    exact phse_refuses a (interval_misfit range (toNat_ne_zero given) other)
  · rintro rfl range fits
    exact ⟨fun long => phse_refuses a (interval_long range (zero_or_toNat fits) long),
      fun short other => phse_refuses a (interval_refused range (zero_or_toNat fits) short other)⟩
  · rintro rfl fits range at_ before relays room
    exact phse_replies a (nextAct_taken (s := begin 0x25 h s) (cause := .command) relays at_ range (zero_or_toNat fits) before room)
  · rintro rfl fits range running relays room
    exact phse_replies a (egress_taken (s := begin 0x25 h s) (cause := .command) relays running range (zero_or_toNat fits) room)
  · rintro rfl range wrong
    exact phse_refuses a (egress_refused range (wrong.imp_right (And.imp_left toNat_ne_zero)))

end Sys2Proof.Machine
end

section
/-! SUPPORT. What the close request of ENPF leaves of a demonstration, and what it does where no zone is masked (R119, R164,
R165). -/

namespace Sys2Proof.Machine

variable {s t u p : State} {cause : ZoneCause} {before : AlarmRecord} {origin : Byte}

/-! ## Where no demonstration is in its descent, the stage alarm leaves the performance record -/

theorem releaseInAlarm_record (other : s.phase.demoStatus ≠ .lowering) (fault : Option FaultCause) :
    (releaseInAlarm fault s).phase.record = s.phase.record := by
  by_cases reading : lineReading s 1 = .active
  · have record := releasedToFloor_record fault s
    rw [releaseInAlarm_floor fault s reading, judgeDescent_idle (by rwa [demoStatus_of_record record]), record]
  · rw [releaseInAlarm_open fault s reading, enterReleased_record]

theorem setPending_record (pending : Pending) (mode : Mode) (s : State) : (setPending pending mode s).phase.record = s.phase.record := by
  unfold setPending
  split
  · rfl
  · exact changeCurtain_record _ s

theorem stageAlarmRow_record (other : s.phase.demoStatus ≠ .lowering) : (stageAlarmRow s).phase.record = s.phase.record := by
  unfold stageAlarmRow
  split
  · rfl
  · rfl
  · exact releaseInAlarm_record other _
  · exact releaseInAlarm_record other _
  · split
    · exact releaseInAlarm_record other _
    · split
      · exact changeCurtain_record _ s
      · split
        · exact setPending_record _ _ s
        · split
          · split
            · rfl
            · exact changeCurtain_record _ s
          · exact (changeCurtain_record (.moving .lowering .emergency) (descentOpened s)).trans rfl

theorem curtainToldStage_record (other : s.phase.demoStatus ≠ .lowering) (stage : Bool) :
    (curtainToldStage stage s).phase.record = s.phase.record := by
  unfold curtainToldStage
  split
  · rfl
  · split
    · obtain ⟨timer, eq⟩ := risen_eq s
      have same : (risen s).phase = s.phase := by rw [eq]; rfl
      rw [stageAlarmRises_eq, stageAlarmRow_record (by rwa [same]), same]
    · rfl

theorem curtainToldAlarm_record (idle : s.phase.demoStatus.inProgress = false) (before : AlarmRecord) :
    (curtainToldAlarm before s).phase.record = s.phase.record := by
  have other : s.phase.demoStatus ≠ .lowering := fun lowering => by
    rw [lowering] at idle
    nomatch idle
  unfold curtainToldAlarm
  dsimp only
  rw [idle, Bool.and_false, if_neg (by decide)]
  exact curtainToldStage_record other _

/-! ## The telling in a step without an evacuation -/

/-- What follows the telling of the Curtain Supervisor where nobody evacuates. -/
theorem handOn_id_later (before : AlarmRecord) (origin : Byte) (s : State) :
    IronKept (curtainToldAlarm before (setAttention .alarmChange (reportAlarm origin s))) (handOn id before origin s) ∧
      Chain alarmKinds (curtainToldAlarm before (setAttention .alarmChange (reportAlarm origin s))) (handOn id before origin s) := by
  have calls : IronKept (curtainToldAlarm before (setAttention .alarmChange (reportAlarm origin s))) (toldAlarm before origin s) :=
    IronKept.trans (t := deriveK4 (curtainToldAlarm before (setAttention .alarmChange (reportAlarm origin s)))) ⟨rfl, rfl, rfl⟩
      (ironKept_of_sameBut (callsToldAlarm_frame _ _) (by decide) (by decide))
  have told : Chain alarmKinds (curtainToldAlarm before (setAttention .alarmChange (reportAlarm origin s))) (toldAlarm before origin s) :=
    (deriveK4_chain _).trans (calm_alarm (callsToldAlarm_chain before _))
  have request (after : AlarmRecord) (x : State) : IronKept x (staffRequest before after x) := by
    unfold staffRequest
    split
    · exact ironKept_of_sameBut (requestCall_frame _ _ x) (by decide) (by decide)
    · exact .refl x
  have ends (after : AlarmRecord) (x : State) : IronKept x (notice true (staffRequest before after x)) :=
    (request after x).trans (ironKept_of_sameBut (notice_frame true _) (by decide) (by decide))
  have same : handOn id before origin s = notice true (staffRequest before s.zones.alarm (toldAlarm before origin s)) := by
    simp only [handOn, id, ite_self]
    rfl
  rw [same]
  exact ⟨calls.trans (ends _ _), told.trans (calm_alarm ((staffRequest_chain _ _ _).trans (notice_chain _ _)))⟩

/-! ## The close request -/

section Request
variable (cause)

theorem closeAllWindows_shut (s : State) : windowsShut (closeAllWindows cause s) :=
  closureKeeps_shut.stepWith (fun _ => id) (closeWindows_all_shut cause s)

theorem stepRecord_alarm (change : State → State) (s : State) : (stepRecord change s).zones.alarm = derivedAlarm (stepRecord change s) := by
  unfold stepRecord
  generalize alarmClosure (change s) = x
  rfl

/-- The close request closes the windows, and hands a change of the record on. -/
theorem closeAllWindows_cases (s : State) : ∃ x, sameBut zoneParts s x = true ∧ (closeAllWindows cause s = x ∨
    (x.zones.alarm = derivedAlarm x ∧ IronKept (curtainToldAlarm s.zones.alarm x) (closeAllWindows cause s) ∧
      Chain alarmKinds (curtainToldAlarm s.zones.alarm x) (closeAllWindows cause s))) := by
  have closed : sameBut zoneParts s (alarmClosure (closeWindows allWindows cause s)) = true :=
    sameBut_trans (closeWindows_frame _ _ s) (alarmClosure_frame _)
  obtain ⟨-, same⟩ | handed := zoneStepWith_cases id 0xFF (closeWindows allWindows cause) s
  · exact ⟨_, closed, .inl same⟩
  · have entered : sameBut zoneParts s (stepRecord (closeWindows allWindows cause) s) = true :=
      sameBut_trans closed (sameBut_mono (onZones_frame _ _) (by decide))
    have record := stepRecord_alarm (closeWindows allWindows cause) s
    have later := handOn_id_later s.zones.alarm 0xFF (stepRecord (closeWindows allWindows cause) s)
    rw [← handed] at later
    generalize stepRecord (closeWindows allWindows cause) s = x at *
    have opened : sameBut zoneParts x (setAttention .alarmChange (reportAlarm 0xFF x)) = true :=
      sameBut_trans (sameBut_mono (report_frame .alarm _ x) (by decide)) (sameBut_mono (setAttention_frame _ _) (by decide))
    have zones : (setAttention .alarmChange (reportAlarm 0xFF x)).zones = x.zones :=
      sameBut_zones (changed := [.report, .attention]) (sameBut_trans (sameBut_mono (report_frame .alarm _ x) (by decide))
        (sameBut_mono (setAttention_frame _ _) (by decide))) (by decide)
    refine ⟨_, sameBut_trans entered opened, .inr ⟨?_, later⟩⟩
    rw [derivedAlarm_congr (congrArg _ zones) (congrArg _ zones), zones]
    exact record

end Request

/-- The telling of a step that leaves no zone confirmed changes nothing of the demonstration. -/
theorem curtainToldAlarm_none (none_ : s.zones.alarm.confirmed = []) (quiet : s.zones.alarm.stage = false) (before : AlarmRecord) :
    (curtainToldAlarm before s).phase = s.phase ∧ (curtainToldAlarm before s).curtain.sequence = s.curtain.sequence := by
  unfold curtainToldAlarm
  dsimp only
  rw [none_, if_neg (by simp), quiet]
  unfold curtainToldStage
  split
  · exact ⟨rfl, rfl⟩
  · exact ⟨rfl, rfl⟩

/-- A close request leaves the demonstration's status where none is in progress. -/
theorem closeAllWindows_idle_status (idle : s.phase.demoStatus.inProgress = false) :
    (closeAllWindows cause s).phase.demoStatus = s.phase.demoStatus := by
  obtain ⟨x, same, quiet | ⟨-, kept, -⟩⟩ := closeAllWindows_cases cause s
  · rw [quiet]
    exact demoStatus_of_record (sameBut_record same (by decide))
  · have status : x.phase.demoStatus = s.phase.demoStatus := demoStatus_of_record (sameBut_record same (by decide))
    rw [kept.status, demoStatus_of_record (curtainToldAlarm_record (by rw [status, idle]) _), status]

/-- A demonstration in progress goes on after a close request, or the confirmed set that it fills fails it (R164). -/
theorem closeAllWindows_going (going : s.phase.demoStatus.inProgress = true) (calm : s.zones.alarm.confirmed = []) :
    (closeAllWindows cause s).phase.demoStatus = s.phase.demoStatus ∨
      ((closeAllWindows cause s).phase.demoStatus = .failed .alarm ∧ isRaised .demoResult (closeAllWindows cause s) = true ∧
        (closeAllWindows cause s).curtain.sequence.dwellTimer = none) := by
  obtain ⟨x, same, quiet | ⟨record, kept, later⟩⟩ := closeAllWindows_cases cause s
  · rw [quiet]
    exact .inl (demoStatus_of_record (sameBut_record same (by decide)))
  · have status : x.phase.demoStatus = s.phase.demoStatus := demoStatus_of_record (sameBut_record same (by decide))
    by_cases none_ : x.zones.alarm.confirmed = []
    · have stage : x.zones.alarm.stage = false := by
        rw [record] at none_ ⊢
        exact sideConfirmed_none none_ .stage
      exact .inl (by rw [kept.status, (curtainToldAlarm_none none_ stage _).1, status])
    · have fails : curtainToldAlarm s.zones.alarm x = recordDemo (.failed .alarm) (curtainToldStage x.zones.alarm.stage x) := by
        unfold curtainToldAlarm
        dsimp only
        exact if_pos (by simp [calm, none_, status, going])
      rw [fails] at kept later
      refine .inr ⟨kept.status.trans (recordDemo_demoStatus _ _), chain_raised later (by decide) ?_, ?_⟩
      · rw [isRaised_recordDemo (by decide)]
        simp
      · rw [kept.curtain, recordDemo_curtain]
        rfl

/-! ## The close request where no zone is masked -/

theorem closeWindow_few (w : Nat) (s : State) : AddsUpTo 1 s (closeWindow cause w s) := by
  unfold closeWindow
  split
  · exact .none rfl
  · split
    · next window _ _ =>
      have entry := Adds.report .zone [windowByte w, byte (windowCode false), byte (windowCode true), cause.code]
        (setWindow w { window with isOpen := false, timer := none } s)
      exact (entry.from (s := s) rfl).upTo
    · exact .none rfl

theorem forEach_closeWindow_few (windows : List Nat) (s : State) : AddsUpTo windows.length s (forEach windows (closeWindow cause) s) := by
  induction windows generalizing s with
  | nil => exact .none rfl
  | cons w rest ih =>
    rw [forEach_cons, List.length_cons, Nat.add_comm]
    exact (closeWindow_few w s).trans (ih _)

theorem forEach_closeWindow_panel (windows : List Nat) (s : State) :
    (forEach windows (closeWindow cause) s).zones.panel = s.zones.panel := by
  refine forEach_induction (fun t => t.zones.panel = s.zones.panel) _ windows s (fun w _ t ht => ?_) rfl
  refine Eq.trans ?_ ht
  unfold closeWindow
  split
  · rfl
  · split
    · next window _ _ =>
      have same := sameBut_zones (report_frame .zone [windowByte w, byte (windowCode false), byte (windowCode true), cause.code]
        (setWindow w { window with isOpen := false, timer := none } t)) (by decide)
      have panel := congrArg ZoneMonitor.panel same
      exact panel
    · rfl

/-- Without a masked zone the close request closes the windows, and that is all. -/
theorem closeAllWindows_unmasked (derived : recordDerived s = true) (unmasked : ∀ z, zoneIs s z .masked = false) :
    sameBut zoneParts s (closeAllWindows cause s) = true ∧ AddsUpTo 16 s (closeAllWindows cause s) ∧
      Chain zoneKinds s (closeAllWindows cause s) := by
  have closed : closeWindows allWindows cause s = forEach (allWindows.filter (windowOpen s)) (closeWindow cause) s := by
    have none_ : uncovered (allWindows.filter (windowOpen s)) (forEach (allWindows.filter (windowOpen s)) (closeWindow cause) s) = [] := by
      refine List.filter_eq_nil_iff.2 fun z _ => ?_
      have bare : zoneIs (forEach (allWindows.filter (windowOpen s)) (closeWindow cause) s) z .masked = false := by
        rw [zoneIs, forEach_closeWindow_zoneAt]
        exact unmasked z
      simp [bare]
    rw [closeWindows, none_, forEach_nil, forEach_nil]
  have stays : alarmClosure (closeWindows allWindows cause s) = closeWindows allWindows cause s :=
    alarmClosure_shut_id (closeWindows_all_shut cause s)
  have record : derivedAlarm (closeWindows allWindows cause s) = s.zones.alarm := by
    rw [closed, (recordDerived_iff.1 derived).1]
    exact derivedAlarm_of_states (forEach_closeWindow_panel _ s) fun i => by rw [forEach_closeWindow_zoneAt]
  have whole : closeAllWindows cause s = closeWindows allWindows cause s := by
    rw [closeAllWindows, zoneStepWith, stays]
    exact if_pos record
  have few : (allWindows.filter (windowOpen s)).length ≤ 16 := (List.length_filter_le _ _).trans (by decide)
  rw [whole]
  refine ⟨closeWindows_frame _ _ s, ?_, closeWindows_chain _ _ s⟩
  rw [closed]
  exact (forEach_closeWindow_few _ s).mono few

end Sys2Proof.Machine
end

section
/-! SUPPORT. The obligation O51: the end of a performance. -/

namespace Sys2Proof.Machine

variable {s t u x y : State} {h : CommandHeader} {cause : PhaseCause}

/-- The state with the record of CLOSED and the entries of the change. -/
def closedEntered (previous : Phase) (s : State) : State := leaveHold previous (phaseEntered .closed .command id s)

theorem closedEntered_same (previous : Phase) : sameBut [.report, .record, .attention] s (closedEntered previous s) = true :=
  sameBut_trans phaseEntered_same (sameBut_mono (leaveHold_same _ _) (by decide))

theorem closedEntered_record (previous : Phase) : (closedEntered previous s).phase.record = { s.phase.record with phase := .closed } :=
  ((sameBut_record (leaveHold_same _ _) (by decide)).trans phaseEntered_record).trans rfl

/-- What the change to CLOSED leaves before the Curtain Supervisor is told of it. -/
structure AtClosing (s y : State) : Prop where
  record : y.phase.record = { s.phase.record with phase := .closed }
  curtain : y.curtain = s.curtain
  clock : y.clock = s.clock
  raised : ∀ flag, isRaised flag s = true → isRaised flag y = true

theorem atClosing (previous : Phase) (s : State) : AtClosing s (deriveK4 (closedEntered previous s)) := by
  have same := closedEntered_same (s := s) previous
  have record := closedEntered_record (s := s) previous
  have raised (flag : Flag) (up : isRaised flag s = true) : isRaised flag (closedEntered previous s) = true :=
    chain_raised (s := s.onPhase fun p => { p with phase := .closed })
      ((reportPhase_chain .closed s.phase.phase .command _).trans (leaveHold_chain previous _)) (by decide) up
  generalize closedEntered previous s = x at *
  have curtain := sameBut_curtain same (by decide)
  have clock := sameBut_clock same (by decide)
  exact ⟨record, curtain, clock, raised⟩

/-- What the telling of CLOSED leaves after the demonstration's end. -/
structure ClosedTold (y t : State) : Prop where
  record : t.phase.record = y.phase.record
  kept : IronKept y t
  work : CallWork y t
  chain : Chain calm y t
  noticed : noticed true t fun v => v.phase.phase = .closed

theorem changePhase_closed (previous : Phase) (s : State) : ClosedTold (failDemo .stopped (deriveK4 (closedEntered previous s)))
    (changePhase .closed .command id (leaveHold previous) s) := by
  have told : changePhase .closed .command id (leaveHold previous) s =
      notice true (callsToldPhase .closed s.phase.phase (failDemo .stopped (deriveK4 (closedEntered previous s)))) := rfl
  have record := closedEntered_record (s := s) previous
  rw [told]
  generalize closedEntered previous s = x at *
  have ends := failDemo_record .stopped (deriveK4 x)
  have phase : (failDemo .stopped (deriveK4 x)).phase.phase = .closed :=
    (congrArg (fun p : PhaseUnit => p.phase) ends).trans (congrArg (fun p : PhaseUnit => p.phase) record)
  generalize failDemo .stopped (deriveK4 x) = y at *
  have calls := callsToldPhase_frame .closed s.phase.phase y
  have noted := notice_frame true (callsToldPhase .closed s.phase.phase y)
  exact ⟨(sameBut_record noted (by decide)).trans (sameBut_record calls (by decide)),
    (ironKept_of_sameBut calls (by decide) (by decide)).trans (ironKept_of_sameBut noted (by decide) (by decide)),
    (CallWork.callsToldPhase _ _ _).trans (CallWork.notice _ _), (callsToldPhase_chain _ _ _).trans (notice_chain _ _),
    ⟨_, rfl, (phase_of_record (sameBut_record calls (by decide))).trans phase⟩⟩

/-- The end of the demonstration at CLOSED (R165). -/
theorem failDemo_ends (reason : DemoReason) (y : State) :
    (y.phase.demoStatus.inProgress = false → failDemo reason y = y) ∧
      (y.phase.demoStatus.inProgress = true → (failDemo reason y).phase.demoStatus = .failed reason ∧
        isRaised .demoResult (failDemo reason y) = true ∧ (failDemo reason y).curtain.sequence.dwellTimer = none) := by
  refine ⟨fun idle => failDemo_idle idle, fun going => ?_⟩
  rw [failDemo_going going, recordDemo_demoStatus, isRaised_recordDemo (by decide), recordDemo_curtain]
  simp [Curtain.undwelled]

/-! ## ENPF -/

/-- The state that ENPF leaves (R46). -/
def ended (s : State) : State :=
  changePhase .closed .command id (leaveHold s.phase.phase) (closeAllWindows .ended (s.onPhase PhaseUnit.leaving))

theorem ended_placed (s : State) : (ended s).phase.placed = { s.phase.leaving.placed with phase := .closed } := by
  have left := chain_placed (closeAllWindows_chain .ended (s.onPhase PhaseUnit.leaving)) (by decide) (by decide) (by decide)
  unfold ended
  generalize closeAllWindows .ended (s.onPhase PhaseUnit.leaving) = x at *
  have told := (changePhase_closed s.phase.phase x).record
  rw [failDemo_record] at told
  have status : ∀ (p : PhaseUnit) (d : DemoStatus), ({ p.record with demoStatus := d } : PhaseUnit).placed = p.record.placed := fun _ _ => rfl
  have placed : (changePhase .closed .command id (leaveHold s.phase.phase) x).phase.placed = (closedEntered s.phase.phase x).phase.record.placed := by
    have same := congrArg PhaseUnit.placed told
    rw [status] at same
    exact same
  rw [placed, closedEntered_record]
  have closed := congrArg (fun p : PhaseUnit => { p with phase := .closed }) left
  exact closed

theorem ended_fields (s : State) : (ended s).phase.phase = .closed ∧ (ended s).phase.curtainUp = 0 ∧ (ended s).phase.intervalLeft = 0 ∧
    (ended s).phase.heldFrom = none ∧ (ended s).phase.saved = none ∧ (ended s).phase.holdPending = false ∧
    (ended s).phase.showStop = false ∧ (ended s).phase.act = s.phase.act ∧ (ended s).phase.number = s.phase.number := by
  have placed := ended_placed s
  generalize ended s = t at *
  simp only [PhaseUnit.placed, PhaseUnit.record, PhaseUnit.leaving, PhaseUnit.mk.injEq] at placed
  obtain ⟨phase, number, act, held, saved, up, left, -, -, pending, stop, -⟩ := placed
  exact ⟨phase, up, left, held, saved, pending, stop, act, number⟩

/-- A performance ends where it runs, and no alarm stands in an evacuation (R46). -/
theorem endPerformance_ends (open_ : s.phase.phase ≠ .closed) (calm : s.phase.phase = .evacuating → s.zones.alarm.confirmed = []) :
    endPerformance s = (.done, ended s) := by
  refine (if_neg open_).trans (if_neg ?_)
  rintro ⟨evacuating, alarm⟩
  exact alarm (calm evacuating)

theorem ended_same (s : State) : sameBut alarmParts s (ended s) = true :=
  sameBut_trans (sameBut_mono (onPhase_frame s _) (by decide))
    (sameBut_trans (closeAllWindows_frame .ended _) (changePhase_frame _ _ _ (leaveHold_frame s.phase.phase) _))

theorem ended_shut (s : State) (w : Nat) : windowOpen (ended s) w = false :=
  windowOpen_of_shut (closureKeeps_shut.changePhase (fun _ => calm_routine (leaveHold_chain _ _)) (closeAllWindows_shut .ended _)) w

/-- What the end of a performance makes of a demonstration. -/
theorem ended_demo (s : State) :
    (s.phase.demoStatus.inProgress = false → (ended s).phase.demoStatus = s.phase.demoStatus) ∧
      (s.phase.demoStatus.inProgress = true → s.zones.alarm.confirmed = [] →
        ((ended s).phase.demoStatus = .failed .stopped ∨ (ended s).phase.demoStatus = .failed .alarm) ∧
        isRaised .demoResult (ended s) = true ∧ (ended s).curtain.sequence.dwellTimer = none) := by
  have idle := closeAllWindows_idle_status (cause := .ended) (s := s.onPhase PhaseUnit.leaving)
  have going := closeAllWindows_going (cause := .ended) (s := s.onPhase PhaseUnit.leaving)
  unfold ended
  generalize closeAllWindows .ended (s.onPhase PhaseUnit.leaving) = x at *
  obtain ⟨-, told, -, later, -⟩ := changePhase_closed s.phase.phase x
  obtain ⟨record, curtain, -, raised⟩ := atClosing s.phase.phase x
  generalize deriveK4 (closedEntered s.phase.phase x) = y at *
  generalize changePhase .closed .command id (leaveHold s.phase.phase) x = t at *
  have before : y.phase.demoStatus = x.phase.demoStatus := (sameFields (q := { x.phase with phase := .closed }) record).demoStatus
  obtain ⟨stays, fails⟩ := failDemo_ends .stopped y
  refine ⟨fun none_ => ?_, fun some_ calm => ?_⟩
  · rw [told.status, stays (by rw [before, idle none_]; exact none_), before, idle none_]
    rfl
  · obtain on | ⟨failed, up, dwell⟩ := going some_ calm
    · obtain ⟨status, up, dwell⟩ := fails (by rw [before, on]; exact some_)
      exact ⟨.inl (told.status.trans status), chain_raised later (by decide) up, by rw [told.curtain, dwell]⟩
    · rw [stays (by rw [before, failed]; rfl)] at told later
      exact ⟨.inr (told.status.trans (before.trans failed)), chain_raised later (by decide) (raised _ up), by rw [told.curtain, curtain, dwell]⟩

/-! ## The entries of the end -/

/-- The entry of a hold that is left with its countdown cleared. -/
def heldEntry (s : State) : ReportEntry := entryNow s .hold ([1] ++ bytes2 s.phase.curtainUp ++ [flagByte s.phase.holdPending])

theorem leaveHold_entry (previous : Phase) (s : State) :
    Adds (if previous = .held then [heldEntry s] else []) s (leaveHold previous s) := by
  unfold leaveHold
  split
  · exact Adds.report .hold _ s
  · exact .none rfl

/-- The entries of a change to CLOSED: its own, the hold's and the demonstration's. -/
theorem closing_adds (previous : Phase) (s : State) : Adds
    ([phaseEntry .closed .command id s] ++ (if previous = .held then [heldEntry s] else []) ++
      (if s.phase.demoStatus.inProgress then [demoEntry (.failed .stopped) s] else [])) s
    (failDemo .stopped (deriveK4 (closedEntered previous s))) := by
  have first := phaseEntered_adds (s := s) (new := .closed) (cause := .command) (fields := id) rfl
  have hold := leaveHold_entry previous (phaseEntered .closed .command id s)
  have before := phaseEntered_fields (s := s) (new := .closed) (cause := .command) (fields := id)
  have clock : (phaseEntered .closed .command id s).clock = s.clock := sameBut_clock phaseEntered_same (by decide)
  have entry : heldEntry (phaseEntered .closed .command id s) = heldEntry s := by
    rw [heldEntry, heldEntry, entryNow, entryNow, clock, before.curtainUp, before.holdPending]
    rfl
  rw [entry] at hold
  have closing := atClosing previous s
  have reached : Adds _ (closedEntered previous s) (deriveK4 (closedEntered previous s)) := Adds.none rfl
  have ends := failDemo_adds .stopped (deriveK4 (closedEntered previous s))
  have fields := sameFields (q := { s.phase with phase := .closed }) closing.record
  have judged : demoEntry (.failed .stopped) (deriveK4 (closedEntered previous s)) = demoEntry (.failed .stopped) s := by
    simp only [demoEntry, entryNow, closing.clock, closing.curtain, fields.demoTime]
  rw [judged, fields.demoStatus] at ends
  have whole := ((first.trans hold).trans reached).trans ends
  rwa [List.append_nil] at whole

/-- The entries of the end of a performance: its own, the hold's and the demonstration's. -/
def endEntries (s : State) : List ReportEntry :=
  [entryNow s .phase [0, byte s.phase.phase.code, byte s.phase.act, 0, 0]] ++
    (if s.phase.phase = .held then [entryNow s .hold [1, 0, 0, 0]] else []) ++
    (if s.phase.demoStatus.inProgress then
      [entryNow s .demo ([5, 5] ++ bytes2 s.phase.demoTime ++ [s.curtain.sequence.markByte])] else [])

theorem endEntries_few (s : State) : (endEntries s).length ≤ 3 := by
  unfold endEntries
  split <;> split <;> simp

/-- The end of a performance where no zone is masked. -/
theorem ended_unmasked (derived : recordDerived s = true) (unmasked : ∀ z, zoneIs s z .masked = false) :
    (s.phase.demoStatus.inProgress = true → (ended s).phase.demoStatus = .failed .stopped) ∧
      (ended s).curtain.state = s.curtain.state ∧ (ended s).curtain.mode = s.curtain.mode ∧
      (roomFor 19 s = true →
        gains (entryNow s .phase [0, byte s.phase.phase.code, byte s.phase.act, 0, 0]) s (ended s) = true ∧
        (s.phase.phase = .held → gains (entryNow s .hold [1, 0, 0, 0]) s (ended s) = true) ∧
        (s.phase.demoStatus.inProgress = true → gains
          (entryNow s .demo ([5, 5] ++ bytes2 s.phase.demoTime ++ [s.curtain.sequence.markByte])) s (ended s) = true)) := by
  obtain ⟨same, few, -⟩ := closeAllWindows_unmasked (cause := .ended) (s := s.onPhase PhaseUnit.leaving)
    (recordDerived_of_same (s := s) rfl rfl derived) unmasked
  have closing := closing_adds s.phase.phase (closeAllWindows .ended (s.onPhase PhaseUnit.leaving))
  have told := changePhase_closed s.phase.phase (closeAllWindows .ended (s.onPhase PhaseUnit.leaving))
  have entered := atClosing s.phase.phase (closeAllWindows .ended (s.onPhase PhaseUnit.leaving))
  have record := sameBut_record same (by decide)
  have curtain := sameBut_curtain same (by decide)
  have clock := sameBut_clock same (by decide)
  unfold ended
  generalize closeAllWindows .ended (s.onPhase PhaseUnit.leaving) = x at *
  have before : AddsUpTo 16 s x := by
    obtain ⟨entries, few, adds⟩ := few
    exact ⟨entries, few, adds.from (s := s) rfl⟩
  have fields := sameFields (q := s.phase.leaving) record
  have status : x.phase.demoStatus = s.phase.demoStatus := fields.demoStatus
  have was : x.curtain = s.curtain := curtain
  have phaseIs : phaseEntry .closed .command id x = entryNow s .phase [0, byte s.phase.phase.code, byte s.phase.act, 0, 0] := by
    simp only [phaseEntry, entryNow, id, fields.phase, fields.act, fields.showStop, clock]
    rfl
  have holdIs : heldEntry x = entryNow s .hold [1, 0, 0, 0] := by
    have zero : x.phase.curtainUp = 0 := fields.curtainUp
    have pending : x.phase.holdPending = false := fields.holdPending
    rw [heldEntry, entryNow, clock, zero, pending]
    exact congrArg (fun data => ReportEntry.mk s.clock .hold data) (by decide)
  have demoIs : demoEntry (.failed .stopped) x =
      entryNow s .demo ([5, 5] ++ bytes2 s.phase.demoTime ++ [s.curtain.sequence.markByte]) := by
    simp only [demoEntry, entryNow, fields.demoTime, clock, was]
    rfl
  rw [phaseIs, holdIs, demoIs, status, ← endEntries] at closing
  have going : (deriveK4 (closedEntered s.phase.phase x)).phase.demoStatus = s.phase.demoStatus :=
    (sameFields (q := { x.phase with phase := .closed }) entered.record).demoStatus.trans status
  have ends := failDemo_ends .stopped (deriveK4 (closedEntered s.phase.phase x))
  have iron := failDemo_curtain .stopped (deriveK4 (closedEntered s.phase.phase x))
  rw [going] at ends
  rw [entered.curtain, was] at iron
  generalize failDemo .stopped (deriveK4 (closedEntered s.phase.phase x)) = y at *
  generalize changePhase .closed .command id (leaveHold s.phase.phase) x = t at *
  have state : y.curtain.state = s.curtain.state ∧ y.curtain.mode = s.curtain.mode := by
    rw [iron]
    split <;> exact ⟨rfl, rfl⟩
  refine ⟨fun some_ => told.kept.status.trans (ends.2 some_).1, by rw [told.kept.curtain, state.1], by rw [told.kept.curtain, state.2],
    fun room => ?_⟩
  have gained (entry : ReportEntry) (mem : entry ∈ endEntries s) : gains entry s t = true := by
    have three := endEntries_few s
    have added : gains entry s y = true := AddsUpTo.gains_mem before closing mem (by
      simp only [roomFor, decide_eq_true_eq] at room ⊢
      omega)
    simp only [gains, decide_eq_true_eq] at added ⊢
    exact lt_of_lt_of_le added (told.work.grows.sublist.count_le _)
  exact ⟨gained _ (by simp [endEntries]), fun held => gained _ (by simp [endEntries, held]), fun some_ => gained _ (by simp [endEntries, some_])⟩

/-- Settles O51: ENPF by its conditions, and the end by its close request and its change to CLOSED. -/
theorem endPerformanceCloses : Obligations.EndPerformanceCloses := by
  refine fun h s a => ⟨fun barred => ?_, fun open_ calm => ?_⟩
  · have answer : endPerformance (begin 0x29 h s) = (.refusedState, begin 0x29 h s) := by
      obtain closed | alarm := barred
      · exact if_pos closed
      · refine (if_neg ?_).trans (if_pos alarm)
        rw [begin_phase, alarm.1]
        decide
    exact onlyReplies_simple (code := 0x29) (body := endPerformance) rfl a answer
  · refine replies_simple (code := 0x29) (body := endPerformance) rfl a (endPerformance_ends (s := begin 0x29 h s) open_ calm) ?_
    obtain ⟨phase, up, left, held, saved, pending, stop, act, number⟩ := ended_fields (begin 0x29 h s)
    obtain ⟨idle, going⟩ := ended_demo (begin 0x29 h s)
    refine ⟨ended_same _, phase, up, left, held, saved, pending, stop, act, number, idle, fun some_ outside => ?_,
      ended_shut _, fun derived unmasked => ended_unmasked (s := begin 0x29 h s) derived unmasked, ?_⟩
    · exact going some_ (demoOutsideAlarm_iff.1 outside some_)
    · exact (changePhase_closed s.phase.phase _).noticed

end Sys2Proof.Machine
end

section
/-! SUPPORT. A command row and the payload that spells it: the checks in their order (R204, R205), and the obligation O38. -/

namespace Sys2Proof.Machine

variable {s t : State} {h : CommandHeader} {code : Byte} {arguments : List Byte} {c : Instr} {run : State → State}

/-! ## What every command makes of its first checks -/

/-- A command that does not reach the unit changes nothing, and one from another node than the controller is refused (R204
check 1). -/
structure Checked (code : Byte) (h : CommandHeader) (run : State → State) : Prop where
  unreached : ∀ s, reachesUnit h.source s = false → run s = s
  source : ∀ s, reachesUnit h.source s = true → fromController h.source s = false →
    run s = replied h code (.plain .refusedSource) (begin code h s)

theorem checked_execute {checks : Checks} {body : State → Executed} : Checked code h (execute code h checks body) where
  unreached _ out := execute_unreached out
  source _ reaches other := execute_refused reaches (if_pos (by simp [other]))

theorem checked_load {table : Byte} {lockable : Bool} {lengthOf : List Byte → Option Nat} {apply : List Byte → State → Response} :
    Checked code h (runLoad code table lockable lengthOf apply h arguments) := by
  unfold runLoad
  split
  · exact checked_execute
  · exact checked_execute

theorem checked_of {checks : Checks} {body : State → Executed} (row : ∀ s, run s = execute code h checks body s) :
    Checked code h run := by
  rw [show run = execute code h checks body from funext row]
  exact checked_execute

theorem checked_simple {body : State → Response} (row : ∀ s, run s = simple code h body s) : Checked code h run := checked_of row

theorem checked_sttb : Checked 0x18 h (runSttb h) where
  unreached s out := if_pos (by simp [out])
  source s reaches other := by
    have wrong : fromController h.source (begin 0x18 h s) = false := other
    have fails : failedCheck h.source { fits := true, needsStore := true, lockable := false } (begin 0x18 h s) = some .refusedSource := by
      refine if_pos ?_
      rw [wrong]
      decide
    rw [runSttb, if_neg (by simp [reaches])]
    simp only [fails]
    rfl

theorem number2_toNat (x : BitVec 16) : number2 (byte (x.toNat / 256)) (byte x.toNat) = x.toNat := number2_bytes x.isLt

/-- A command row is a checked run, which its code and arguments spell (R204, R221). -/
theorem commandBytes_spells (spelled : commandBytes c = some (h, code, arguments)) :
    ∃ run, (∀ s, exec c s = whilePowered s run) ∧ commandOf code h arguments = some (some run) ∧ Checked code h run := by
  cases c <;> cases spelled
  case ldpo | ldcu | ldzn | ldcl | ldpt | ldrt | ldpf => exact ⟨_, fun _ => rfl, rfl, checked_load⟩
  case rdst | rdzn | rdqu | rdrp | rdtb | cltb | rstr | arst => exact ⟨_, fun _ => rfl, rfl, checked_of fun _ => rfl⟩
  case acka mask =>
    refine ⟨runAcka h mask, fun _ => rfl, ?_, checked_of fun _ => rfl⟩
    change some (some (runAcka h (BitVec.ofNat 16 (number2 (byte (mask.toNat / 256)) (byte mask.toNat))))) = _
    rw [number2_toNat, BitVec.ofNat_toNat, BitVec.setWidth_eq]
  case bgpf number countdown =>
    refine ⟨runBgpf h number.toNat countdown.toNat, fun _ => rfl, ?_, checked_simple fun _ => rfl⟩
    change some (some (runBgpf h (number2 (byte (number.toNat / 256)) (byte number.toNat))
      (number2 (byte (countdown.toNat / 256)) (byte countdown.toNat)))) = _
    rw [number2_toNat, number2_toNat]
  case stcd value =>
    refine ⟨runStcd h value.toNat, fun _ => rfl, ?_, checked_simple fun _ => rfl⟩
    change some (some (runStcd h (number2 (byte (value.toNat / 256)) (byte value.toNat)))) = _
    rw [number2_toNat]
  case phse target act interval =>
    refine ⟨runPhse h target act interval.toNat, fun _ => rfl, ?_, checked_simple fun _ => rfl⟩
    change some (some (runPhse h target act (number2 (byte (interval.toNat / 256)) (byte interval.toNat)))) = _
    rw [number2_toNat]
  case hfad group level time =>
    refine ⟨runHfad h group level.toNat time.toNat, fun _ => rfl, ?_, checked_simple fun _ => rfl⟩
    change some (some (runHfad h group (number2 (byte (level.toNat / 256)) (byte level.toNat))
      (number2 (byte (time.toNat / 256)) (byte time.toNat)))) = _
    rw [number2_toNat, number2_toNat]
  case sttb => exact ⟨_, fun _ => rfl, rfl, checked_sttb⟩
  all_goals exact ⟨_, fun _ => rfl, rfl, checked_simple fun _ => rfl⟩

/-! ## The payload at the unit -/

theorem exec_payload (source : Byte) (payload : List Byte) (s : State) :
    exec (.unknownCommand source payload) s = whilePowered s (runPayload source payload) := rfl

theorem refuseFrame_eq (result : Result) (s : State) : refuseFrame h.source (code :: h.sequence :: arguments) result s =
    replied h code (.plain result) (begin code h s) := rfl

/-- A payload that spells a checked run does what the run does. -/
theorem runPayload_spelled (spells : commandOf code h arguments = some (some run)) (checked : Checked code h run) (s : State) :
    runPayload h.source (code :: h.sequence :: arguments) s = run s := by
  cases reaches : reachesUnit h.source s with
  | false => rw [runPayload, reaches, if_neg (by decide), checked.unreached s reaches]
  | true =>
    rw [runPayload, reaches, if_pos rfl, takeCommand]
    cases source : fromController h.source s with
    | false => rw [if_pos (by decide), refuseFrame_eq, checked.source s reaches source]
    | true =>
      rw [if_neg (by decide)]
      simp only [spells]

/-- Settles O38: the payload of a command row spells the row's run. -/
theorem payloadsSpellCommands : Obligations.PayloadsSpellCommands := by
  intro c s h code arguments spelled
  obtain ⟨run, row, spells, checked⟩ := commandBytes_spells spelled
  rw [exec_payload, row, whilePowered, whilePowered, runPayload_spelled spells checked]

end Sys2Proof.Machine
end

section
/-! SUPPORT. A load's bytes cut into whole entries (R205). -/

namespace Sys2Proof.Machine

variable {lengthOf : List Byte → Option Nat} {fuel : Nat} {bytes e : List Byte} {entries : List (List Byte)}

/-- The entry is whole wherever it stands: its length is read at its start. -/
def Whole (lengthOf : List Byte → Option Nat) (e : List Byte) : Prop := e ≠ [] ∧ ∀ rest, lengthOf (e ++ rest) = some e.length

/-- What a cut leaves: the bytes in entries, each of the length read at its start. -/
theorem cutEntries_some (cut : cutEntries lengthOf fuel bytes = some entries) :
    entries.flatten = bytes ∧ ∀ e ∈ entries, e ≠ [] ∧ ∃ rest, lengthOf (e ++ rest) = some e.length := by
  induction fuel generalizing bytes entries with
  | zero =>
    cases bytes with
    | nil =>
      cases cut
      exact ⟨rfl, by simp⟩
    | cons => nomatch cut
  | succ fuel ih =>
    cases bytes with
    | nil =>
      cases cut
      exact ⟨rfl, by simp⟩
    | cons b rest =>
      unfold cutEntries at cut
      cases long : lengthOf (b :: rest) with
      | none =>
        simp only [long] at cut
        nomatch cut
      | some n =>
        simp only [long] at cut
        split at cut
        · nomatch cut
        · next fits =>
          rw [not_or, not_lt] at fits
          obtain ⟨later, cutRest, rfl⟩ := Option.map_eq_some_iff.1 cut
          obtain ⟨joined, whole⟩ := ih cutRest
          have length : ((b :: rest).take n).length = n := List.length_take_of_le fits.2
          refine ⟨by rw [List.flatten_cons, joined, List.take_append_drop], fun e mem => ?_⟩
          obtain rfl | mem := List.mem_cons.1 mem
          · refine ⟨fun none_ => fits.1 ?_, (b :: rest).drop n, ?_⟩
            · rw [← length, none_, List.length_nil]
            · rw [List.take_append_drop, long, length]
          · exact whole e mem

theorem entriesOf_some (cut : entriesOf lengthOf bytes = some entries) :
    entries ≠ [] ∧ entries.flatten = bytes ∧ ∀ e ∈ entries, e ≠ [] ∧ ∃ rest, lengthOf (e ++ rest) = some e.length := by
  unfold entriesOf at cut
  split at cut
  · nomatch cut
  · nomatch cut
  · next found some_ whole =>
    cases cut
    exact ⟨some_, cutEntries_some whole⟩

/-- Whole entries one behind the other are cut apart as they are. -/
theorem cutEntries_flatten (whole : ∀ e ∈ entries, Whole lengthOf e) (enough : entries.flatten.length ≤ fuel) :
    cutEntries lengthOf fuel entries.flatten = some entries := by
  induction entries generalizing fuel with
  | nil => cases fuel <;> rfl
  | cons e rest ih =>
    obtain ⟨some_, long⟩ := whole e List.mem_cons_self
    rw [List.flatten_cons] at enough ⊢
    obtain ⟨b, others, rfl⟩ := List.exists_cons_of_ne_nil some_
    cases fuel with
    | zero => simp at enough
    | succ fuel =>
      have at_ := long rest.flatten
      rw [List.cons_append] at at_
      rw [List.cons_append, cutEntries, at_]
      have fits : ¬ ((b :: others).length = 0 ∨ (b :: (others ++ rest.flatten)).length < (b :: others).length) := by
        simp
      have later := ih (fuel := fuel) (fun e mem => whole e (List.mem_cons_of_mem _ mem)) (by
        rw [List.length_append, List.length_cons] at enough
        omega)
      dsimp only
      rw [if_neg fits, ← List.cons_append, List.drop_left, List.take_left, later]
      rfl

theorem entriesOf_flatten (whole : ∀ e ∈ entries, Whole lengthOf e) (some_ : entries ≠ []) :
    entriesOf lengthOf entries.flatten = some entries := by
  rw [entriesOf, cutEntries_flatten whole le_rfl]
  cases entries with
  | nil => exact absurd rfl some_
  | cons => rfl

/-! ## The lengths of the tables -/

theorem whole_fixed {n : Nat} (some_ : n ≠ 0) (length : e.length = n) : Whole (fixedLength n) e :=
  ⟨fun none_ => some_ (by rw [← length, none_, List.length_nil]), fun _ => by rw [fixedLength, length]⟩

theorem whole_cue (length : (e[3]?).map (fun count => 4 + 6 * count.toNat) = some e.length) : Whole cueLength e := by
  match e, length with
  | a :: b :: c :: count :: rest, length => exact ⟨by simp, fun _ => length⟩

theorem whole_zone (length : (e.head? = some 0 ∧ e.length = 6) ∨ (e.head? = some 1 ∧ e.length = 10)) : Whole zoneLength e := by
  cases e with
  | nil => simp at length
  | cons b rest =>
    refine ⟨by simp, fun _ => ?_⟩
    rw [List.cons_append, zoneLength]
    obtain ⟨zone, length⟩ | ⟨window, length⟩ := length
    · rw [if_pos (Option.some.inj zone), length]
    · rw [if_neg (by rw [Option.some.inj window]; decide), if_pos (Option.some.inj window), length]

theorem fixedLength_of_some {n : Nat} {rest : List Byte} (long : fixedLength n (e ++ rest) = some e.length) : e.length = n :=
  (Option.some.inj long).symm

theorem cueLength_of_some {rest : List Byte} (long : cueLength (e ++ rest) = some e.length) :
    (e[3]?).map (fun count => 4 + 6 * count.toNat) = some e.length := by
  match e with
  | a :: b :: c :: count :: others => exact long
  | [] | [_] | [_, _] | [_, _, _] =>
    exfalso
    revert long
    unfold cueLength
    split
    · intro long
      exact absurd (Option.some.inj long) (by simp only [List.length_cons, List.length_nil]; omega)
    · nofun

theorem zoneLength_of_some {rest : List Byte} (some_ : e ≠ []) (long : zoneLength (e ++ rest) = some e.length) :
    (e.head? = some 0 ∧ e.length = 6) ∨ (e.head? = some 1 ∧ e.length = 10) := by
  obtain ⟨b, others, rfl⟩ := List.exists_cons_of_ne_nil some_
  rw [List.cons_append, zoneLength] at long
  split at long
  · next zero => exact .inl ⟨congrArg some zero, (Option.some.inj long).symm⟩
  · split at long
    · next one => exact .inr ⟨congrArg some one, (Option.some.inj long).symm⟩
    · nomatch long

/-- Bytes that are not one or more entries of these lengths are not cut. -/
theorem entriesOf_none {isEntry : List Byte → Prop}
    (reads : ∀ e rest, e ≠ [] → lengthOf (e ++ rest) = some e.length → isEntry e)
    (none_ : ¬ ∃ entries : List (List Byte), entries ≠ [] ∧ entries.flatten = bytes ∧ ∀ e ∈ entries, isEntry e) :
    entriesOf lengthOf bytes = none := by
  cases cut : entriesOf lengthOf bytes with
  | none => rfl
  | some entries =>
    obtain ⟨some_, joined, whole⟩ := entriesOf_some cut
    refine absurd ⟨entries, some_, joined, fun e mem => ?_⟩ none_
    obtain ⟨filled, rest, long⟩ := whole e mem
    exact reads e rest filled long

end Sys2Proof.Machine
end

section
/-! SUPPORT. The commands that the checks refuse (R204, R205, R212, R218), and the obligation O39. -/

namespace Sys2Proof.Machine

variable {s t : State} {h : CommandHeader} {code : Byte} {arguments payload : List Byte} {c : Instr}

/-! ## The checks, each where the ones before it pass -/

theorem failedCheck_length {checks : Checks} (a : accepted h s = true) (misfit : checks.fits = false) :
    failedCheck h.source checks s = some .badLength := by
  have source : fromController h.source s = true := (Bool.and_eq_true _ _ ▸ a).2
  rw [failedCheck, if_neg (by simp [source]), if_pos (by simp [misfit])]

theorem failedCheck_busy {checks : Checks} (a : accepted h s = true) (fits : checks.fits = true) (needs : checks.needsStore = true)
    (busy : s.command.store.isSome = true) : failedCheck h.source checks s = some .refusedBusy := by
  have source : fromController h.source s = true := (Bool.and_eq_true _ _ ▸ a).2
  rw [failedCheck, if_neg (by simp [source]), if_neg (by simp [fits]), if_pos ⟨needs, busy⟩]

theorem failedCheck_locked {checks : Checks} (a : accepted h s = true) (fits : checks.fits = true) (idle : s.command.store = none)
    (lockable : checks.lockable = true) (locked : s.phase.phase.locked = true) :
    failedCheck h.source checks s = some .refusedLocked := by
  have source : fromController h.source s = true := (Bool.and_eq_true _ _ ▸ a).2
  rw [failedCheck, if_neg (by simp [source]), if_neg (by simp [fits]), if_neg (by simp [idle]), if_pos ⟨lockable, locked⟩]

theorem reaches_of_accepted (a : accepted h s = true) : reachesUnit h.source s = true := by
  simp only [accepted, Bool.and_eq_true] at a
  obtain ⟨⟨_, reaches⟩, _⟩ := a
  exact reaches

theorem source_of_accepted (a : accepted h s = true) : fromController h.source s = true := by
  simp only [accepted, Bool.and_eq_true] at a
  obtain ⟨_, source⟩ := a
  exact source

theorem locked_of (closed : s.phase.phase ≠ .closed) (preshow : s.phase.phase ≠ .preshow) : s.phase.phase.locked = true := by
  cases phase : s.phase.phase with
  | closed => exact absurd phase closed
  | preshow => exact absurd phase preshow
  | houseOpen | held | running | interval | egress | evacuating => rfl

/-! ## A row that fails a check -/

theorem onlyReplies_execute {checks : Checks} {body : State → Executed} {result : Result}
    (row : exec c s = whilePowered s (execute code h checks body)) (a : accepted h s = true)
    (fails : failedCheck h.source checks s = some result) : onlyReplies c h code result s := by
  unfold onlyReplies
  rw [row, whilePowered_of_powered (powered_of_accepted a), execute_refused (reaches_of_accepted a) fails]

section Load

variable {table : Byte} {lockable : Bool} {lengthOf : List Byte → Option Nat} {apply : List Byte → State → Response}

theorem runLoad_none (uncut : entriesOf lengthOf arguments = none) (s : State) :
    runLoad code table lockable lengthOf apply h arguments s =
      execute code h { fits := false, needsStore := true, lockable := lockable }
        (fun s => { answer := .plain .badLength, state := s }) s := by
  simp only [runLoad, uncut]

theorem runLoad_some {entries : List (List Byte)} (cut : entriesOf lengthOf arguments = some entries) (s : State) :
    runLoad code table lockable lengthOf apply h arguments s =
      execute code h { fits := true, needsStore := true, lockable := lockable } (loadEntries table apply entries) s := by
  simp only [runLoad, cut]

/-- A load is the run of its bytes. -/
def LoadRow (c : Instr) (code table : Byte) (lockable : Bool) (lengthOf : List Byte → Option Nat)
    (apply : List Byte → State → Response) (h : CommandHeader) (bytes : List Byte) (s : State) : Prop :=
  exec c s = whilePowered s (runLoad code table lockable lengthOf apply h bytes)

theorem load_row {entries : List (List Byte)} (row : LoadRow c code table lockable lengthOf apply h arguments s)
    (cut : entriesOf lengthOf arguments = some entries) :
    exec c s = whilePowered s (execute code h { fits := true, needsStore := true, lockable := lockable }
      (loadEntries table apply entries)) := by
  rw [row, whilePowered, whilePowered, runLoad_some cut]

theorem load_misfit (row : LoadRow c code table lockable lengthOf apply h arguments s) (a : accepted h s = true)
    (uncut : entriesOf lengthOf arguments = none) : onlyReplies c h code .badLength s := by
  refine onlyReplies_execute (checks := { fits := false, needsStore := true, lockable := lockable })
    (body := fun s => { answer := .plain .badLength, state := s }) ?_ a (failedCheck_length a rfl)
  rw [row, whilePowered, whilePowered, runLoad_none uncut]

theorem load_busy (row : LoadRow c code table lockable lengthOf apply h arguments s) (a : accepted h s = true)
    (busy : s.command.store.isSome = true) (cut : (entriesOf lengthOf arguments).isSome = true) :
    onlyReplies c h code .refusedBusy s := by
  obtain ⟨entries, cut⟩ := Option.isSome_iff_exists.1 cut
  exact onlyReplies_execute (load_row row cut) a (failedCheck_busy a rfl rfl busy)

theorem load_locked (row : LoadRow c code table true lengthOf apply h arguments s) (a : accepted h s = true)
    (idle : s.command.store = none) (locked : s.phase.phase.locked = true) (cut : (entriesOf lengthOf arguments).isSome = true) :
    onlyReplies c h code .refusedLocked s := by
  obtain ⟨entries, cut⟩ := Option.isSome_iff_exists.1 cut
  exact onlyReplies_execute (load_row row cut) a (failedCheck_locked a rfl idle rfl locked)

end Load

/-! ## A payload that is no command -/

theorem exec_accepted (a : accepted h s = true) (payload : List Byte) :
    exec (.unknownCommand h.source payload) s = .next (takeCommand h.source payload s) := by
  rw [exec_payload, whilePowered_of_powered (powered_of_accepted a), runPayload, if_pos (reaches_of_accepted a)]

theorem onlyReplies_unknown (a : accepted h s = true) (unknown : commandOf code h arguments = none) :
    onlyReplies (.unknownCommand h.source (code :: h.sequence :: arguments)) h code .unknownCommand s := by
  unfold onlyReplies
  rw [exec_accepted a, takeCommand, if_neg (by simp [source_of_accepted a])]
  simp only [unknown]
  rfl

theorem onlyReplies_misfit (a : accepted h s = true) (misfit : commandOf code h arguments = some none) :
    onlyReplies (.unknownCommand h.source (code :: h.sequence :: arguments)) h code .badLength s := by
  unfold onlyReplies
  rw [exec_accepted a, takeCommand, if_neg (by simp [source_of_accepted a])]
  simp only [misfit]
  rfl

/-- A code outside the list names no command. -/
theorem commandOf_unknown (unknown : code.toNat ∉ commandCodes) : commandOf code h arguments = none := by
  unfold commandOf
  dsimp only
  split
  case h_43 => rfl
  all_goals exact absurd (by simp only [*]; decide) unknown

/-! ## Argument lengths -/

section Arguments

variable {α : Type}

theorem none_of_length (f : α) (misfit : arguments.length ≠ 0) : (match arguments with
    | [] => some f
    | _ => none) = none := by
  match arguments with
  | [] => exact absurd rfl misfit
  | _ :: _ => rfl

theorem one_of_length (f : Byte → α) (misfit : arguments.length ≠ 1) : (match arguments with
    | [a] => some (f a)
    | _ => none) = none := by
  match arguments with
  | [_] => exact absurd rfl misfit
  | [] | _ :: _ :: _ => rfl

theorem two_of_length (f : Byte → Byte → α) (misfit : arguments.length ≠ 2) : (match arguments with
    | [a, b] => some (f a b)
    | _ => none) = none := by
  match arguments with
  | [_, _] => exact absurd rfl misfit
  | [] | [_] | _ :: _ :: _ :: _ => rfl

theorem four_of_length (f : Byte → Byte → Byte → Byte → α) (misfit : arguments.length ≠ 4) : (match arguments with
    | [a, b, c, d] => some (f a b c d)
    | _ => none) = none := by
  match arguments with
  | [_, _, _, _] => exact absurd rfl misfit
  | [] | [_] | [_, _] | [_, _, _] | _ :: _ :: _ :: _ :: _ :: _ => rfl

theorem five_of_length (f : Byte → Byte → Byte → Byte → Byte → α) (misfit : arguments.length ≠ 5) : (match arguments with
    | [a, b, c, d, e] => some (f a b c d e)
    | _ => none) = none := by
  match arguments with
  | [_, _, _, _, _] => exact absurd rfl misfit
  | [] | [_] | [_, _] | [_, _, _] | [_, _, _, _] | _ :: _ :: _ :: _ :: _ :: _ :: _ => rfl

end Arguments

/-- The codes whose argument length is fixed, each with its length. -/
def fixedLengths : List (Nat × Nat) :=
  [(0x01, 1), (0x02, 2), (0x03, 2), (0x04, 0), (0x05, 1), (0x06, 2), (0x17, 1), (0x18, 0), (0x19, 0), (0x20, 4), (0x21, 0),
    (0x22, 0), (0x23, 0), (0x24, 2), (0x25, 4), (0x26, 0), (0x27, 0), (0x28, 0), (0x29, 0), (0x30, 0), (0x31, 0), (0x32, 0),
    (0x33, 0), (0x34, 0), (0x38, 5), (0x39, 1), (0x3A, 1), (0x40, 1), (0x41, 1), (0x42, 1), (0x43, 1), (0x44, 1), (0x48, 1),
    (0x49, 1), (0x4A, 2)]

theorem commandOf_misfit : ∀ row ∈ fixedLengths, arguments.length ≠ row.2 → commandOf (byte row.1) h arguments = some none := by
  simp only [fixedLengths, List.forall_mem_cons]
  exact ⟨fun n => congrArg some (one_of_length _ n), fun n => congrArg some (two_of_length _ n),
    fun n => congrArg some (two_of_length _ n), fun n => congrArg some (none_of_length _ n),
    fun n => congrArg some (one_of_length _ n), fun n => congrArg some (two_of_length _ n),
    fun n => congrArg some (one_of_length _ n), fun n => congrArg some (none_of_length _ n),
    fun n => congrArg some (none_of_length _ n), fun n => congrArg some (four_of_length _ n),
    fun n => congrArg some (none_of_length _ n), fun n => congrArg some (none_of_length _ n),
    fun n => congrArg some (none_of_length _ n), fun n => congrArg some (two_of_length _ n),
    fun n => congrArg some (four_of_length _ n), fun n => congrArg some (none_of_length _ n),
    fun n => congrArg some (none_of_length _ n), fun n => congrArg some (none_of_length _ n),
    fun n => congrArg some (none_of_length _ n), fun n => congrArg some (none_of_length _ n),
    fun n => congrArg some (none_of_length _ n), fun n => congrArg some (none_of_length _ n),
    fun n => congrArg some (none_of_length _ n), fun n => congrArg some (none_of_length _ n),
    fun n => congrArg some (five_of_length _ n), fun n => congrArg some (one_of_length _ n),
    fun n => congrArg some (one_of_length _ n), fun n => congrArg some (one_of_length _ n),
    fun n => congrArg some (one_of_length _ n), fun n => congrArg some (one_of_length _ n),
    fun n => congrArg some (one_of_length _ n), fun n => congrArg some (one_of_length _ n),
    fun n => congrArg some (one_of_length _ n), fun n => congrArg some (one_of_length _ n),
    fun n => congrArg some (two_of_length _ n), nofun⟩

/-! ## The obligation -/

/-- A command from another node than the controller (R204 check 1). -/
theorem onlyReplies_source (spelled : commandBytes c = some (h, code, arguments)) (powered : s.powered = true)
    (reaches : reachesUnit h.source s = true) (other : fromController h.source s = false) :
    onlyReplies c h code .refusedSource s := by
  obtain ⟨run, row, _, checked⟩ := commandBytes_spells spelled
  unfold onlyReplies
  rw [row, whilePowered_of_powered powered, checked.source s reaches other]

/-- The payload of a refused row is refused as the row is (R204, O38). -/
theorem onlyReplies_payload {result : Result} (spelled : commandBytes c = some (h, code, arguments))
    (refused : onlyReplies c h code result s) :
    onlyReplies (.unknownCommand h.source (code :: h.sequence :: arguments)) h code result s :=
  (payloadsSpellCommands c s h code arguments spelled).trans refused

theorem onlyReplies_short (a : accepted h s = true) (zero : h.sequence = 0) :
    onlyReplies (.unknownCommand h.source []) h 0 .badLength s ∧
    onlyReplies (.unknownCommand h.source [code]) h code .badLength s := by
  obtain ⟨source, sequence⟩ := h
  cases zero
  constructor
  all_goals
    unfold onlyReplies
    rw [exec_accepted a]
    unfold takeCommand
    rw [if_neg (by simp [source_of_accepted a])]
    rfl

theorem sttb_busy (a : accepted h s = true) (busy : s.command.store.isSome = true) :
    onlyReplies (.sttb h) h 0x18 .refusedBusy s := by
  have fails : failedCheck h.source { fits := true, needsStore := true, lockable := false } (begin 0x18 h s) = some .refusedBusy :=
    failedCheck_busy (s := begin 0x18 h s) a rfl rfl busy
  have runs : runSttb h s = replied h 0x18 (.plain .refusedBusy) (begin 0x18 h s) := by
    rw [runSttb, if_neg (by simp [reaches_of_accepted a])]
    simp only [fails]
    rfl
  unfold onlyReplies
  rw [show exec (.sttb h) s = whilePowered s (runSttb h) from rfl, whilePowered_of_powered (powered_of_accepted a), runs]

/-- Settles O39: each check refuses, and nothing but the REPLY comes of it. -/
theorem refusedCommandsChangeNothing : Obligations.RefusedCommandsChangeNothing := by
  refine ⟨fun c s h code arguments => onlyReplies_source, fun s h code arguments a unknown => onlyReplies_unknown a (commandOf_unknown unknown),
    fun s h arguments a => ?_, fun s h code => onlyReplies_short, fun s h entries table a idle closed preshow => ?_,
    fun s h entries table a busy => ?_⟩
  · dsimp only
    refine ⟨fun row mem misfit => onlyReplies_misfit a (commandOf_misfit row mem misfit), fun n => ?_, fun n => ?_, fun n => ?_,
      fun n => ?_, fun n => ?_, fun n => ?_⟩
    · have refused : onlyReplies (.ldpo h arguments) h 0x10 .badLength s :=
        load_misfit rfl a (entriesOf_none (fun _ _ _ => fixedLength_of_some) n)
      exact ⟨onlyReplies_payload rfl refused, refused⟩
    · have refused : onlyReplies (.ldcu h arguments) h 0x11 .badLength s :=
        load_misfit rfl a (entriesOf_none (fun _ _ _ => cueLength_of_some) n)
      exact ⟨onlyReplies_payload rfl refused, refused⟩
    · have refused : onlyReplies (.ldzn h arguments) h 0x12 .badLength s :=
        load_misfit rfl a (entriesOf_none (fun _ _ => zoneLength_of_some) n)
      exact ⟨onlyReplies_payload rfl refused, refused⟩
    · have refused : onlyReplies (.ldcl h arguments) h 0x13 .badLength s :=
        load_misfit rfl a (entriesOf_none (fun _ _ _ => fixedLength_of_some) n)
      exact ⟨onlyReplies_payload rfl refused, refused⟩
    · have patterns : onlyReplies (.ldpt h arguments) h 0x14 .badLength s :=
        load_misfit rfl a (entriesOf_none (fun _ _ _ => fixedLength_of_some) n)
      have areas : onlyReplies (.ldrt h arguments) h 0x15 .badLength s :=
        load_misfit rfl a (entriesOf_none (fun _ _ _ => fixedLength_of_some) n)
      exact ⟨onlyReplies_payload rfl patterns, patterns, onlyReplies_payload rfl areas, areas⟩
    · have refused : onlyReplies (.ldpf h arguments) h 0x16 .badLength s :=
        load_misfit rfl a (entriesOf_none (fun _ _ _ => fixedLength_of_some) n)
      exact ⟨onlyReplies_payload rfl refused, refused⟩
  · have locked := locked_of closed preshow
    exact ⟨load_locked rfl a idle locked, load_locked rfl a idle locked, load_locked rfl a idle locked,
      fun covered => onlyReplies_execute (checks := { fits := true, needsStore := true, lockable := tableLockable table })
        (body := clearCommand table) rfl a (failedCheck_locked a rfl idle (decide_eq_true covered) locked)⟩
  · exact ⟨load_busy rfl a busy, load_busy rfl a busy, load_busy rfl a busy, load_busy rfl a busy,
      fun cut => ⟨load_busy rfl a busy cut, load_busy rfl a busy cut⟩, load_busy rfl a busy,
      onlyReplies_execute (checks := { fits := true, needsStore := true, lockable := tableLockable table })
        (body := clearCommand table) rfl a (failedCheck_busy a rfl rfl busy),
      sttb_busy a busy,
      onlyReplies_execute (checks := { fits := true, needsStore := true, lockable := false }) rfl a (failedCheck_busy a rfl rfl busy)⟩

end Sys2Proof.Machine
end

section
/-! SUPPORT. The data of the read replies in the layouts of section 11.9 (R207 to R210, R221), and the obligation O40. -/

namespace Sys2Proof.Machine

variable {s t : State} {h : CommandHeader} {code : Byte} {c : Instr}

/-! ## A read -/

theorem exec_read {read : State → Option (List Byte)} {data : List Byte}
    (row : exec c s = whilePowered s (execute code h .plain fun s => readAnswer (read s) s)) (a : accepted h s = true)
    (found : read (begin code h s) = some data) :
    exec c s = .next (replied h code { result := .done, data := data } (begin code h s)) := by
  rw [row, whilePowered_of_powered (powered_of_accepted a), execute_accepted a rfl (by simp [Checks.plain]) (by simp [Checks.plain])]
  simp only [found]
  rfl

theorem exec_read_refused {read : State → Option (List Byte)}
    (row : exec c s = whilePowered s (execute code h .plain fun s => readAnswer (read s) s)) (a : accepted h s = true)
    (absent : read (begin code h s) = none) : onlyReplies c h code .refusedRange s := by
  unfold onlyReplies
  rw [row, whilePowered_of_powered (powered_of_accepted a), execute_accepted a rfl (by simp [Checks.plain]) (by simp [Checks.plain])]
  simp only [absent]
  rfl

/-! ## Fields -/

theorem optionTime_eq (t : Option Time) : optionTime t = bytes4 ((t.map BitVec.toNat).getD 0xFFFFFFFF) := by
  cases t with
  | none => decide
  | some t => rfl

theorem optionBytes2_eq (n : Option Nat) : optionBytes2 n = bytes2 (n.getD 0xFFFF) := by
  cases n with
  | none => decide
  | some n => rfl

theorem ring_code (ring : RingState) : byte ring.code = if ring = .ok then 1 else 0 := by
  cases ring <;> decide

theorem owner_code (owner : Owner) : byte owner.code = if owner = .console then 1 else 0 := by
  cases owner <;> decide

theorem plan_code (plan : Plan) : byte plan.code = if plan = .b then 1 else 0 := by
  cases plan <;> decide

theorem window_code (isOpen : Bool) : byte (windowCode isOpen) = if isOpen then 9 else 8 := by
  cases isOpen <;> decide

theorem windowItem_eq (s : State) (w : Nat) (window : Window) : windowItem s w window = fun d =>
    [byte w, if window.isOpen then 9 else 8] ++ bytes2 (if window.isOpen then timeLeft 1000 window.timer s.clock else 0) ++
      bytes2 d.duration ++ maskBytes 6 d.zones :=
  funext fun d => by rw [windowItem, window_code]

theorem policyEntry_bytes : PolicyEntry.bytes = fun e =>
    e.defn.bytes ++ [e.lastLevel] ++ [flagByte e.silent] ++ optionTime e.lastConsole ++ optionTime e.lastOutput :=
  funext fun e => by
    rw [PolicyEntry.bytes]
    simp only [List.append_assoc, List.cons_append, List.nil_append]

theorem group_status : Group.status = fun g => bytes2 g.level ++ [if g.owner = .console then 1 else 0] ++
    bytes2 ((g.fade.map Fade.start).getD 0xFFFF) ++ bytes2 ((g.fade.map Fade.target).getD 0xFFFF) ++
    bytes4 ((g.fade.map Fade.steps).getD 0xFFFFFFFF) ++ bytes4 ((g.fade.map Fade.index).getD 0xFFFFFFFF) := by
  funext g
  rw [Group.status, optionBytes2_eq, optionBytes2_eq, owner_code]
  cases g.fade with
  | none => simp only [List.append_assoc]; rfl
  | some fade => simp only [List.append_assoc]; rfl

theorem timeLeft_eq (unit : Nat) (timer : Option Timer) (now : Time) : timeLeft unit timer now =
    match timer with
    | none => 0
    | some t => (t.length - min (now - t.start).toNat 2147483647 + (unit - 1)) / unit := by
  cases timer with
  | none => rfl
  | some t =>
    change (t.left now + unit - 1) / unit = (t.left now + (unit - 1)) / unit
    cases unit with
    | zero => rw [Nat.div_zero, Nat.div_zero]
    | succ n => rfl

theorem timeLeft_one (timer : Timer) (now : Time) : timeLeft 1 (some timer) now = timer.left now := Nat.div_one _

/-! ## Whole items -/

theorem takeFitting_whole (room : Nat) (items : List (List Byte)) :
    ∃ n ≤ items.length, takeFitting room items = (items.take n).flatten ∧ (items.take n).flatten.length ≤ room ∧
      (n < items.length → room < (items.take n).flatten.length + ((items[n]?).getD []).length) := by
  induction items generalizing room with
  | nil => exact ⟨0, le_rfl, rfl, Nat.zero_le _, nofun⟩
  | cons item rest ih =>
    rw [takeFitting]
    split
    · next fits =>
      obtain ⟨n, few, taken, short, next_⟩ := ih (room - item.length)
      refine ⟨n + 1, Nat.succ_le_succ few, ?_, ?_, fun more => ?_⟩
      · rw [List.take_succ_cons, List.flatten_cons, taken]
      · rw [List.take_succ_cons, List.flatten_cons, List.length_append]
        omega
      · have := next_ (Nat.lt_of_succ_lt_succ more)
        rw [List.take_succ_cons, List.flatten_cons, List.length_append, List.getElem?_cons_succ]
        omega
    · next full => exact ⟨0, Nat.zero_le _, rfl, Nat.zero_le _, fun _ => by simpa using full⟩

theorem fitted_takeFitting {head : List Byte} (length : head.length = 4) {items listed : List (List Byte)} (same : listed = items) :
    fitted head listed (head ++ takeFitting (replyRoom - 4) items) := by
  subst same
  obtain ⟨n, few, taken, short, next_⟩ := takeFitting_whole (replyRoom - 4) listed
  have room : replyRoom - 4 = 233 := rfl
  refine ⟨n, few, by rw [taken], ?_, fun more => ?_⟩
  · rw [taken, List.length_append, length]
    omega
  · have := next_ more
    rw [taken, List.length_append, length]
    omega

/-! ## Tables held by number -/

section Numbered

variable {α β : Type} {n : Nat}

theorem filterMap_zipIdx (g : α × Nat → Option β) (table : Vector α n) :
    table.toList.zipIdx.filterMap g = (List.range n).filterMap fun i => (table[i]?).bind fun entry => g (entry, i) := by
  have listed : table.toList.zipIdx.map some = (List.range n).map fun i => (table[i]?).map fun entry => (entry, i) := by
    refine List.ext_getElem? fun i => ?_
    by_cases inside : i < n
    · simp [inside]
    · simp [not_lt.1 inside]
  calc table.toList.zipIdx.filterMap g = (table.toList.zipIdx.map some).filterMap fun x => x.bind g := by
        rw [List.filterMap_map]
        rfl
    _ = (List.range n).filterMap fun i => (table[i]?).bind fun entry => g (entry, i) := by
        rw [listed, List.filterMap_map]
        refine congrArg (List.filterMap · _) (funext fun i => ?_)
        simp only [Function.comp_apply]
        cases table[i]? <;> rfl

theorem numbered_eq (table : Vector (Option α) n) :
    numbered table = (List.range n).filterMap fun i => ((table[i]?).join).map fun e => (i, e) := by
  rw [numbered, filterMap_zipIdx]
  refine congrArg (List.filterMap · _) (funext fun i => ?_)
  cases table[i]? <;> rfl

theorem map_numbered (f : Nat → α → β) (table : Vector (Option α) n) :
    (numbered table).map (fun (i, e) => f i e) = (List.range n).filterMap fun i => ((table[i]?).join).map (f i) := by
  rw [numbered_eq, List.map_filterMap]
  refine congrArg (List.filterMap · _) (funext fun i => ?_)
  cases (table[i]?).join <;> rfl

end Numbered

/-! ## The items of a reply -/

theorem zoneItems_eq (s : State) (first : Nat) :
    zoneItems s first = ((List.range 48).filterMap fun z => if first ≤ z then (zoneAt s z).map (zoneItem s z) else none) ++
      [panelItem s] := by
  rw [zoneItems, numbered_eq, List.filter_filterMap, List.map_filterMap]
  refine congrArg (· ++ _) (congrArg (List.filterMap · _) (funext fun z => ?_))
  change _ = if first ≤ z then ((s.zones.zones[z]?).join).map (zoneItem s z) else none
  cases (s.zones.zones[z]?).join with
  | none => simp
  | some zone =>
    by_cases from_ : first ≤ z
    · simp [from_]
    · simp [not_le.1 from_, from_]

theorem windowItems_eq (s : State) (first : Nat) :
    windowItems s first = (List.range 16).filterMap fun w => if first ≤ w then
      (s.zones.windows[w]?).bind fun window => window.defn.map (windowItem s w window) else none := by
  rw [windowItems, filterMap_zipIdx]
  refine congrArg (List.filterMap · _) (funext fun w => ?_)
  cases s.zones.windows[w]? with
  | none => simp
  | some window =>
    cases defn : window.defn with
    | none => simp [defn]
    | some d => simp [defn]

theorem zoneDefs_eq (s : State) (f : Nat → ZoneDef → List Byte) : (numbered (zoneDefs s)).map (fun (z, d) => f z d) =
    (List.range 48).filterMap fun z => (zoneAt s z).map fun zone => f z zone.defn := by
  rw [map_numbered]
  refine congrArg (List.filterMap · _) (funext fun z => ?_)
  rw [zoneDefs, mapTable_getElem?, zoneAt]
  cases s.zones.zones[z]? with
  | none => rfl
  | some zone => cases zone <;> rfl

theorem windowDefs_eq (s : State) (f : Nat → WindowDef → List Byte) : (numbered (windowDefs s)).map (fun (w, d) => f w d) =
    (List.range 16).filterMap fun w => (s.zones.windows[w]?).bind fun window => window.defn.map (f w) := by
  rw [map_numbered]
  refine congrArg (List.filterMap · _) (funext fun w => ?_)
  rw [windowDefs, mapTable_getElem?]
  cases s.zones.windows[w]? <;> rfl

theorem callDefs_eq (s : State) (f : Nat → CallDef → List Byte) : (numbered (callDefs s)).map (fun (id, d) => f id d) =
    (List.range 32).filterMap fun id => (callEntry s id).map fun e => f id e.defn := by
  rw [map_numbered]
  refine congrArg (List.filterMap · _) (funext fun id => ?_)
  rw [callDefs, mapTable_getElem?, callEntry]
  cases s.calls.defs[id]? with
  | none => rfl
  | some entry => cases entry <;> rfl

/-! ## RDST -/

theorem exec_part (a : accepted h s = true) : exec (.rdst h 0) s = .next
    (replied h 0x01 { result := .done, data := partStatus s } ((begin 0x01 h s).onCommand fun c => { c with newMarks := 0 })) := by
  change whilePowered s (runRdst h 0) = _
  rw [whilePowered_of_powered (powered_of_accepted a), runRdst, execute_accepted a rfl (by simp [Checks.plain]) (by simp [Checks.plain])]
  rfl

theorem row_rdst {section_ : Byte} (beyond : 4 < section_.toNat) : exec (.rdst h section_) s =
    whilePowered s (execute 0x01 h .plain fun s => readAnswer (statusSection section_.toNat s) s) := by
  have other : section_ ≠ 0 := by rintro rfl; simp at beyond
  have run : runRdst h section_ = execute 0x01 h .plain fun s => readAnswer (statusSection section_.toNat s) s :=
    funext fun s => by simp only [runRdst, if_neg other]
  rw [← run]
  rfl

theorem statusSection_beyond {n : Nat} (beyond : 4 < n) : statusSection n s = none := by
  match n with
  | n + 5 => rfl

/-! ## RDTB -/

theorem exec_table {table index : Byte} {entries : List (List Byte)} (a : accepted h s = true)
    (found : tableEntries table.toNat s = some entries) : ∃ data,
      exec (.rdtb h table index) s = .next (replied h 0x06 { result := .done, data := data } (begin 0x06 h s)) ∧
      fitted ([table] ++ bytes2 entries.length ++ [index]) (entries.drop index.toNat) data := by
  have status : tableStatus table index (begin 0x06 h s) = some ([table] ++ bytes2 entries.length ++ [index] ++
      takeFitting (replyRoom - 4) (entries.drop index.toNat)) := congrArg (Option.map _) found
  exact ⟨_, exec_read (read := tableStatus table index) rfl a status, fitted_takeFitting rfl rfl⟩

theorem tableStatus_beyond {table index : Byte} (beyond : 6 < table.toNat) : tableStatus table index s = none := by
  have none_ : ∀ n, 6 < n → tableEntries n s = none := fun n beyond => by
    match n with
    | n + 7 => rfl
  rw [tableStatus, none_ _ beyond]
  rfl

/-! ## The obligation -/

/-- Settles O40: each read's data, field by field. -/
theorem readsAnswerAndChangeNothing : Obligations.ReadsAnswerAndChangeNothing := by
  intro h s a b accepted_ code time pair flag left summary answersWith
  have time_eq : ∀ t, time t = optionTime t := fun t => (optionTime_eq t).symm
  have pair_eq : ∀ n, pair n = optionBytes2 n := fun n => (optionBytes2_eq n).symm
  have code_eq : ∀ n, code n = [optionByte n] := fun n => by cases n <;> rfl
  have flag_eq : ∀ x, flag x = [flagByte x] := fun x => rfl
  have left_eq : ∀ unit timer, left unit timer = timeLeft unit timer s.clock := fun unit timer =>
    (timeLeft_eq unit timer s.clock).symm
  clear_value time pair code flag left
  refine ⟨?_, ?_, ?_, ?_, ?_, ?_, ?_, ?_, ?_, ?_, ?_, ?_, ?_, ?_⟩
  · rintro rfl
    refine (exec_part accepted_).trans ?_
    simp only [time_eq, code_eq, flag_eq, partStatus, ring_code]
    rfl
  · rintro rfl
    refine exec_read (read := statusSection 1) rfl accepted_ (congrArg some ?_)
    simp only [code_eq, flag_eq, performanceStatus, List.append_assoc, List.cons_append, List.nil_append]
    rfl
  · rintro rfl
    refine exec_read (read := statusSection 2) rfl accepted_ (congrArg some ?_)
    simp only [code_eq, flag_eq, time_eq, pair_eq, curtainStatus, curtainRecord, estimatorRecord, ring_code, List.append_assoc, List.cons_append,
      List.nil_append]
    rfl
  · rintro rfl
    refine exec_read (read := statusSection 3) rfl accepted_ (congrArg some ?_)
    simp only [flag_eq, pair_eq, lightsStatus, List.append_assoc, List.cons_append, List.nil_append, group_status, optionBytes2_eq]
    rfl
  · rintro rfl
    refine exec_read (read := statusSection 4) rfl accepted_ (congrArg some ?_)
    simp only [code_eq, bellsStatus, plan_code, List.cons_append, List.nil_append]
    rfl
  · intro beyond
    refine exec_read_refused (read := statusSection a.toNat) (row_rdst beyond) accepted_ (statusSection_beyond beyond)
  · rintro rfl few
    refine ⟨zoneReply 0 b (zoneItems s b.toNat) s, Config.panelStaleMark s.clock, (Config.panelVerification s.clock).toNat,
      exec_read (read := zoneStatus 0 b) rfl accepted_ (if_pos ⟨rfl, few⟩), fitted_takeFitting rfl ?_⟩
    rw [zoneItems_eq]
    simp only [flag_eq, left_eq]
    rfl
  · rintro rfl few
    refine ⟨zoneReply 1 b (windowItems s b.toNat) s,
      exec_read (read := zoneStatus 1 b) rfl accepted_ ((if_neg (by decide +revert)).trans (if_pos ⟨rfl, few⟩)), fitted_takeFitting rfl ?_⟩
    rw [windowItems_eq]
    simp only [left_eq, windowItem_eq]
  · intro outside
    exact exec_read_refused (read := zoneStatus a b) rfl accepted_
      ((if_neg fun zones => outside (.inl zones)).trans (if_neg fun windows => outside (.inr windows)))
  · refine exec_read (read := fun s => some (queueStatus s)) rfl accepted_ (congrArg some ?_)
    rw [show queueStatus (begin 0x04 h s) = queueStatus s from rfl, queueStatus, playerStatus]
    simp only [time_eq, left_eq, timeLeft_one]
    cases s.calls.player with
    | idle => rfl
    | sounding | gap => rfl
  · intro few
    have found : reportStatus a.toNat s = some ([byte s.phase.report.length, byte s.phase.lost, flagByte s.phase.fullMarker, a] ++
        takeFitting (replyRoom - 4) ((s.phase.report.drop a.toNat).map ReportEntry.bytes)) := by
      rw [reportStatus, if_neg (not_lt.2 few), byte_of_toNat]
    exact ⟨_, exec_read (read := reportStatus a.toNat) rfl accepted_ found, fitted_takeFitting rfl rfl⟩
  · intro beyond
    exact exec_read_refused (read := reportStatus a.toNat) rfl accepted_ (if_pos beyond)
  · intro few
    refine exec_table accepted_ ?_
    obtain rfl | rfl | rfl | rfl | rfl | rfl | rfl : a = 0 ∨ a = 1 ∨ a = 2 ∨ a = 3 ∨ a = 4 ∨ a = 5 ∨ a = 6 := by bv_omega
    · refine congrArg some ?_
      rw [policyEntry_bytes]
      simp only [flag_eq, time_eq, if_true]
    · rfl
    · refine congrArg some ?_
      rw [zoneDefs_eq, windowDefs_eq]
      rfl
    · refine congrArg some ?_
      rw [callDefs_eq]
      rfl
    · refine congrArg some ?_
      rw [map_numbered]
      rfl
    · refine congrArg some ?_
      rw [map_numbered]
      rfl
    · rfl
  · intro beyond
    exact exec_read_refused (read := tableStatus a b) rfl accepted_ (tableStatus_beyond beyond)

end Sys2Proof.Machine
end

section
/-! SUPPORT. Every table entry in range, read back from its layout (R221), and the obligation O42. -/

namespace Sys2Proof.Machine

/-! ## Fields -/

theorem readOption_optionByte {top : Nat} {n : Option Nat} (small : top < 255) (range : optionAtMost top n = true) :
    readOption top (optionByte n) = some n := by
  cases n with
  | none => rfl
  | some n =>
    have le : n ≤ top := of_decide_eq_true range
    have value : (byte n).toNat = n := byte_toNat (by omega)
    have absent : byte n ≠ 0xFF := fun same => by
      have := congrArg BitVec.toNat same
      rw [value] at this
      change n = 255 at this
      omega
    rw [optionByte, readOption, if_neg absent, value, if_pos le]

theorem readAnchor_optionByte (anchor : Option Anchor) : readAnchor (optionByte (anchor.map Anchor.code)) = some anchor := by
  match anchor with
  | none | some .curtainUp | some .intervalEnd => decide

theorem numberOf_maskBytes (mask : BitVec 48) : BitVec.ofNat 48 (numberOf (maskBytes 6 mask)) = mask := by
  have value : numberOf (maskBytes 6 mask) = mask.toNat := by
    have := mask.isLt
    simp [numberOf, maskBytes, List.range, List.range.loop, byte_toNat_mod]
    omega
  rw [value, BitVec.ofNat_toNat, BitVec.setWidth_eq]

theorem number2_maskBytes (mask : BitVec 12) :
    BitVec.ofNat 12 (number2 (byte (mask.toNat / 256 ^ 1)) (byte (mask.toNat / 256 ^ 0))) = mask := by
  have := mask.isLt
  rw [Nat.pow_one, Nat.pow_zero, Nat.div_one, number2_bytes (by omega), BitVec.ofNat_toNat, BitVec.setWidth_eq]

theorem byte_ne_zero {n : Nat} (some_ : n ≠ 0) (small : n < 256) : byte n ≠ 0 := fun same => some_ <| by
  have := congrArg BitVec.toNat same
  rwa [byte_toNat small] at this

/-! ## Entries -/

theorem readPolicy_bytes {d : PolicyDef} (range : d.inRange = true) : readPolicy d.bytes = some (.set d) := by
  obtain ⟨⟨segment, channel⟩, _⟩ : (d.segment ≤ 3 ∧ d.channel ≤ 511) ∧ _ := by
    simpa only [PolicyDef.inRange, Bool.and_eq_true, decide_eq_true_eq] using range
  have role : Role.ofCode (byte d.role.code).toNat = some d.role := by cases d.role <;> rfl
  have named : byte d.role.code ≠ 0 := by cases d.role <;> decide
  simp only [PolicyDef.bytes, bytes2, List.cons_append, List.nil_append, readPolicy, byte_toNat (show d.segment < 256 by omega),
    number2_bytes (show d.channel < 65536 by omega), if_pos (And.intro segment channel), if_neg named, role, if_pos range]

theorem readAction_bytes {action : CueAction} (range : action.inRange = true) : readAction action.bytes = some action := by
  cases action with
  | phase target act =>
    have small : act ≤ 5 := of_decide_eq_true range
    have code : Phase.ofCode (byte target.code).toNat = some target := by cases target <;> rfl
    change (Phase.ofCode (byte target.code).toNat).map (fun target => CueAction.phase target (byte act).toNat) = _
    rw [code, byte_toNat (by omega)]
    rfl
  | hfade group level time =>
    obtain ⟨groups, levels, times⟩ : group ≤ 7 ∧ level ≤ 65535 ∧ time ≤ 36000 := of_decide_eq_true range
    change some (CueAction.hfade (byte group).toNat (number2 (byte (level / 256)) (byte level))
      (number2 (byte (time / 256)) (byte time))) = _
    rw [byte_toNat (by omega), number2_bytes (by omega), number2_bytes (by omega)]
  | wopen n | wclose n | call n =>
    have small := of_decide_eq_true range
    simp only [CueAction.bytes, readAction]
    rw [byte_toNat (by omega)]
    rfl
  | demo | mark => rfl

theorem length_actionBytes (action : CueAction) : action.bytes.length = 6 := by cases action <;> rfl

theorem readActions_bytes {actions : List CueAction} (range : actions.all CueAction.inRange = true) :
    readActions actions.length (actions.flatMap CueAction.bytes) = some actions := by
  induction actions with
  | nil => rfl
  | cons action rest ih =>
    obtain ⟨first, later⟩ := Bool.and_eq_true _ _ ▸ range
    have length := length_actionBytes action
    simp only [List.length_cons, readActions, List.flatMap_cons, List.take_left' length, List.drop_left' length,
      readAction_bytes first, ih later]

theorem readCue_bytes {e : CueEntry} (range : e.inRange = true) : readCue e.bytes = some (.set e) := by
  obtain ⟨⟨list, cue, some_, few⟩, actions⟩ :
      (e.list ≤ 3 ∧ e.cue ≤ 9999 ∧ 1 ≤ e.actions.length ∧ e.actions.length ≤ 4) ∧ e.actions.all CueAction.inRange = true := by
    simpa only [CueEntry.inRange, Bool.and_eq_true, decide_eq_true_eq] using range
  have count : (byte e.actions.length).toNat = e.actions.length := byte_toNat (by omega)
  simp only [CueEntry.bytes, bytes2, List.cons_append, List.nil_append, readCue, byte_toNat (show e.list < 256 by omega),
    number2_bytes (show e.cue < 65536 by omega), if_pos (And.intro list cue), if_neg (byte_ne_zero (show e.actions.length ≠ 0 by omega) (by omega)),
    count, if_neg (not_lt.2 few), readActions_bytes actions, if_pos range]

theorem readZone_zone {z : Nat} {d : ZoneDef} (zone : z ≤ 47) (range : d.inRange z = true) :
    readZone (d.bytes z) = some (.setZone z d) := by
  obtain ⟨verification, partner⟩ : d.verification ≤ 600 ∧ _ := by
    simpa only [ZoneDef.inRange, Bool.and_eq_true, decide_eq_true_eq] using range
  have side : Side.ofCode (byte d.side.code).toNat = some d.side := by cases d.side <;> rfl
  have named : byte d.side.code ≠ 0 := by cases d.side <;> decide
  have partners : (if optionByte d.partner = 0xFF then none else some (optionByte d.partner).toNat) = d.partner := by
    cases partner_ : d.partner with
    | none => rfl
    | some p =>
      rw [partner_] at partner
      obtain ⟨small, _⟩ : p ≤ 47 ∧ p ≠ z := of_decide_eq_true partner
      have value : (byte p).toNat = p := byte_toNat (by omega)
      rw [optionByte, value, if_neg fun same => ?_]
      have := congrArg BitVec.toNat same
      rw [value] at this
      change p = 255 at this
      omega
  simp only [ZoneDef.bytes, bytes2, List.cons_append, List.nil_append, readZone, byte_toNat (show z < 256 by omega),
    number2_bytes (show d.verification < 65536 by omega), partners, if_neg named, side, if_pos range]
  exact if_pos ⟨trivial, zone⟩

theorem readZone_window {w : Nat} {d : WindowDef} (window : w ≤ 15) (range : d.inRange = true) :
    readZone (d.bytes w) = some (.setWindow w d) := by
  obtain ⟨some_, duration⟩ : 1 ≤ d.duration ∧ d.duration ≤ 600 := of_decide_eq_true range
  have mask := numberOf_maskBytes d.zones
  have duration_ : number2 (byte (d.duration / 256)) (byte d.duration) = d.duration := number2_bytes (by omega)
  have listed : d.bytes w = 1 :: byte w :: byte (d.duration / 256) :: byte d.duration :: maskBytes 6 d.zones := rfl
  rw [listed]
  simp only [maskBytes, List.range, List.range.loop, List.reverse_cons, List.reverse_nil, List.nil_append, List.cons_append,
    List.map_cons, List.map_nil] at mask ⊢
  simp only [readZone, duration_, byte_toNat (show w < 256 by omega), mask, if_neg (show d.duration ≠ 0 by omega)]
  exact if_pos ⟨trivial, window, duration⟩

theorem readCall_bytes {id : Nat} {d : CallDef} (call : id ≤ 31) (range : d.inRange = true) :
    readCall (d.bytes id) = some (.set id d) := by
  obtain ⟨⟨pattern, slot⟩, message, priority, some_, repeats, gap, short, lifetime, offset⟩ :
      (optionAtMost 7 d.pattern = true ∧ optionAtMost 63 d.slot = true) ∧ d.messageTime ≤ 60 ∧ d.priority ≤ 2 ∧
        1 ≤ d.repeats ∧ d.repeats ≤ 4 ∧ d.gap ≤ 60 ∧ 10 ≤ d.lifetime ∧ d.lifetime ≤ 3600 ∧ d.offset ≤ 3600 := by
    simpa only [CallDef.inRange, Bool.and_eq_true, decide_eq_true_eq] using range
  have listed : d.bytes id = byte id :: byte (d.areas.toNat / 256 ^ 1) :: byte (d.areas.toNat / 256 ^ 0) ::
      optionByte d.pattern :: optionByte d.slot :: byte d.messageTime :: byte d.priority :: d.gate :: byte d.repeats :: byte d.gap ::
      byte (d.lifetime / 256) :: byte d.lifetime :: optionByte (d.anchor.map Anchor.code) :: byte (d.offset / 256) ::
      byte d.offset :: [] := rfl
  rw [listed]
  simp only [readCall, number2_maskBytes, readOption_optionByte (by decide) pattern, readOption_optionByte (by decide) slot,
    readAnchor_optionByte, byte_toNat (show id < 256 by omega), byte_toNat (show d.messageTime < 256 by omega),
    byte_toNat (show d.priority < 256 by omega), byte_toNat (show d.repeats < 256 by omega),
    byte_toNat (show d.gap < 256 by omega), number2_bytes (show d.lifetime < 65536 by omega),
    number2_bytes (show d.offset < 65536 by omega), if_pos call,
    if_neg (byte_ne_zero (show d.repeats ≠ 0 by omega) (by omega)), if_pos range]

theorem readPattern_bytes {n : Nat} {p : Pattern} (number : n ≤ 7) (range : p.inRange = true) :
    readPattern (p.bytes n) = some (.set n p) := by
  obtain ⟨_, ring, _, gap, _, rings, burstGap, some_, bursts⟩ : 1 ≤ p.ring ∧ p.ring ≤ 256 ∧ 1 ≤ p.gap ∧ p.gap ≤ 256 ∧
      1 ≤ p.rings ∧ p.rings ≤ 16 ∧ p.burstGap ≤ 100 ∧ 1 ≤ p.bursts ∧ p.bursts ≤ 8 := of_decide_eq_true range
  simp only [Pattern.bytes, bytes2, List.cons_append, List.nil_append, readPattern, byte_toNat (show n < 256 by omega),
    number2_bytes (show p.ring < 65536 by omega), number2_bytes (show p.gap < 65536 by omega),
    byte_toNat (show p.rings < 256 by omega), byte_toNat (show p.burstGap < 256 by omega),
    byte_toNat (show p.bursts < 256 by omega), if_pos number,
    if_neg (byte_ne_zero (show p.bursts ≠ 0 by omega) (by omega)), if_pos range]

theorem readArea_bytes {area : Nat} {d : AreaDef} (number : area ≤ 11) (range : d.inRange = true) :
    readArea (d.bytes area) = some (.set area d) := by
  obtain ⟨⟨⟨group, stationA, stationB⟩, bellA⟩, bellB⟩ : ((d.group ≤ 2 ∧ d.stationA ≤ 126 ∧ d.stationB ≤ 126) ∧
      optionAtMost 3 d.bellA = true) ∧ optionAtMost 3 d.bellB = true := by
    simpa only [AreaDef.inRange, Bool.and_eq_true, decide_eq_true_eq] using range
  have class_ : AreaClass.ofCode (byte d.areaClass.code).toNat = some d.areaClass := by cases d.areaClass <;> rfl
  have named : byte d.areaClass.code ≠ 0 := by cases d.areaClass <;> decide
  have auditorium : readInAuditorium (flagByte d.inAuditorium) = d.inAuditorium := by cases d.inAuditorium <;> rfl
  simp only [AreaDef.bytes, readArea, byte_toNat (show area < 256 by omega), class_, auditorium,
    readOption_optionByte (by decide) bellA, readOption_optionByte (by decide) bellB, byte_toNat (show d.group < 256 by omega),
    byte_toNat (show d.stationA < 256 by omega), byte_toNat (show d.stationB < 256 by omega), if_pos number, if_neg named,
    if_pos range]

/-- Settles O42: each table's entry read back. -/
theorem tableEntriesRoundTrip : Obligations.TableEntriesRoundTrip :=
  ⟨fun _ => readPolicy_bytes, fun _ => readCue_bytes, fun _ _ => readZone_zone, fun _ _ => readZone_window,
    fun _ _ => readCall_bytes, fun _ _ => readPattern_bytes, fun _ _ => readArea_bytes⟩

end Sys2Proof.Machine
end

section
/-! SUPPORT. The loads: entries applied in their order up to the first refused one, the answer and the TABLE entry (R211). -/

namespace Sys2Proof.Machine

variable {s t u : State} {h : CommandHeader} {code table : Byte} {c : Instr} {lockable : Bool} {result : Result}
  {lengthOf : List Byte → Option Nat} {apply : List Byte → State → Response} {entries tail : List (List Byte)}

/-! ## One load -/

/-- A load that passes its checks answers with what its entries come to. -/
theorem load_replies {bytes : List Byte} {outcome : LoadOutcome} {holds : State → Prop}
    (row : LoadRow c code table lockable lengthOf apply h bytes s) (a : accepted h s = true) (store : s.command.store = none)
    (lock : lockable = true → s.phase.phase.locked = false) (whole : ∀ e ∈ entries, Whole lengthOf e) (some_ : entries ≠ [])
    (joined : entries.flatten = bytes) (loaded : loadFrom apply 0 false entries (begin code h s) = (outcome, t))
    (reported : holds (reportTable table .load outcome.answer.result outcome.count t)) :
    replies c h code outcome.answer s holds := by
  subst joined
  refine replies_execute (code := code) (checks := { fits := true, needsStore := true, lockable := lockable })
    (x := { answer := outcome.answer, state := reportTable table .load outcome.answer.result outcome.count t })
    (load_row row (entriesOf_flatten whole some_)) a rfl (fun _ => store) lock ?_ reported
  rw [loadEntries, loaded]

/-- Entries that are applied are counted, and the load goes on behind them. -/
theorem loadFrom_applied {α : Type} {items : List α} {bytesOf : α → List Byte} {effect : α → State → State}
    (applies : ∀ x ∈ items, ∀ t, apply (bytesOf x) t = (.done, effect x t)) (count : Nat) (s : State) :
    loadFrom apply count false (items.map bytesOf ++ tail) s =
      loadFrom apply (count + items.length) false tail (forEach items effect s) := by
  induction items generalizing count s with
  | nil => rfl
  | cons x rest ih =>
    rw [List.map_cons, List.cons_append, loadFrom, applies x List.mem_cons_self]
    dsimp only
    rw [ih (fun x mem => applies x (List.mem_cons_of_mem _ mem)), List.length_cons, Nat.add_right_comm, Nat.add_assoc]
    rfl

/-- The first refused entry stops the load. -/
theorem loadFrom_refused {bad : List Byte} {rest : List (List Byte)} {count : Nat} {clamped : Bool} (refused : apply bad s = (result, s))
    (done : result ≠ .done) (doneClamped : result ≠ .doneClamped) : loadFrom apply count clamped (bad :: rest) s =
      ({ count := count, clamped := clamped, refusal := some result }, s) := by
  rw [loadFrom, refused]
  cases result with
  | done => exact absurd rfl done
  | doneClamped => exact absurd rfl doneClamped
  | _ => rfl

/-- What entries that are not clamped come to: all applied, or stopped by one out of range. -/
def outcomeOf (count : Nat) (tail : List (List Byte)) : LoadOutcome where
  count := count
  clamped := false
  refusal := if tail = [] then none else some .refusedRange

/-- The entries behind the applied ones, of which the first, if any, is out of range, end the load. -/
theorem loadFrom_stops {count : Nat} (stops : ∀ bad, tail.head? = some bad → apply bad s = (.refusedRange, s)) :
    loadFrom apply count false tail s = (outcomeOf count tail, s) := by
  cases tail with
  | nil => rfl
  | cons bad rest => rw [loadFrom_refused (stops bad rfl) (by decide) (by decide), outcomeOf, if_neg (by simp)]

theorem answer_outcomeOf (count : Nat) (tail : List (List Byte)) : (outcomeOf count tail).answer =
    if tail = [] then { result := .done, data := [byte count] }
    else if count = 0 then { result := .refusedRange, data := [0] }
    else { result := .partialDone, data := [byte count, 4] } := by
  by_cases none_ : tail = []
  · rw [outcomeOf, if_pos none_, if_pos none_]
    rfl
  · rw [outcomeOf, if_neg none_, if_neg none_]
    by_cases zero : count = 0
    · simp [LoadOutcome.answer, zero]
    · rw [if_neg zero, LoadOutcome.answer]
      dsimp only
      rw [if_neg zero]
      rfl

theorem result_outcomeOf (count : Nat) (tail : List (List Byte)) :
    byte (outcomeOf count tail).answer.result.code = if tail = [] then 0 else if count = 0 then 4 else 2 := by
  rw [answer_outcomeOf]
  split
  · rfl
  · split
    · rfl
    · rfl

theorem applyRead_some {α : Type} {read : List Byte → Option α} {apply : α → State → Response} {entry : List Byte} {load : α}
    (reads : read entry = some load) (s : State) : applyRead read apply entry s = apply load s := by
  rw [applyRead, reads]

theorem applyRead_none {α : Type} {read : List Byte → Option α} {apply : α → State → Response} {entry : List Byte}
    (reads : read entry = none) (s : State) : applyRead read apply entry s = (.refusedRange, s) := by
  rw [applyRead, reads]

/-! ## The TABLE entry -/

theorem reportTable_frame (table : Byte) (operation : TableOperation) (result : Result) (count : Nat) (s : State) :
    sameBut [.report, .attention] s (reportTable table operation result count s) = true := report_frame _ _ s

theorem reportTable_report {operation : TableOperation} {count : Nat} (report : t.phase.report = s.phase.report)
    (clock : t.clock = s.clock) (room : roomFor 1 s = true) : (reportTable table operation result count t).phase.report =
      s.phase.report ++ [entryNow s .table [table, operation.code, byte result.code, byte count]] := by
  have room_ : roomFor (0 + 1) t = true := by
    rw [roomFor_congr report]
    exact room
  rw [reportTable, report_room room_]
  change t.phase.report ++ [entryNow t _ _] = _
  rw [report, entryNow, entryNow, clock]

/-! ## A view of the state that every entry changes by itself -/

theorem forEach_foldl {α β : Type} {f : α → State → State} {view : State → β} {g : β → α → β}
    (step : ∀ x t, view (f x t) = g (view t) x) (items : List α) (s : State) : view (forEach items f s) = items.foldl g (view s) := by
  induction items generalizing s with
  | nil => rfl
  | cons x rest ih => rw [forEach_cons, ih, List.foldl_cons, step]

theorem forEach_view {α β : Type} {f : α → State → State} {view : State → β} (step : ∀ x t, view (f x t) = view t) (items : List α)
    (s : State) : view (forEach items f s) = view s :=
  forEach_induction (fun t => view t = view s) f items s (fun x _ t same => (step x t).trans same) rfl

end Sys2Proof.Machine
end

section
/-! SUPPORT. LDPT, LDRT and LDCL: an applied entry and the selection behind it (R169, R172, R192), and the obligation O43. -/

namespace Sys2Proof.Machine

variable {s t u : State} {h : CommandHeader}

/-! ## Entries read -/

/-- A pattern's entry with its number, or the number's deletion (R192). -/
def patternLoad (number : Nat) : Option Pattern → PatternLoad
  | some p => .set number p
  | none => .delete number

/-- An area's entry with its number, or the number's deletion (R169). -/
def areaLoad (area : Nat) : Option AreaDef → AreaLoad
  | some d => .set area d
  | none => .delete area

/-- A call's entry with its id, or the id's deletion (R172). -/
def callLoad (id : Nat) : Option CallDef → CallLoad
  | some d => .set id d
  | none => .delete id

theorem readPattern_delete {number : Nat} {entry : List Byte} (small : number ≤ 7) (length : entry.length = 8)
    (first : entry.head? = some (byte number)) (last : entry.getLast? = some 0) : readPattern entry = some (.delete number) := by
  match entry, length with
  | [a, b, c, d, e, f, g, i], _ =>
    have key : a = byte number := Option.some.inj first
    have zero : i = 0 := Option.some.inj last
    subst key
    simp only [readPattern, byte_toNat (show number < 256 by omega), if_pos small, if_pos zero]

theorem readArea_delete {area : Nat} {entry : List Byte} (small : area ≤ 11) (length : entry.length = 8)
    (first : entry.head? = some (byte area)) (class_ : entry[1]? = some 0) : readArea entry = some (.delete area) := by
  match entry, length with
  | [a, b, c, d, e, f, g, i], _ =>
    have key : a = byte area := Option.some.inj first
    have zero : b = 0 := Option.some.inj class_
    subst key
    simp only [readArea, byte_toNat (show area < 256 by omega), if_pos small, if_pos zero]

theorem readCall_delete {id : Nat} {entry : List Byte} (small : id ≤ 31) (length : entry.length = 15)
    (first : entry.head? = some (byte id)) (repeats : entry[8]? = some 0) : readCall entry = some (.delete id) := by
  match entry, length with
  | [a, b, c, d, e, f, g, i, j, k, l, m, n, o, p], _ =>
    have key : a = byte id := Option.some.inj first
    have zero : j = 0 := Option.some.inj repeats
    subst key
    simp only [readCall, byte_toNat (show id < 256 by omega), if_pos small, if_pos zero]

theorem toNat_eq_zero {b : Byte} : b.toNat = 0 ↔ b = 0 := ⟨fun zero => BitVec.eq_of_toNat_eq zero, fun zero => by rw [zero]; rfl⟩

/-- An entry out of range is not read (R192). -/
theorem readPattern_none {entry : List Byte} {b : Nat → Nat} (length : entry.length = 8) (bytes : b = fun i => (entry.getD i 0).toNat)
    (refused : 7 < b 0 ∨ (b 7 ≠ 0 ∧ ¬ (1 ≤ b 1 * 256 + b 2 ∧ b 1 * 256 + b 2 ≤ 256 ∧ 1 ≤ b 3 * 256 + b 4 ∧ b 3 * 256 + b 4 ≤ 256 ∧
      1 ≤ b 5 ∧ b 5 ≤ 16 ∧ b 6 ≤ 100 ∧ b 7 ≤ 8))) : readPattern entry = none := by
  subst bytes
  match entry, length with
  | [number, ringHi, ringLo, gapHi, gapLo, rings, burstGap, bursts], _ =>
    rw [readPattern]
    split
    · next small =>
      obtain ⟨some_, beyond⟩ := refused.resolve_left (not_lt.2 small)
      have absent : bursts ≠ 0 := fun zero => some_ (toNat_eq_zero.2 zero)
      rw [if_neg absent]
      refine if_neg fun range => beyond ?_
      obtain ⟨ring, ring', gap, gap', rings, rings', burst, _, bursts⟩ := of_decide_eq_true range
      exact ⟨ring, ring', gap, gap', rings, rings', burst, bursts⟩
    · rfl

theorem of_readOption {top : Nat} {b : Byte} {n : Option Nat} (reads : readOption top b = some n) : b.toNat ≤ top ∨ b.toNat = 255 := by
  unfold readOption at reads
  split at reads
  · next absent => exact .inr (congrArg BitVec.toNat absent)
  · split at reads
    · next small => exact .inl small
    · nomatch reads

theorem of_readAnchor {b : Byte} {anchor : Option Anchor} (reads : readAnchor b = some anchor) : b.toNat ≤ 1 ∨ b.toNat = 255 := by
  unfold readAnchor at reads
  split at reads
  · next absent => exact .inr (congrArg BitVec.toNat absent)
  · split at reads
    · next zero => exact .inl (by rw [zero]; decide)
    · split at reads
      · next one => exact .inl (by rw [one]; decide)
      · nomatch reads

theorem of_areaClass {n : Nat} {c : AreaClass} (reads : AreaClass.ofCode n = some c) : n ≤ 2 := by
  match n with
  | 0 | 1 | 2 => omega
  | n + 3 => nomatch reads

/-- An entry out of range is not read (R169). -/
theorem readArea_none {entry : List Byte} {b : Nat → Nat} (length : entry.length = 8) (bytes : b = fun i => (entry.getD i 0).toNat)
    (refused : 11 < b 0 ∨ (b 1 ≠ 0 ∧ ¬ (b 1 ≤ 2 ∧ b 3 ≤ 2 ∧ b 4 ≤ 126 ∧ (b 5 ≤ 3 ∨ b 5 = 255) ∧ b 6 ≤ 126 ∧
      (b 7 ≤ 3 ∨ b 7 = 255)))) : readArea entry = none := by
  subst bytes
  match entry, length with
  | [area, class_, auditorium, group, stationA, bellA, stationB, bellB], _ =>
    rw [readArea]
    split
    · next small =>
      obtain ⟨some_, beyond⟩ := refused.resolve_left (not_lt.2 small)
      have absent : class_ ≠ 0 := fun zero => some_ (toNat_eq_zero.2 zero)
      rw [if_neg absent]
      split
      · next read readA readB =>
        refine if_neg fun range => beyond ?_
        simp only [AreaDef.inRange, Bool.and_eq_true, decide_eq_true_eq] at range
        obtain ⟨⟨⟨group, stationA, stationB⟩, _⟩, _⟩ := range
        exact ⟨of_areaClass read, group, stationA, of_readOption readA, stationB, of_readOption readB⟩
      · rfl
    · rfl

/-- An entry out of range is not read (R172). -/
theorem readCall_none {entry : List Byte} {b : Nat → Nat} (length : entry.length = 15) (bytes : b = fun i => (entry.getD i 0).toNat)
    (refused : 31 < b 0 ∨ (b 8 ≠ 0 ∧ ¬ (b 8 ≤ 4 ∧ (b 3 ≤ 7 ∨ b 3 = 255) ∧ (b 4 ≤ 63 ∨ b 4 = 255) ∧ b 5 ≤ 60 ∧ b 6 ≤ 2 ∧ b 9 ≤ 60 ∧
      10 ≤ b 10 * 256 + b 11 ∧ b 10 * 256 + b 11 ≤ 3600 ∧ (b 12 ≤ 1 ∨ b 12 = 255) ∧ b 13 * 256 + b 14 ≤ 3600))) :
    readCall entry = none := by
  subst bytes
  match entry, length with
  | [id, areasHi, areasLo, pattern, slot, message, priority, gate, repeats, gap, lifeHi, lifeLo, anchor, offsetHi, offsetLo], _ =>
    rw [readCall]
    split
    · next small =>
      obtain ⟨some_, beyond⟩ := refused.resolve_left (not_lt.2 small)
      have absent : repeats ≠ 0 := fun zero => some_ (toNat_eq_zero.2 zero)
      rw [if_neg absent]
      split
      · next readPattern readSlot readAnchor =>
        refine if_neg fun range => beyond ?_
        simp only [CallDef.inRange, Bool.and_eq_true, decide_eq_true_eq] at range
        obtain ⟨_, message, priority, _, repeats, gap, short, lifetime, offset⟩ := range
        exact ⟨repeats, of_readOption readPattern, of_readOption readSlot, message, priority, gap, short, lifetime,
          of_readAnchor readAnchor, offset⟩
      · rfl
    · rfl

end Sys2Proof.Machine
end

section
/-! SUPPORT. What the applied entries of LDPT, LDRT and LDCL leave (R169, R172, R183, R192), and the obligation O43. -/

namespace Sys2Proof.Machine

variable {s t u : State} {h : CommandHeader} {c : Instr} {code table : Byte}

/-! ## The applied entries -/

/-- What entries of the call, area and pattern tables leave: the selectors, and while a call sounds, everything but the
tables. -/
structure Loads (s t : State) : Prop where
  same : sameBut callParts s t = true
  selectors : t.calls.selectors = s.calls.selectors
  still : playerBusy s = true → sameBut [.calls, .bells] s t = true ∧ t.calls.queue = s.calls.queue ∧
    t.calls.player = s.calls.player ∧ t.bells.generators = s.bells.generators

namespace Loads

theorem refl (s : State) : Loads s s := ⟨sameBut_refl _ _, rfl, fun _ => ⟨sameBut_refl _ _, rfl, rfl, rfl⟩⟩

theorem trans (first : Loads s t) (second : Loads t u) : Loads s u := by
  refine ⟨sameBut_trans first.same second.same, second.selectors.trans first.selectors, fun busy => ?_⟩
  obtain ⟨same, queue, player, generators⟩ := first.still busy
  have busy' : playerBusy t = true := by
    rw [playerBusy, player]
    exact busy
  obtain ⟨same', queue', player', generators'⟩ := second.still busy'
  exact ⟨sameBut_trans same same', queue'.trans queue, player'.trans player, generators'.trans generators⟩

/-- A table's change with the selection behind it. -/
theorem selected (same : sameBut [.calls, .bells] s t = true) (selectors : t.calls.selectors = s.calls.selectors)
    (queue : t.calls.queue = s.calls.queue) (player : t.calls.player = s.calls.player)
    (generators : t.bells.generators = s.bells.generators) : Loads s (selection t) := by
  refine ⟨sameBut_trans (sameBut_mono same (by decide)) (selection_frame t), (CallWork.selection t).selectors.trans selectors,
    fun busy => ?_⟩
  have busy' : playerBusy t = true := by
    rw [playerBusy, player]
    exact busy
  rw [selection_busy busy']
  exact ⟨same, queue, player, generators⟩

theorem forEach {α : Type} {f : α → State → State} (step : ∀ x t, Loads t (f x t)) (items : List α) (s : State) :
    Loads s (Machine.forEach items f s) :=
  forEach_induction (Loads s) f items s (fun x _ t done => done.trans (step x t)) (refl s)

end Loads

/-! ### One entry each -/

/-- An entry's pattern is loaded, and the player makes its selection. -/
def loadPattern (x : List Byte × Nat × Option Pattern) (s : State) : State := selection (applyPattern (patternLoad x.2.1 x.2.2) s)

/-- An entry's area is loaded, and the player makes its selection. -/
def loadArea (x : List Byte × Nat × Option AreaDef) (s : State) : State := selection (applyArea (areaLoad x.2.1 x.2.2) s)

/-- An entry's call is loaded, and the player makes its selection. -/
def loadCall (x : List Byte × Nat × Option CallDef) (s : State) : State := selection (applyCall (callLoad x.2.1 x.2.2) s)

theorem applyPattern_patternLoad (number : Nat) (p : Option Pattern) (s : State) : applyPattern (patternLoad number p) s =
    s.onBells fun u => { u with patterns := u.patterns.setIfInBounds number p } := by
  cases p <;> rfl

theorem applyArea_areaLoad (area : Nat) (d : Option AreaDef) (s : State) : applyArea (areaLoad area d) s =
    s.onCalls fun u => { u with areas := u.areas.setIfInBounds area d } := by
  cases d <;> rfl

/-- The call table with one call defined, replaced or deleted: a replaced call keeps its fired mark when it keeps its anchor
and offset (R172). -/
def withCall (defs : Vector (Option CallEntry) 32) (id : Nat) (load : Option CallDef) : Vector (Option CallEntry) 32 :=
  defs.setIfInBounds id (load.map fun d =>
    { defn := d
      fired := match (defs[id]?).join with
        | none => false
        | some old => old.fired && decide (d.anchor ≠ none ∧ old.defn.anchor = d.anchor ∧ old.defn.offset = d.offset) })

theorem applyCall_callLoad (id : Nat) (d : Option CallDef) (s : State) : applyCall (callLoad id d) s =
    s.onCalls fun u => { u with defs := withCall u.defs id d } := by
  cases d with
  | none => rfl
  | some d =>
    rw [callLoad, applyCall, callEntry]
    cases found : (s.calls.defs[id]?).join with
    | none => simp [State.onCalls, withCall, found]
    | some old => simp [State.onCalls, withCall, found, keepsFired]

theorem loadPattern_loads (x : List Byte × Nat × Option Pattern) (s : State) : Loads s (loadPattern x s) := by
  rw [loadPattern, applyPattern_patternLoad]
  exact .selected (sameBut_mono (onBells_frame s _) (by decide)) rfl rfl rfl rfl

theorem loadArea_loads (x : List Byte × Nat × Option AreaDef) (s : State) : Loads s (loadArea x s) := by
  rw [loadArea, applyArea_areaLoad]
  exact .selected (sameBut_mono (onCalls_frame s _) (by decide)) rfl rfl rfl rfl

theorem loadCall_loads (x : List Byte × Nat × Option CallDef) (s : State) : Loads s (loadCall x s) := by
  rw [loadCall, applyCall_callLoad]
  exact .selected (sameBut_mono (onCalls_frame s _) (by decide)) rfl rfl rfl rfl

/-! ### The tables behind all entries -/

section Tables

variable (patterns : List (List Byte × Nat × Option Pattern)) (areas : List (List Byte × Nat × Option AreaDef))
  (calls : List (List Byte × Nat × Option CallDef)) (s : State)

theorem patterns_loadPatterns : (forEach patterns loadPattern s).bells.patterns =
    patterns.foldl (fun table x => table.setIfInBounds x.2.1 x.2.2) s.bells.patterns :=
  forEach_foldl (view := fun t => t.bells.patterns) (fun x t => by
    rw [loadPattern, (CallWork.selection _).patterns, applyPattern_patternLoad]
    rfl) patterns s

theorem defs_loadPatterns : (forEach patterns loadPattern s).calls.defs = s.calls.defs :=
  forEach_view (view := fun t => t.calls.defs) (fun x t => by
    rw [loadPattern, (CallWork.selection _).defs, applyPattern_patternLoad]
    rfl) patterns s

theorem areas_loadPatterns : (forEach patterns loadPattern s).calls.areas = s.calls.areas :=
  forEach_view (view := fun t => t.calls.areas) (fun x t => by
    rw [loadPattern, (CallWork.selection _).areas, applyPattern_patternLoad]
    rfl) patterns s

theorem areas_loadAreas : (forEach areas loadArea s).calls.areas =
    areas.foldl (fun table x => table.setIfInBounds x.2.1 x.2.2) s.calls.areas :=
  forEach_foldl (view := fun t => t.calls.areas) (fun x t => by
    rw [loadArea, (CallWork.selection _).areas, applyArea_areaLoad]
    rfl) areas s

theorem defs_loadAreas : (forEach areas loadArea s).calls.defs = s.calls.defs :=
  forEach_view (view := fun t => t.calls.defs) (fun x t => by
    rw [loadArea, (CallWork.selection _).defs, applyArea_areaLoad]
    rfl) areas s

theorem patterns_loadAreas : (forEach areas loadArea s).bells.patterns = s.bells.patterns :=
  forEach_view (view := fun t => t.bells.patterns) (fun x t => by
    rw [loadArea, (CallWork.selection _).patterns, applyArea_areaLoad]
    rfl) areas s

theorem defs_loadCalls : (forEach calls loadCall s).calls.defs =
    calls.foldl (fun table x => withCall table x.2.1 x.2.2) s.calls.defs :=
  forEach_foldl (view := fun t => t.calls.defs) (fun x t => by
    rw [loadCall, (CallWork.selection _).defs, applyCall_callLoad]
    rfl) calls s

theorem areas_loadCalls : (forEach calls loadCall s).calls.areas = s.calls.areas :=
  forEach_view (view := fun t => t.calls.areas) (fun x t => by
    rw [loadCall, (CallWork.selection _).areas, applyCall_callLoad]
    rfl) calls s

theorem patterns_loadCalls : (forEach calls loadCall s).bells.patterns = s.bells.patterns :=
  forEach_view (view := fun t => t.bells.patterns) (fun x t => by
    rw [loadCall, (CallWork.selection _).patterns, applyCall_callLoad]
    rfl) calls s

end Tables

/-! ## The load -/

/-- What a load of the call, area or pattern table leaves, its TABLE entry with it (R211). -/
structure TableLoaded (table : Byte) (applied : Nat) (tail : List (List Byte)) (s t u : State) : Prop where
  same : sameBut callParts t u = true
  selectors : u.calls.selectors = s.calls.selectors
  still : applied = 0 ∨ playerBusy s = true → sameBut [.report, .attention, .calls, .bells] t u = true ∧
    u.calls.queue = s.calls.queue ∧ u.calls.player = s.calls.player ∧ u.bells.generators = s.bells.generators ∧
    (roomFor 1 s = true → u.phase.report = s.phase.report ++
      [entryNow s .table [table, 0, if tail = [] then 0 else if applied = 0 then 4 else 2, byte applied]])

theorem tableLoaded {α : Type} {f : α → State → State} (step : ∀ x t, Loads t (f x t)) (items : List α)
    (tail : List (List Byte)) (s : State) : TableLoaded table items.length tail s (begin code h s)
      (reportTable table .load (outcomeOf items.length tail).answer.result items.length (forEach items f (begin code h s))) := by
  have loads := Loads.forEach step items (begin code h s)
  have frame := reportTable_frame table .load (outcomeOf items.length tail).answer.result items.length
    (forEach items f (begin code h s))
  have calls := sameBut_calls frame (by decide)
  have bells := sameBut_bells frame (by decide)
  refine ⟨sameBut_trans loads.same (sameBut_mono frame (by decide)), by rw [calls, loads.selectors]; rfl, fun rests => ?_⟩
  obtain ⟨same, queue, player, generators⟩ : sameBut [.calls, .bells] (begin code h s) (forEach items f (begin code h s)) = true ∧
      (forEach items f (begin code h s)).calls.queue = s.calls.queue ∧
      (forEach items f (begin code h s)).calls.player = s.calls.player ∧
      (forEach items f (begin code h s)).bells.generators = s.bells.generators := by
    obtain none_ | busy := rests
    · rw [List.eq_nil_of_length_eq_zero none_]
      exact ⟨sameBut_refl _ _, rfl, rfl, rfl⟩
    · exact loads.still busy
  refine ⟨sameBut_trans (sameBut_mono same (by decide)) (sameBut_mono frame (by decide)), by rw [calls, queue], by rw [calls, player],
    by rw [bells, generators], fun room => ?_⟩
  have record := sameBut_report same (by decide)
  have clock := sameBut_clock same (by decide)
  have report := reportTable_report (table := table) (operation := .load) (result := (outcomeOf items.length tail).answer.result)
    (count := items.length) (s := s) record clock room
  rw [report, result_outcomeOf]
  rfl

/-- A load of one of these tables, its entries applied and those behind them stopping it. -/
theorem table_load {α β : Type} {n : Nat} {read : List Byte → Option β} {apply : β → State → Response}
    {items : List (List Byte × α)} {loadOf : List Byte × α → β} {effect : List Byte × α → State → State} {tail : List (List Byte)}
    {becomes : State → Prop}
    (row : LoadRow c code table false (fixedLength n) (applyRead read apply) h ((items.map Prod.fst ++ tail).flatten) s)
    (long : n ≠ 0) (a : accepted h s = true) (store : s.command.store = none) (some_ : items ≠ [] ∨ tail ≠ [])
    (lengths : ∀ x ∈ items, x.1.length = n) (reads : ∀ x ∈ items, read x.1 = some (loadOf x))
    (applies : ∀ x t, apply (loadOf x) t = (.done, effect x t)) (tails : ∀ e ∈ tail, e.length = n)
    (refused : ∀ bad, tail.head? = some bad → read bad = none) (step : ∀ x t, Loads t (effect x t))
    (tables : ∀ u, u.bells.patterns = (forEach items effect (begin code h s)).bells.patterns →
      u.calls = (forEach items effect (begin code h s)).calls → becomes u) :
    replies c h code
      (if tail = [] then { result := .done, data := [byte items.length] }
        else if items.length = 0 then { result := .refusedRange, data := [0] }
        else { result := .partialDone, data := [byte items.length, 4] }) s
      fun u => becomes u ∧ TableLoaded table items.length tail s (begin code h s) u := by
  rw [← answer_outcomeOf]
  refine load_replies row a store nofun (entries := items.map Prod.fst ++ tail) (t := forEach items effect (begin code h s))
    (fun e mem => ?_) ?_ rfl ?_ ?_
  · obtain mem | mem := List.mem_append.1 mem
    · obtain ⟨x, listed, rfl⟩ := List.mem_map.1 mem
      exact whole_fixed long (lengths x listed)
    · exact whole_fixed long (tails e mem)
  · simpa [-not_and, not_and_or] using some_
  · rw [loadFrom_applied (effect := effect) fun x mem t => (applyRead_some (reads x mem) t).trans (applies x t), Nat.zero_add]
    exact loadFrom_stops fun bad first => applyRead_none (refused bad first) _
  · have frame := reportTable_frame table .load (outcomeOf items.length tail).answer.result items.length
      (forEach items effect (begin code h s))
    have bells := sameBut_bells frame (by decide)
    exact ⟨tables _ (congrArg Bells.patterns bells) (sameBut_calls frame (by decide)), tableLoaded step items tail s⟩

/-! ## The obligation -/

theorem length_patternBytes (n : Nat) (p : Pattern) : (p.bytes n).length = 8 := rfl

theorem length_areaBytes (n : Nat) (d : AreaDef) : (d.bytes n).length = 8 := rfl

theorem length_callBytes (n : Nat) (d : CallDef) : (d.bytes n).length = 15 := rfl

/-- Settles O43: each table's load, entry after entry. -/
theorem patternAreaAndCallLoadsDefine : Obligations.PatternAreaAndCallLoadsDefine := by
  unfold Obligations.PatternAreaAndCallLoadsDefine
  intro loads stops option
  have loads_of : ∀ {c h code table tail s} {becomes : State → Prop} (count : Nat),
      replies c h code (if tail = [] then { result := .done, data := [byte count] }
        else if count = 0 then { result := .refusedRange, data := [0] }
        else { result := .partialDone, data := [byte count, 4] }) s
        (fun u => becomes u ∧ TableLoaded table count tail s (begin code h s) u) → loads c h code table count tail s becomes := by
    rintro c h code table tail s becomes count ⟨u, next, became, loaded⟩
    exact ⟨u, next, loaded.same, loaded.selectors, became, loaded.still⟩
  refine ⟨fun h s entries tail a store some_ entry stop => ?_, fun h s entries tail a store some_ entry stop => ?_,
    fun h s entries tail a store some_ entry stop => ?_⟩
  · obtain ⟨lengths, refused⟩ := stop
    have read : ∀ x ∈ entries, x.1.length = 8 ∧ readPattern x.1 = some (patternLoad x.2.1 x.2.2) := by
      rintro ⟨bytes, number, load⟩ mem
      obtain ⟨small, form⟩ := entry _ mem
      cases load with
      | some p =>
        obtain ⟨range, written⟩ := form
        rw [show bytes = _ from written]
        exact ⟨rfl, readPattern_bytes small range⟩
      | none =>
        obtain ⟨length, first, last⟩ := form
        exact ⟨length, readPattern_delete small length first last⟩
    refine loads_of entries.length (table_load (loadOf := fun x => patternLoad x.2.1 x.2.2) (effect := loadPattern) rfl (by decide)
      a store some_ (fun x mem => (read x mem).1) (fun x mem => (read x mem).2) (fun _ _ => rfl) lengths
      (fun bad first => readPattern_none (lengths bad (List.mem_of_mem_head? first)) rfl (refused bad first)) loadPattern_loads
      fun u patterns calls => ⟨?_, ?_, ?_⟩)
    · rw [patterns, patterns_loadPatterns]
      rfl
    · rw [calls, defs_loadPatterns]
      rfl
    · rw [calls, areas_loadPatterns]
      rfl
  · obtain ⟨lengths, refused⟩ := stop
    have read : ∀ x ∈ entries, x.1.length = 8 ∧ readArea x.1 = some (areaLoad x.2.1 x.2.2) := by
      rintro ⟨bytes, area, load⟩ mem
      obtain ⟨small, form⟩ := entry _ mem
      cases load with
      | some d =>
        obtain ⟨range, written⟩ := form
        rw [show bytes = _ from written]
        exact ⟨rfl, readArea_bytes small range⟩
      | none =>
        obtain ⟨length, first, class_⟩ := form
        exact ⟨length, readArea_delete small length first class_⟩
    refine loads_of entries.length (table_load (loadOf := fun x => areaLoad x.2.1 x.2.2) (effect := loadArea) rfl (by decide)
      a store some_ (fun x mem => (read x mem).1) (fun x mem => (read x mem).2) (fun _ _ => rfl) lengths
      (fun bad first => readArea_none (lengths bad (List.mem_of_mem_head? first)) rfl (refused bad first)) loadArea_loads
      fun u patterns calls => ⟨?_, ?_, ?_⟩)
    · rw [calls, areas_loadAreas]
      rfl
    · rw [calls, defs_loadAreas]
      rfl
    · rw [patterns, patterns_loadAreas]
      rfl
  · obtain ⟨lengths, refused⟩ := stop
    have read : ∀ x ∈ entries, x.1.length = 15 ∧ readCall x.1 = some (callLoad x.2.1 x.2.2) := by
      rintro ⟨bytes, id, load⟩ mem
      obtain ⟨small, form⟩ := entry _ mem
      cases load with
      | some d =>
        obtain ⟨range, written⟩ := form
        rw [show bytes = _ from written]
        exact ⟨rfl, readCall_bytes small range⟩
      | none =>
        obtain ⟨length, first, repeats⟩ := form
        exact ⟨length, readCall_delete small length first repeats⟩
    refine loads_of entries.length (table_load (loadOf := fun x => callLoad x.2.1 x.2.2) (effect := loadCall) rfl (by decide)
      a store some_ (fun x mem => (read x mem).1) (fun x mem => (read x mem).2) (fun _ _ => rfl) lengths
      (fun bad first => readCall_none (lengths bad (List.mem_of_mem_head? first)) rfl (refused bad first)) loadCall_loads
      fun u patterns calls => ⟨?_, ?_, ?_⟩)
    · rw [calls, defs_loadCalls]
      rfl
    · rw [calls, areas_loadCalls]
      rfl
    · rw [patterns, patterns_loadCalls]
      rfl

end Sys2Proof.Machine
end

section
/-! SUPPORT. The policy table's entry and the take-back checks behind it (R76, R86), and loads of one entry (R211). -/

namespace Sys2Proof.Machine

variable {s t u : State} {h : CommandHeader} {c : Instr} {code table : Byte} {lockable : Bool} {result : Result}
  {lengthOf : List Byte → Option Nat} {apply : List Byte → State → Response} {entry : List Byte} {tail : List (List Byte)}

/-! ## A load of one entry -/

/-- The part is in a phase without the performance lock. -/
theorem unlocked (phase : s.phase.phase = .closed ∨ s.phase.phase = .preshow) : s.phase.phase.locked = false := by
  obtain phase | phase := phase
  · rw [phase]
    rfl
  · rw [phase]
    rfl

/-- One entry is applied, and those behind it, if any, stop the load. -/
theorem load_applies {holds : State → Prop}
    (row : LoadRow c code table lockable lengthOf apply h (entry ++ tail.flatten) s) (a : accepted h s = true)
    (store : s.command.store = none) (lock : lockable = true → s.phase.phase.locked = false) (whole : Whole lengthOf entry)
    (wholes : ∀ e ∈ tail, Whole lengthOf e) (applies : apply entry (begin code h s) = (.done, t))
    (stops : ∀ bad, tail.head? = some bad → ∀ t, apply bad t = (.refusedRange, t))
    (reported : holds (reportTable table .load (outcomeOf 1 tail).answer.result 1 t)) :
    replies c h code (if tail = [] then { result := .done, data := [1] } else { result := .partialDone, data := [1, 4] }) s holds := by
  have answer := answer_outcomeOf 1 tail
  rw [if_neg (show (1 : Nat) ≠ 0 by decide)] at answer
  change replies c h code (if tail = [] then { result := .done, data := [byte 1] } else { result := .partialDone, data := [byte 1, 4] }) s holds
  rw [← answer]
  refine load_replies row a store lock (entries := entry :: tail) (t := t) ?_ (List.cons_ne_nil _ _) List.flatten_cons ?_ reported
  · exact List.forall_mem_cons.2 ⟨whole, wholes⟩
  · rw [loadFrom, applies]
    exact loadFrom_stops fun bad first => stops bad first t

/-- The first entry is refused. -/
theorem load_refuses {bytes : List Byte} {entries : List (List Byte)} {holds : State → Prop}
    (row : LoadRow c code table lockable lengthOf apply h bytes s) (a : accepted h s = true)
    (store : s.command.store = none) (lock : lockable = true → s.phase.phase.locked = false) (joined : entries.flatten = bytes)
    (whole : ∀ e ∈ entries, Whole lengthOf e) (first : entries.head? = some entry)
    (refused : apply entry (begin code h s) = (result, begin code h s)) (done : result ≠ .done) (doneClamped : result ≠ .doneClamped)
    (reported : holds (reportTable table .load result 0 (begin code h s))) :
    replies c h code { result := result, data := [0] } s holds := by
  obtain ⟨rest, rfl⟩ : ∃ rest, entries = entry :: rest := by
    cases entries with
    | nil => nomatch first
    | cons e rest =>
      obtain rfl : e = entry := Option.some.inj first
      exact ⟨rest, rfl⟩
  exact load_replies (outcome := { count := 0, clamped := false, refusal := some result }) row a store lock whole
    (List.cons_ne_nil _ _) joined (loadFrom_refused refused done doneClamped) reported

/-- What an applied entry of a load and its TABLE entry leave. -/
structure EntryLoaded (changed : List Part) (table code : Byte) (h : CommandHeader) (tail : List (List Byte)) (s t u : State) : Prop where
  same : sameBut ([.attention, .report] ++ changed) (begin code h s) u = true
  lights : u.lights = t.lights
  cues : u.cues = t.cues
  zones : u.zones = t.zones
  raised : ∀ flag, flag ≠ .reportFull → isRaised flag u = isRaised flag t
  report : roomFor 1 s = true → u.phase.report = s.phase.report ++ [entryNow s .table [table, 0, if tail = [] then 0 else 2, 1]]

theorem entryLoaded {changed : List Part} (same : sameBut (.attention :: changed) (begin code h s) t = true)
    (report : t.phase.report = s.phase.report) (clock : t.clock = s.clock) :
    EntryLoaded changed table code h tail s t (reportTable table .load (outcomeOf 1 tail).answer.result 1 t) where
  same := by
    have frame := reportTable_frame table .load (outcomeOf 1 tail).answer.result 1 t
    refine sameBut_trans (sameBut_mono same ?_) (sameBut_mono frame ?_)
    · intro p mem
      simp only [List.mem_cons] at mem
      simp only [List.cons_append, List.nil_append, List.mem_cons]
      exact mem.imp_right .inr
    · intro p mem
      simp only [List.mem_cons, List.not_mem_nil, or_false] at mem
      simp only [List.cons_append, List.nil_append, List.mem_cons]
      obtain rfl | rfl := mem
      · exact .inr (.inl rfl)
      · exact .inl rfl
  lights := report_lights _ _ t
  cues := sameBut_cues (reportTable_frame table .load _ 1 t) (by decide)
  zones := sameBut_zones (reportTable_frame table .load _ 1 t) (by decide)
  raised flag other := isRaised_report other _ _ t
  report room := by
    rw [reportTable_report report clock room, result_outcomeOf, if_neg (show (1 : Nat) ≠ 0 by decide)]
    rfl

/-! ## The take-back checks (R86) -/

/-- The part takes the group back: the console has it, it has channels, and all are silent. -/
def TakenBack (s : State) (g : Nat) (group : Group) : Prop :=
  group.owner = .console ∧ groupEntries s g ≠ [] ∧ ∀ e ∈ groupEntries s g, e.silence = none

/-- What the take-back checks of these groups leave. -/
structure GroupsChecked (checked : Nat → Prop) (s t : State) : Prop where
  same : sameBut [.lights, .attention] s t = true
  policy : t.lights.policy = s.lights.policy
  timer : t.lights.refreshTimer = s.lights.refreshTimer
  raised : isRaised .consoleSilent s = true → isRaised .consoleSilent t = true
  taken : ∀ g group, s.lights.groups[g]? = some group → checked g → TakenBack s g group →
    isRaised .consoleSilent t = true ∧
    t.lights.groups[g]? = some { level := takenLevel s g, owner := .part, fade := none, stepTimer := none }
  kept : ∀ g group, s.lights.groups[g]? = some group → ¬ (checked g ∧ TakenBack s g group) → t.lights.groups[g]? = some group

theorem groupEntries_congr (same : t.lights.policy = s.lights.policy) (g : Nat) : groupEntries t g = groupEntries s g := by
  rw [groupEntries, groupEntries, same]

theorem takenBack_congr (same : t.lights.policy = s.lights.policy) {g : Nat} {group : Group} : TakenBack t g group ↔ TakenBack s g group := by
  rw [TakenBack, TakenBack, groupEntries_congr same]

theorem takenLevel_congr (same : t.lights.policy = s.lights.policy) (g : Nat) : takenLevel t g = takenLevel s g := by
  rw [takenLevel, takenLevel, groupEntries_congr same]

theorem takenBack_iff {g : Nat} {group : Group} : TakenBack s g group ↔
    group.owner = .console ∧ groupEntries s g ≠ [] ∧ (groupEntries s g).all PolicyEntry.silent = true := by
  simp [TakenBack, PolicyEntry.silent]

namespace GroupsChecked

variable {checked others : Nat → Prop}

theorem none (none_ : ∀ g, ¬ checked g) (s : State) : GroupsChecked checked s s :=
  ⟨sameBut_refl _ _, rfl, rfl, id, fun g _ _ is => absurd is (none_ g), fun _ _ found _ => found⟩

theorem congr (same : ∀ g, checked g ↔ others g) (h : GroupsChecked checked s t) : GroupsChecked others s t := by
  rwa [← funext fun g => propext (same g)]

theorem trans (first : GroupsChecked checked s t) (second : GroupsChecked others t u) (apart : ∀ g, checked g → ¬ others g) :
    GroupsChecked (fun g => checked g ∨ others g) s u := by
  refine ⟨sameBut_trans first.same second.same, second.policy.trans first.policy, second.timer.trans first.timer,
    fun raised => second.raised (first.raised raised), fun g group found is taken => ?_, fun g group found kept => ?_⟩
  · obtain is | is := is
    · obtain ⟨raised, took⟩ := first.taken g group found is taken
      exact ⟨second.raised raised, second.kept g _ took fun other => apart g is other.1⟩
    · have still := first.kept g group found fun other => apart g other.1 is
      rw [← takenLevel_congr first.policy]
      exact second.taken g group still is ((takenBack_congr first.policy).2 taken)
  · refine second.kept g group (first.kept g group found fun is => kept ⟨.inl is.1, is.2⟩) fun is => ?_
    exact kept ⟨.inr is.1, (takenBack_congr first.policy).1 is.2⟩

end GroupsChecked

theorem takeBackCheck_checked (g : Nat) (s : State) : GroupsChecked (· = g) s (takeBackCheck g s) := by
  rw [takeBackCheck]
  split
  · next absent =>
    refine ⟨sameBut_refl _ _, rfl, rfl, id, fun x group found is _ => ?_, fun _ _ found _ => found⟩
    rw [is, absent] at found
    nomatch found
  · next group at_ =>
    split
    · next taken =>
      have inside : g < 8 := by
        have := (Vector.getElem?_eq_some_iff.1 at_).1
        exact this
      refine ⟨?_, rfl, rfl, fun _ => isRaised_set _ _, fun x other found is _ => ⟨isRaised_set _ _, ?_⟩, fun x other found kept => ?_⟩
      · refine sameBut_trans (sameBut_mono ?_ (by decide : [Part.lights] ⊆ _)) (sameBut_mono (setAttention_frame _ _) (by decide))
        simp [sameBut, allParts, samePart, setGroup]
      · subst is
        change (s.lights.groups.setIfInBounds x _)[x]? = _
        simp [inside]
      · have apart : g ≠ x := by
          rintro rfl
          rw [at_] at found
          obtain rfl := Option.some.inj found
          exact kept ⟨rfl, takenBack_iff.2 taken⟩
        change (s.lights.groups.setIfInBounds g _)[x]? = _
        simp [apart, found]
    · next kept =>
      refine ⟨sameBut_refl _ _, rfl, rfl, id, fun x other found is taken => ?_, fun _ _ found _ => found⟩
      subst is
      rw [at_] at found
      obtain rfl := Option.some.inj found
      exact absurd (takenBack_iff.1 taken) kept

/-- Both groups of a change are checked, if it is one. -/
theorem membershipChecks_checked (before after : Option Nat) (s : State) :
    GroupsChecked (fun g => before ≠ after ∧ (before = some g ∨ after = some g)) s (membershipChecks before after s) := by
  unfold membershipChecks
  by_cases same : before = after
  · rw [if_pos same]
    exact .none (fun g is => is.1 same) s
  · rw [if_neg same]
    cases before with
    | none =>
      cases after with
      | none => exact absurd rfl same
      | some g => exact (takeBackCheck_checked g s).congr fun x => by simp [eq_comm]
    | some f =>
      have first := takeBackCheck_checked f s
      cases after with
      | none => exact first.congr fun x => by simp [eq_comm]
      | some g =>
        have apart : f ≠ g := fun is => same (congrArg some is)
        refine (first.trans (takeBackCheck_checked g _) fun x is other => apart (is.symm.trans other)).congr fun x => ?_
        simp [apart, eq_comm]

end Sys2Proof.Machine
end

section
/-! SUPPORT. LDPO (R76, R77, R86): an entry inserted, replaced or deleted, with the take-back checks behind it. -/

namespace Sys2Proof.Machine

variable {s t u w : State} {h : CommandHeader} {tail : List (List Byte)} {entry : List Byte} {d : PolicyDef} {old : PolicyEntry}
  {segment channel : Nat}

/-! ## Entries read -/

theorem readPolicy_delete {unused : List Byte} (small : segment ≤ 3) (channels : channel ≤ 511) (length : unused.length = 5) :
    readPolicy (byte segment :: bytes2 channel ++ 0 :: unused) = some (.delete segment channel) := by
  match unused, length with
  | [a, b, c, d, e], _ =>
    simp only [bytes2, List.cons_append, List.nil_append, readPolicy, byte_toNat (show segment < 256 by omega),
      number2_bytes (show channel < 65536 by omega), if_pos (And.intro small channels), if_true]

theorem of_role {n : Nat} {role : Role} (named : Role.ofCode n = some role) :
    n ≤ 4 ∧ (role = .house ↔ n = 1) ∧ (role = .effect ↔ n = 4) := by
  match n with
  | 0 => nomatch named
  | 1 | 2 | 3 | 4 =>
    cases named
    decide
  | n + 5 => nomatch named

/-- An entry out of range is not read (R76). -/
theorem readPolicy_none {b : Nat → Nat} (length : entry.length = 9) (bytes : b = fun i => (entry.getD i 0).toNat)
    (refused : 3 < b 0 ∨ 511 < b 1 * 256 + b 2 ∨ 4 < b 3 ∨ (b 3 = 1 ∧ (7 < b 4 ∨ 2 < b 5)) ∨ (b 3 = 4 ∧ 15 < b 7)) :
    readPolicy entry = none := by
  subst bytes
  match entry, length with
  | [segment, channelHi, channelLo, role, group, merge, floor, window, alarm], _ =>
    change 3 < segment.toNat ∨ 511 < channelHi.toNat * 256 + channelLo.toNat ∨ 4 < role.toNat ∨
      (role.toNat = 1 ∧ (7 < group.toNat ∨ 2 < merge.toNat)) ∨ (role.toNat = 4 ∧ 15 < window.toNat) at refused
    rw [readPolicy]
    split
    · next key =>
      obtain ⟨small, channels⟩ := key
      rw [number2] at channels
      have named : role ≠ 0 := fun zero => by
        have := toNat_eq_zero.2 zero
        omega
      rw [if_neg named]
      split
      · rfl
      · next r found =>
        obtain ⟨few, house, effect⟩ := of_role found
        refine if_neg fun range => ?_
        simp only [PolicyDef.inRange, Bool.and_eq_true] at range
        obtain ⟨_, range⟩ := range
        cases r with
        | house =>
          have : group.toNat ≤ 7 ∧ merge.toNat ≤ 2 := of_decide_eq_true range
          have := house.1 rfl
          omega
        | effect =>
          have : window.toNat ≤ 15 := of_decide_eq_true range
          have := effect.1 rfl
          omega
        | aisle | stageWork =>
          have : role.toNat ≠ 1 := fun one => nomatch house.2 one
          have : role.toNat ≠ 4 := fun four => nomatch effect.2 four
          omega
    · rfl

/-! ## The policy table -/

/-- The policy table replaced. -/
def withPolicy (policy : List PolicyEntry) (s : State) : State := s.onLights fun l => { l with policy := policy }

theorem insertPolicy_eq (e : PolicyEntry) (policy : List PolicyEntry) :
    ∃ front back, policy = front ++ back ∧ insertPolicy e policy = front ++ e :: back := by
  induction policy with
  | nil => exact ⟨[], [], rfl, rfl⟩
  | cons x rest ih =>
    rw [insertPolicy]
    split
    · exact ⟨[], x :: rest, rfl, rfl⟩
    · obtain ⟨front, back, joined, inserted⟩ := ih
      exact ⟨x :: front, back, by rw [joined]; rfl, by rw [inserted]; rfl⟩

theorem length_insertPolicy (e : PolicyEntry) (policy : List PolicyEntry) : (insertPolicy e policy).length = policy.length + 1 := by
  obtain ⟨front, back, joined, inserted⟩ := insertPolicy_eq e policy
  rw [inserted, joined, List.length_append, List.length_append, List.length_cons]
  omega

theorem find_between_other {α : Type} {p : α → Bool} {e : α} {front back : List α} (other : p e = false) :
    (front ++ e :: back).find? p = (front ++ back).find? p := by
  rw [List.find?_append, List.find?_append, List.find?_cons, other]

theorem find_between_self {α : Type} {p : α → Bool} {e : α} {front back : List α} (self : p e = true)
    (absent : (front ++ back).find? p = none) : (front ++ e :: back).find? p = some e := by
  rw [List.find?_append] at absent
  obtain ⟨front_, _⟩ := Option.or_eq_none_iff.1 absent
  rw [List.find?_append, front_, List.find?_cons, self]
  rfl

theorem find_insertPolicy {e : PolicyEntry} {policy : List PolicyEntry} {p : PolicyEntry → Bool} (other : p e = false) :
    (insertPolicy e policy).find? p = policy.find? p := by
  obtain ⟨front, back, rfl, inserted⟩ := insertPolicy_eq e policy
  rw [inserted, find_between_other other]

theorem find_insertPolicy_self {e : PolicyEntry} {policy : List PolicyEntry} {p : PolicyEntry → Bool} (self : p e = true)
    (absent : policy.find? p = none) : (insertPolicy e policy).find? p = some e := by
  obtain ⟨front, back, rfl, inserted⟩ := insertPolicy_eq e policy
  rw [inserted, find_between_self self absent]

theorem hasKey_self (d : PolicyDef) : d.hasKey d.segment d.channel = true := by simp [PolicyDef.hasKey]

theorem hasKey_other (other : ¬ (segment = d.segment ∧ channel = d.channel)) : d.hasKey segment channel = false :=
  decide_eq_false fun same => other ⟨same.1.symm, same.2.symm⟩

/-- The policy with one channel's definition replaced. -/
def redefined (d : PolicyDef) (policy : List PolicyEntry) : List PolicyEntry :=
  policy.map fun e => if e.defn.hasKey d.segment d.channel then { e with defn := d } else e

theorem find_redefined (found : findPolicy s d.segment d.channel = some old) :
    (redefined d s.lights.policy).find? (fun e => e.defn.hasKey d.segment d.channel) = some { old with defn := d } := by
  have keys : ((fun e : PolicyEntry => e.defn.hasKey d.segment d.channel) ∘ fun e : PolicyEntry =>
      if e.defn.hasKey d.segment d.channel then { e with defn := d } else e) = fun e => e.defn.hasKey d.segment d.channel := by
    funext e
    rw [Function.comp_apply]
    split
    · next has => exact (hasKey_self d).trans has.symm
    · rfl
  rw [redefined, List.find?_map, keys, show s.lights.policy.find? _ = some old from found, Option.map_some,
    if_pos (List.find?_some found)]

theorem outputs_redefined (d : PolicyDef) (policy : List PolicyEntry) :
    (redefined d policy).map PolicyEntry.lastOutput = policy.map PolicyEntry.lastOutput := by
  rw [redefined, List.map_map]
  refine List.map_congr_left fun e _ => ?_
  rw [Function.comp_apply]
  split
  · rfl
  · rfl

theorem find_deleted (policy : List PolicyEntry) :
    (policy.filter fun e => !e.defn.hasKey segment channel).find? (fun e => e.defn.hasKey segment channel) = none := by
  rw [List.find?_eq_none]
  intro e mem
  simpa using (List.mem_filter.1 mem).2

theorem filter_undefined (absent : findPolicy s segment channel = none) :
    s.lights.policy.filter (fun e => !e.defn.hasKey segment channel) = s.lights.policy := by
  rw [List.filter_eq_self]
  intro e mem
  simpa using List.find?_eq_none.1 absent e mem

theorem withPolicy_frame (policy : List PolicyEntry) (s : State) : sameBut [.lights, .outputs] s (withPolicy policy s) = true :=
  onLights_frame s _

theorem redefined_frame (d : PolicyDef) (s : State) : sameBut [.lights] s (withPolicy (redefined d s.lights.policy) s) = true := by
  have outputs := outputs_redefined d s.lights.policy
  simp [sameBut, allParts, samePart, withPolicy, outputs]

/-! ## Groups whose members a change touches -/

theorem memberOf_iff {g : Nat} : d.memberOf = some g ↔ d.inGroup g = true := by
  unfold PolicyDef.memberOf PolicyDef.inGroup
  split
  · next house => simp [house]
  · next other => simp [other]

theorem checked_inserted (g : Nat) : (none ≠ d.memberOf ∧ (none = some g ∨ d.memberOf = some g)) ↔ d.inGroup g = true := by
  rw [← memberOf_iff]
  constructor
  · rintro ⟨_, none_ | is⟩
    · nomatch none_
    · exact is
  · intro is
    exact ⟨by rw [is]; nofun, .inr is⟩

theorem checked_deleted (g : Nat) : (d.memberOf ≠ none ∧ (d.memberOf = some g ∨ none = some g)) ↔ d.inGroup g = true := by
  rw [← memberOf_iff]
  constructor
  · rintro ⟨_, is | none_⟩
    · exact is
    · nomatch none_
  · intro is
    exact ⟨by rw [is]; nofun, .inl is⟩

theorem checked_redefined {d' : PolicyDef} (g : Nat) :
    (d'.memberOf ≠ d.memberOf ∧ (d'.memberOf = some g ∨ d.memberOf = some g)) ↔ d.inGroup g ≠ d'.inGroup g := by
  rw [Ne, Ne, ← Bool.coe_iff_coe, ← memberOf_iff, ← memberOf_iff]
  constructor
  · rintro ⟨differ, is | is⟩ same
    · exact differ (is.trans (same.2 is).symm)
    · exact differ ((same.1 is).trans is.symm)
  · intro differ
    by_cases is : d'.memberOf = some g
    · exact ⟨fun same => differ ⟨fun _ => is, fun _ => same ▸ is⟩, .inl is⟩
    · by_cases is' : d.memberOf = some g
      · exact ⟨fun same => is (same.trans is'), .inr is'⟩
      · exact absurd ⟨fun x => absurd x is', fun x => absurd x is⟩ differ

/-! ## An entry applied -/

/-- What the groups are behind a policy entry whose changed groups have been checked. -/
structure GroupsTaken (changed : Nat → Prop) (s u : State) : Prop where
  timer : u.lights.refreshTimer = s.lights.refreshTimer
  taken : ∀ g group, s.lights.groups[g]? = some group → changed g ∧ TakenBack u g group →
    isRaised .consoleSilent u = true ∧
    u.lights.groups[g]? = some { level := takenLevel u g, owner := .part, fade := none, stepTimer := none }
  kept : ∀ g group, s.lights.groups[g]? = some group → ¬ (changed g ∧ TakenBack u g group) → u.lights.groups[g]? = some group

variable {code table : Byte} {changed : Nat → Prop} {policy : List PolicyEntry} {parts : List Part}

theorem groupsTaken_of (loaded : EntryLoaded parts table code h tail s t u)
    (checked : GroupsChecked changed (withPolicy policy (begin code h s)) t) : GroupsTaken changed s u := by
  have policy_ : u.lights.policy = (withPolicy policy (begin code h s)).lights.policy := by rw [loaded.lights, checked.policy]
  refine ⟨by rw [loaded.lights, checked.timer]; rfl, fun g group found is => ?_, fun g group found is => ?_⟩
  · obtain ⟨is, taken⟩ := is
    obtain ⟨raised, took⟩ := checked.taken g group found is ((takenBack_congr policy_).1 taken)
    rw [loaded.raised _ (by decide), loaded.lights, takenLevel_congr policy_]
    exact ⟨raised, took⟩
  · rw [loaded.lights]
    exact checked.kept g group found fun other => is ⟨other.1, (takenBack_congr policy_).2 other.2⟩

/-- What a policy entry leaves: its table, the groups, and the TABLE entry. -/
structure PolicyLoaded (parts : List Part) (policy : List PolicyEntry) (changed : Nat → Prop) (h : CommandHeader)
    (tail : List (List Byte)) (s u : State) : Prop where
  same : sameBut ([.attention, .report] ++ parts) (begin 0x10 h s) u = true
  policy : u.lights.policy = policy
  groups : GroupsTaken changed s u
  report : roomFor 1 s = true → u.phase.report = s.phase.report ++ [entryNow s .table [0, 0, if tail = [] then 0 else 2, 1]]

theorem policyLoaded {before after : Option Nat} (lights : Part.lights ∈ parts)
    (same : sameBut parts (begin 0x10 h s) (withPolicy policy (begin 0x10 h s)) = true)
    (groups : ∀ g, (before ≠ after ∧ (before = some g ∨ after = some g)) ↔ changed g) :
    PolicyLoaded parts policy changed h tail s (reportTable 0 .load (outcomeOf 1 tail).answer.result 1
      (membershipChecks before after (withPolicy policy (begin 0x10 h s)))) := by
  have checked := (membershipChecks_checked before after (withPolicy policy (begin 0x10 h s))).congr groups
  have report' := sameBut_report checked.same (by decide)
  have clock' := sameBut_clock checked.same (by decide)
  have loaded := entryLoaded (table := 0) (code := 0x10) (h := h) (tail := tail) (s := s) (changed := parts)
    (t := membershipChecks before after (withPolicy policy (begin 0x10 h s)))
    (sameBut_trans (sameBut_mono same fun p mem => List.mem_cons_of_mem _ mem) (sameBut_mono checked.same fun p mem => by
      simp only [List.mem_cons, List.not_mem_nil, or_false] at mem
      obtain rfl | rfl := mem
      · exact List.mem_cons_of_mem _ lights
      · exact List.mem_cons_self))
    report' clock'
  exact ⟨loaded.same, by rw [loaded.lights, checked.policy]; rfl, groupsTaken_of loaded checked, loaded.report⟩

end Sys2Proof.Machine
end

section
/-! SUPPORT. The loads of LDPO (R76), entry by entry. -/

namespace Sys2Proof.Machine

variable {s : State} {h : CommandHeader} {tail : List (List Byte)} {d : PolicyDef} {old : PolicyEntry} {segment channel : Nat}

/-- The entries behind the first of an LDPO: whole, the first of them out of range. -/
structure PolicyStops (tail : List (List Byte)) : Prop where
  lengths : ∀ e ∈ tail, e.length = 9
  refused : ∀ bad, tail.head? = some bad → readPolicy bad = none

/-- The part takes an LDPO. -/
structure PolicyTaken (h : CommandHeader) (s : State) : Prop where
  accepted : accepted h s = true
  store : s.command.store = none
  unlocked : s.phase.phase.locked = false

theorem length_policyBytes (d : PolicyDef) : d.bytes.length = 9 := rfl

/-- The reply of one applied entry. -/
def loadAnswer (tail : List (List Byte)) : Answer :=
  if tail = [] then { result := .done, data := [1] } else { result := .partialDone, data := [1, 4] }

theorem ldpo_applies {entry : List Byte} {load : PolicyLoad} {t : State} {holds : State → Prop} (takes : PolicyTaken h s) (stops : PolicyStops tail)
    (length : entry.length = 9) (reads : readPolicy entry = some load) (applies : applyPolicy load (begin 0x10 h s) = (.done, t))
    (reported : holds (reportTable 0 .load (outcomeOf 1 tail).answer.result 1 t)) :
    replies (.ldpo h (entry ++ tail.flatten)) h 0x10 (loadAnswer tail) s holds :=
  load_applies (table := 0) (lockable := true) (lengthOf := fixedLength 9) (apply := applyRead readPolicy applyPolicy) rfl
    takes.accepted takes.store (fun _ => takes.unlocked) (whole_fixed (by decide) length)
    (fun e mem => whole_fixed (by decide) (stops.lengths e mem)) ((applyRead_some reads _).trans applies)
    (fun bad first t => applyRead_none (stops.refused bad first) t) reported

/-- LDPO of a channel that has no entry, while the table has room. -/
theorem ldpo_inserts (takes : PolicyTaken h s) (stops : PolicyStops tail) (range : d.inRange = true)
    (absent : findPolicy s d.segment d.channel = none) (room : s.lights.policy.length < 96) :
    replies (.ldpo h (d.bytes ++ tail.flatten)) h 0x10 (loadAnswer tail) s
      (PolicyLoaded [.lights, .outputs] (insertPolicy (PolicyEntry.initial d) s.lights.policy) (fun g => d.inGroup g = true) h tail s) := by
  refine ldpo_applies takes stops (length_policyBytes d) (readPolicy_bytes range) (t := membershipChecks none d.memberOf
    (withPolicy (insertPolicy (PolicyEntry.initial d) s.lights.policy) (begin 0x10 h s))) ?_
    (policyLoaded (by decide) (withPolicy_frame _ _) checked_inserted)
  rw [applyPolicy, show findPolicy (begin 0x10 h s) d.segment d.channel = none from absent]
  exact if_pos room

/-- LDPO of a channel that has an entry. -/
theorem ldpo_redefines (takes : PolicyTaken h s) (stops : PolicyStops tail) (range : d.inRange = true)
    (found : findPolicy s d.segment d.channel = some old) :
    replies (.ldpo h (d.bytes ++ tail.flatten)) h 0x10 (loadAnswer tail) s
      (PolicyLoaded [.lights] (redefined d s.lights.policy) (fun g => d.inGroup g ≠ old.defn.inGroup g) h tail s) := by
  refine ldpo_applies takes stops (length_policyBytes d) (readPolicy_bytes range) (t := membershipChecks old.defn.memberOf d.memberOf
    (withPolicy (redefined d s.lights.policy) (begin 0x10 h s))) ?_
    (policyLoaded (by decide) (redefined_frame d (begin 0x10 h s)) checked_redefined)
  rw [applyPolicy, show findPolicy (begin 0x10 h s) d.segment d.channel = some old from found]
  rfl

/-- LDPO that deletes a channel's entry. -/
theorem ldpo_deletes {unused : List Byte} (takes : PolicyTaken h s) (stops : PolicyStops tail) (small : segment ≤ 3) (channels : channel ≤ 511)
    (length : unused.length = 5) (found : findPolicy s segment channel = some old) :
    replies (.ldpo h ((byte segment :: bytes2 channel ++ 0 :: unused) ++ tail.flatten)) h 0x10 (loadAnswer tail) s
      (PolicyLoaded [.lights, .outputs] (s.lights.policy.filter fun e => !e.defn.hasKey segment channel)
        (fun g => old.defn.inGroup g = true) h tail s) := by
  refine ldpo_applies takes stops (by simp [bytes2, length]) (readPolicy_delete small channels length)
    (t := membershipChecks old.defn.memberOf none
      (withPolicy (s.lights.policy.filter fun e => !e.defn.hasKey segment channel) (begin 0x10 h s))) ?_
    (policyLoaded (by decide) (withPolicy_frame _ _) checked_deleted)
  rw [applyPolicy, show findPolicy (begin 0x10 h s) segment channel = some old from found]
  rfl

/-- LDPO that deletes where there is no entry. -/
theorem ldpo_deletes_none {unused : List Byte} (takes : PolicyTaken h s) (stops : PolicyStops tail) (small : segment ≤ 3)
    (channels : channel ≤ 511) (length : unused.length = 5) (absent : findPolicy s segment channel = none) :
    replies (.ldpo h ((byte segment :: bytes2 channel ++ 0 :: unused) ++ tail.flatten)) h 0x10 (loadAnswer tail) s
      (EntryLoaded [.lights, .outputs] 0 0x10 h tail s (begin 0x10 h s)) := by
  refine ldpo_applies takes stops (by simp [bytes2, length]) (readPolicy_delete small channels length) (t := begin 0x10 h s) ?_
    (entryLoaded (sameBut_refl _ _) rfl rfl)
  rw [applyPolicy, show findPolicy (begin 0x10 h s) segment channel = none from absent]

/-! ## Refused first entries, in any table -/

/-- What a load leaves whose first entry is refused. -/
structure LoadRefused (table code reason : Byte) (h : CommandHeader) (s u : State) : Prop where
  same : sameBut [.attention, .report] (begin code h s) u = true
  report : roomFor 1 s = true → u.phase.report = s.phase.report ++ [entryNow s .table [table, 0, reason, 0]]

theorem loadRefused {table code reason : Byte} {result : Result} (named : byte result.code = reason) :
    LoadRefused table code reason h s (reportTable table .load result 0 (begin code h s)) := by
  refine ⟨sameBut_mono (reportTable_frame _ _ _ _ _) (by decide), fun room => ?_⟩
  have reported := reportTable_report (table := table) (operation := .load) (result := result) (count := 0) (s := s)
    (t := begin code h s) rfl rfl room
  rw [reported, named]
  rfl

theorem ldpo_full (takes : PolicyTaken h s) (stops : PolicyStops tail) (range : d.inRange = true)
    (absent : findPolicy s d.segment d.channel = none) (full : 96 ≤ s.lights.policy.length) :
    replies (.ldpo h (d.bytes ++ tail.flatten)) h 0x10 { result := .refusedFull, data := [0] } s (LoadRefused 0 0x10 5 h s) := by
  refine load_refuses (table := 0) (lockable := true) (lengthOf := fixedLength 9) (apply := applyRead readPolicy applyPolicy) rfl
    takes.accepted takes.store (fun _ => takes.unlocked) (entries := d.bytes :: tail) List.flatten_cons
    (List.forall_mem_cons.2 ⟨whole_fixed (by decide) rfl, fun e mem => whole_fixed (by decide) (stops.lengths e mem)⟩) rfl
    ((applyRead_some (readPolicy_bytes range) _).trans ?_) (by decide) (by decide) (loadRefused rfl)
  rw [applyPolicy, show findPolicy (begin 0x10 h s) d.segment d.channel = none from absent]
  exact if_neg (not_lt.2 full)

theorem ldpo_range (takes : PolicyTaken h s) (stops : PolicyStops tail) (some_ : tail ≠ []) :
    replies (.ldpo h tail.flatten) h 0x10 { result := .refusedRange, data := [0] } s (LoadRefused 0 0x10 4 h s) := by
  obtain ⟨bad, rest, rfl⟩ := List.exists_cons_of_ne_nil some_
  exact load_refuses (table := 0) (lockable := true) (lengthOf := fixedLength 9) (apply := applyRead readPolicy applyPolicy) rfl
    takes.accepted takes.store (fun _ => takes.unlocked) rfl
    (fun e mem => whole_fixed (by decide) (stops.lengths e mem)) rfl
    (applyRead_none (stops.refused bad rfl) _) (by decide) (by decide) (loadRefused rfl)

end Sys2Proof.Machine
end

section
/-! SUPPORT. LDCU (R60, R61): a cue inserted, replaced or deleted. -/

namespace Sys2Proof.Machine

variable {s : State} {h : CommandHeader} {tail : List (List Byte)} {e old : CueEntry} {list cue : Nat} {entry : List Byte}

/-! ## Entries read -/

theorem readCue_delete (small : list ≤ 3) (cues : cue ≤ 9999) :
    readCue (byte list :: bytes2 cue ++ [0]) = some (.delete list cue) := by
  simp only [bytes2, List.cons_append, List.nil_append, readCue, byte_toNat (show list < 256 by omega),
    number2_bytes (show cue < 65536 by omega), if_pos (And.intro small cues), if_true]

/-- An action of which the cue table does not allow the kind or an argument (R60). -/
def ActionRefused (a : Nat → Nat) : Prop :=
  6 < a 0 ∨ (a 0 = 0 ∧ (7 < a 1 ∨ 5 < a 2)) ∨ (a 0 = 1 ∧ (7 < a 1 ∨ 36000 < a 4 * 256 + a 5)) ∨
  ((a 0 = 2 ∨ a 0 = 3) ∧ 15 < a 1) ∨ (a 0 = 4 ∧ 31 < a 1)

theorem of_phaseCode {n : Nat} {phase : Phase} (named : Phase.ofCode n = some phase) : n ≤ 7 := by
  match n with
  | 0 | 1 | 2 | 3 | 4 | 5 | 6 | 7 => omega
  | n + 8 => nomatch named

theorem readAction_allowed {kind a b c d f : Byte} {action : CueAction} (read : readAction [kind, a, b, c, d, f] = some action)
    (range : action.inRange = true) : ¬ ActionRefused fun i => ([kind, a, b, c, d, f].getD i 0).toNat := by
  change ¬ (6 < kind.toNat ∨ (kind.toNat = 0 ∧ (7 < a.toNat ∨ 5 < b.toNat)) ∨
    (kind.toNat = 1 ∧ (7 < a.toNat ∨ 36000 < d.toNat * 256 + f.toNat)) ∨ ((kind.toNat = 2 ∨ kind.toNat = 3) ∧ 15 < a.toNat) ∨
    (kind.toNat = 4 ∧ 31 < a.toNat))
  unfold readAction at read
  dsimp only at read
  split at read
  · next zero =>
    obtain ⟨target, named, rfl⟩ := Option.map_eq_some_iff.1 read
    have := of_phaseCode named
    have : b.toNat ≤ 5 := of_decide_eq_true range
    omega
  · next one =>
    cases read
    obtain ⟨_, _, _⟩ : a.toNat ≤ 7 ∧ number2 b c ≤ 65535 ∧ d.toNat * 256 + f.toNat ≤ 36000 := of_decide_eq_true range
    omega
  · next two =>
    cases read
    have : a.toNat ≤ 15 := of_decide_eq_true range
    omega
  · next three =>
    cases read
    have : a.toNat ≤ 15 := of_decide_eq_true range
    omega
  · next four =>
    cases read
    have : a.toNat ≤ 31 := of_decide_eq_true range
    omega
  · omega
  · omega
  · nomatch read

theorem readActions_allowed {n : Nat} {bytes : List Byte} {actions : List CueAction} (read : readActions n bytes = some actions)
    (range : actions.all CueAction.inRange = true) (length : bytes.length = 6 * n) {k : Nat} (inside : k < n) :
    ¬ ActionRefused fun i => (bytes.getD (6 * k + i) 0).toNat := by
  induction n generalizing bytes actions k with
  | zero => exact absurd inside (Nat.not_lt_zero k)
  | succ n ih =>
    match bytes, length with
    | kind :: a :: b :: c :: d :: f :: rest, length =>
      unfold readActions at read
      split at read
      · next action later first others =>
        cases read
        obtain ⟨allowed, allowed'⟩ := Bool.and_eq_true _ _ ▸ range
        cases k with
        | zero =>
          intro refused
          refine readAction_allowed first allowed ?_
          simpa [ActionRefused] using refused
        | succ k =>
          have later_ := ih others allowed' (by simpa [Nat.mul_succ] using length) (Nat.lt_of_succ_lt_succ inside)
          have shifted : (fun i => ((kind :: a :: b :: c :: d :: f :: rest).getD (6 * (k + 1) + i) 0).toNat) =
              fun i => (rest.getD (6 * k + i) 0).toNat := by
            funext i
            rw [show 6 * (k + 1) + i = 6 * k + i + 6 by omega]
            rfl
          rwa [shifted]
      · nomatch read

/-- An entry out of range is not read (R61). -/
theorem readCue_none {b : Nat → Nat} (whole : (entry[3]?).map (fun count => 4 + 6 * count.toNat) = some entry.length)
    (bytes : b = fun i => (entry.getD i 0).toNat)
    (refused : 3 < b 0 ∨ 9999 < b 1 * 256 + b 2 ∨ 4 < b 3 ∨ ∃ action < b 3, ActionRefused fun i => b (4 + 6 * action + i)) :
    readCue entry = none := by
  subst bytes
  match entry, whole with
  | list :: cueHi :: cueLo :: count :: actions, whole =>
    have length : actions.length = 6 * count.toNat := by
      have := Option.some.inj whole
      simp only [List.length_cons] at this
      omega
    change 3 < list.toNat ∨ 9999 < cueHi.toNat * 256 + cueLo.toNat ∨ 4 < count.toNat ∨
      ∃ action < count.toNat, ActionRefused fun i => ((list :: cueHi :: cueLo :: count :: actions).getD (4 + 6 * action + i) 0).toNat at refused
    rw [readCue]
    split
    · next key =>
      obtain ⟨lists, cues⟩ := key
      rw [number2] at cues
      obtain many | ⟨action, inside, refused⟩ := (refused.resolve_left (not_lt.2 lists)).resolve_left (not_lt.2 cues)
      · have some_ : count ≠ 0 := fun zero => by
          have := toNat_eq_zero.2 zero
          omega
        rw [if_neg some_, if_pos many]
      · have some_ : count ≠ 0 := fun zero => by
          have := toNat_eq_zero.2 zero
          omega
        rw [if_neg some_]
        split
        · rfl
        · split
          · rfl
          · next read =>
            refine if_neg fun range => ?_
            obtain ⟨_, allowed⟩ := Bool.and_eq_true _ _ ▸ range
            refine readActions_allowed read allowed length inside ?_
            have shifted : (fun i => ((list :: cueHi :: cueLo :: count :: actions).getD (4 + 6 * action + i) 0).toNat) =
                fun i => (actions.getD (6 * action + i) 0).toNat := by
              funext i
              rw [show 4 + 6 * action + i = 6 * action + i + 4 by omega]
              rfl
            rwa [← shifted]
    · rfl

/-! ## The cue table -/

theorem insertCue_eq (e : CueEntry) (table : List CueEntry) :
    ∃ front back, table = front ++ back ∧ insertCue e table = front ++ e :: back := by
  induction table with
  | nil => exact ⟨[], [], rfl, rfl⟩
  | cons x rest ih =>
    rw [insertCue]
    split
    · exact ⟨[], x :: rest, rfl, rfl⟩
    · obtain ⟨front, back, joined, inserted⟩ := ih
      exact ⟨x :: front, back, by rw [joined]; rfl, by rw [inserted]; rfl⟩

theorem cueKey_self (e : CueEntry) : e.hasKey e.list e.cue = true := by simp [CueEntry.hasKey]

theorem find_redefinedCue {table : List CueEntry} (found : table.find? (fun x => x.hasKey e.list e.cue) = some old) :
    (table.map fun x => if x.hasKey e.list e.cue then e else x).find? (fun x => x.hasKey e.list e.cue) = some e := by
  have keys : ((fun x : CueEntry => x.hasKey e.list e.cue) ∘ fun x : CueEntry => if x.hasKey e.list e.cue then e else x) =
      fun x => x.hasKey e.list e.cue := by
    funext x
    rw [Function.comp_apply]
    split
    · next has => exact (cueKey_self e).trans has.symm
    · rfl
  rw [List.find?_map, keys, found, Option.map_some, if_pos (List.find?_some found)]

theorem find_deletedCue (table : List CueEntry) :
    (table.filter fun x => !x.hasKey list cue).find? (fun x => x.hasKey list cue) = none := by
  rw [List.find?_eq_none]
  intro x mem
  simpa using (List.mem_filter.1 mem).2

/-! ## The load -/

/-- The entries behind the first of an LDCU: whole, the first of them out of range. -/
structure CueStops (tail : List (List Byte)) : Prop where
  whole : ∀ e ∈ tail, Whole cueLength e
  refused : ∀ bad, tail.head? = some bad → readCue bad = none

/-- What an applied cue entry leaves: the table, and the TABLE entry. -/
structure CueLoaded (table : List CueEntry) (h : CommandHeader) (tail : List (List Byte)) (s u : State) : Prop where
  same : sameBut ([.attention, .report] ++ [.cues]) (begin 0x11 h s) u = true
  cues : u.cues = { s.cues with table := table }
  report : roomFor 1 s = true → u.phase.report = s.phase.report ++ [entryNow s .table [1, 0, if tail = [] then 0 else 2, 1]]

theorem ldcu_applies {load : CueLoad} {table : List CueEntry} (a : accepted h s = true) (store : s.command.store = none)
    (stops : CueStops tail) (whole : Whole cueLength entry) (reads : readCue entry = some load)
    (applies : applyCue load (begin 0x11 h s) = (.done, (begin 0x11 h s).onCues fun c => { c with table := table })) :
    replies (.ldcu h (entry ++ tail.flatten)) h 0x11 (loadAnswer tail) s (CueLoaded table h tail s) := by
  refine load_applies (table := 1) (lockable := false) (lengthOf := cueLength) (apply := applyRead readCue applyCue) rfl
    a store nofun whole stops.whole ((applyRead_some reads _).trans applies)
    (fun bad first t => applyRead_none (stops.refused bad first) t) ?_
  have loaded := entryLoaded (table := 1) (code := 0x11) (h := h) (tail := tail) (s := s) (changed := [.cues])
    (t := (begin 0x11 h s).onCues fun c => { c with table := table })
    (sameBut_mono (onCues_frame _ _) (by decide)) rfl rfl
  exact ⟨loaded.same, loaded.cues, loaded.report⟩

theorem whole_cueBytes (range : e.inRange = true) : Whole cueLength e.bytes := by
  obtain ⟨⟨_, _, _, few⟩, _⟩ :
      (e.list ≤ 3 ∧ e.cue ≤ 9999 ∧ 1 ≤ e.actions.length ∧ e.actions.length ≤ 4) ∧ e.actions.all CueAction.inRange = true := by
    simpa only [CueEntry.inRange, Bool.and_eq_true, decide_eq_true_eq] using range
  refine whole_cue ?_
  have actions : (e.actions.flatMap CueAction.bytes).length = 6 * e.actions.length := by
    rw [List.length_flatMap, List.map_congr_left fun action _ => length_actionBytes action, List.map_const', List.sum_replicate,
      smul_eq_mul, Nat.mul_comm]
  have listed : e.bytes = byte e.list :: byte (e.cue / 256) :: byte e.cue :: byte e.actions.length :: e.actions.flatMap CueAction.bytes := rfl
  rw [listed, List.length_cons, List.length_cons, List.length_cons, List.length_cons, actions]
  change some (4 + 6 * (byte e.actions.length).toNat) = _
  rw [byte_toNat (by omega)]
  congr 1
  omega

/-- LDCU of a key that the table does not hold, while it has room. -/
theorem ldcu_inserts (a : accepted h s = true) (store : s.command.store = none) (stops : CueStops tail) (range : e.inRange = true)
    (absent : findCue s e.list e.cue = none) (room : s.cues.table.length < 256) :
    replies (.ldcu h (e.bytes ++ tail.flatten)) h 0x11 (loadAnswer tail) s (CueLoaded (insertCue e s.cues.table) h tail s) := by
  refine ldcu_applies a store stops (whole_cueBytes range) (readCue_bytes range) ?_
  rw [applyCue, show findCue (begin 0x11 h s) e.list e.cue = none from absent]
  exact if_pos room

/-- LDCU of a key that the table holds. -/
theorem ldcu_redefines (a : accepted h s = true) (store : s.command.store = none) (stops : CueStops tail) (range : e.inRange = true)
    (found : findCue s e.list e.cue = some old) :
    replies (.ldcu h (e.bytes ++ tail.flatten)) h 0x11 (loadAnswer tail) s
      (CueLoaded (s.cues.table.map fun x => if x.hasKey e.list e.cue then e else x) h tail s) := by
  refine ldcu_applies a store stops (whole_cueBytes range) (readCue_bytes range) ?_
  rw [applyCue, show findCue (begin 0x11 h s) e.list e.cue = some old from found]
  rfl

theorem ldcu_deletes (a : accepted h s = true) (store : s.command.store = none) (stops : CueStops tail) (small : list ≤ 3)
    (cues : cue ≤ 9999) : replies (.ldcu h ((byte list :: bytes2 cue ++ [0]) ++ tail.flatten)) h 0x11 (loadAnswer tail) s
      (CueLoaded (s.cues.table.filter fun x => !x.hasKey list cue) h tail s) :=
  ldcu_applies a store stops (whole_cue rfl) (readCue_delete small cues) rfl

theorem ldcu_full (a : accepted h s = true) (store : s.command.store = none) (stops : CueStops tail) (range : e.inRange = true)
    (absent : findCue s e.list e.cue = none) (full : 256 ≤ s.cues.table.length) :
    replies (.ldcu h (e.bytes ++ tail.flatten)) h 0x11 { result := .refusedFull, data := [0] } s (LoadRefused 1 0x11 5 h s) := by
  refine load_refuses (table := 1) (lockable := false) (lengthOf := cueLength) (apply := applyRead readCue applyCue) rfl
    a store nofun (entries := e.bytes :: tail) List.flatten_cons (List.forall_mem_cons.2 ⟨whole_cueBytes range, stops.whole⟩) rfl
    ((applyRead_some (readCue_bytes range) _).trans ?_) (by decide) (by decide) (loadRefused rfl)
  rw [applyCue, show findCue (begin 0x11 h s) e.list e.cue = none from absent]
  exact if_neg (not_lt.2 full)

theorem ldcu_range (a : accepted h s = true) (store : s.command.store = none) (stops : CueStops tail) (some_ : tail ≠ []) :
    replies (.ldcu h tail.flatten) h 0x11 { result := .refusedRange, data := [0] } s (LoadRefused 1 0x11 4 h s) := by
  obtain ⟨bad, rest, rfl⟩ := List.exists_cons_of_ne_nil some_
  exact load_refuses (table := 1) (lockable := false) (lengthOf := cueLength) (apply := applyRead readCue applyCue) rfl
    a store nofun rfl stops.whole rfl (applyRead_none (stops.refused bad rfl) _) (by decide) (by decide) (loadRefused rfl)

end Sys2Proof.Machine
end

section
/-! SUPPORT. LDZN (R99 to R102): a zone or a window defined or cleared, as one step that changes no alarm condition. -/

namespace Sys2Proof.Machine

variable {s t : State} {h : CommandHeader} {tail : List (List Byte)} {entry : List Byte} {z w : Nat}

/-! ## Entries read -/

/-- A zone's entry with its number, or the number's deletion (R99). -/
def zoneLoad (z : Nat) : Option ZoneDef → ZoneLoad
  | some d => .setZone z d
  | none => .deleteZone z

/-- A window's entry with its number, or the number's deletion (R101). -/
def windowLoad (w : Nat) : Option WindowDef → ZoneLoad
  | some d => .setWindow w d
  | none => .deleteWindow w

theorem readZone_deleteZone (small : z ≤ 47) (length : entry.length = 6) (first : entry.take 3 = [0, byte z, 0]) :
    readZone entry = some (.deleteZone z) := by
  match entry, length with
  | [a, b, c, d, e, f], _ =>
    obtain ⟨form, zone, side⟩ : a = 0 ∧ b = byte z ∧ c = 0 := by simpa using first
    subst zone
    simp only [readZone, byte_toNat (show z < 256 by omega), if_pos (And.intro form small), if_pos side]

theorem readZone_deleteWindow (small : w ≤ 15) (length : entry.length = 10) (first : entry.take 4 = [1, byte w, 0, 0]) :
    readZone entry = some (.deleteWindow w) := by
  match entry, length with
  | [a, b, c, d, e, f, g, i, j, k], _ =>
    obtain ⟨form, window, high, low⟩ : a = 1 ∧ b = byte w ∧ c = 0 ∧ d = 0 := by simpa using first
    subst window high low
    have zero : number2 0 0 = 0 := rfl
    have range : a = 1 ∧ w ≤ 15 ∧ 0 ≤ 600 := ⟨form, small, by decide⟩
    simp only [readZone, byte_toNat (show w < 256 by omega), zero, if_pos range, if_true]

theorem of_side {n : Nat} {side : Side} (named : Side.ofCode n = some side) : n ≤ 3 := by
  match n with
  | 0 | 1 | 2 | 3 => omega
  | n + 4 => nomatch named

/-- An entry out of range is not read (R99, R101). -/
theorem readZone_none {b : Nat → Nat} (whole : (entry.head? = some 0 ∧ entry.length = 6) ∨ (entry.head? = some 1 ∧ entry.length = 10))
    (bytes : b = fun i => (entry.getD i 0).toNat)
    (refused : (b 0 = 0 ∧ (47 < b 1 ∨ 3 < b 2 ∨
      (b 2 ≠ 0 ∧ (600 < b 3 * 256 + b 4 ∨ (b 5 ≠ 255 ∧ (47 < b 5 ∨ b 5 = b 1)))))) ∨
      (b 0 = 1 ∧ (15 < b 1 ∨ 600 < b 2 * 256 + b 3))) : readZone entry = none := by
  subst bytes
  obtain ⟨first, length⟩ | ⟨first, length⟩ := whole
  · match entry, length with
    | [form, zone, side, verifyHi, verifyLo, partner], _ =>
      have zero : form = 0 := Option.some.inj first
      have zero' := toNat_eq_zero.2 zero
      change (form.toNat = 0 ∧ (47 < zone.toNat ∨ 3 < side.toNat ∨ (side.toNat ≠ 0 ∧
        (600 < verifyHi.toNat * 256 + verifyLo.toNat ∨ (partner.toNat ≠ 255 ∧ (47 < partner.toNat ∨ partner.toNat = zone.toNat)))))) ∨
        (form.toNat = 1 ∧ _) at refused
      obtain ⟨_, refused⟩ := refused.resolve_right fun one => by omega
      rw [readZone]
      split
      · next key =>
        have some_ : side ≠ 0 := fun none_ => by
          have := toNat_eq_zero.2 none_
          omega
        rw [if_neg some_]
        split
        · rfl
        · next sd named =>
          have := of_side named
          refine if_neg fun range => ?_
          obtain ⟨verification, partners⟩ := Bool.and_eq_true _ _ ▸ range
          have : verifyHi.toNat * 256 + verifyLo.toNat ≤ 600 := of_decide_eq_true verification
          have absent : partner ≠ 0xFF := fun same => by
            have : partner.toNat = 255 := congrArg BitVec.toNat same
            omega
          dsimp only at partners
          rw [if_neg absent] at partners
          have : partner.toNat ≤ 47 ∧ partner.toNat ≠ zone.toNat := of_decide_eq_true partners
          omega
      · rfl
  · match entry, length with
    | [form, window, durationHi, durationLo, z5, z4, z3, z2, z1, z0], _ =>
      have one : form = 1 := Option.some.inj first
      have one' : form.toNat = 1 := congrArg BitVec.toNat one
      change (form.toNat = 0 ∧ _) ∨ (form.toNat = 1 ∧ (15 < window.toNat ∨ 600 < durationHi.toNat * 256 + durationLo.toNat)) at refused
      obtain ⟨_, refused⟩ := refused.resolve_left fun zero => by omega
      rw [readZone]
      refine if_neg fun range => ?_
      obtain ⟨_, small, duration⟩ := range
      rw [number2] at duration
      omega

/-! ## Changes that no alarm condition sees -/

/-- Zones in NORMAL and ISOLATED do not count in the record (R120). -/
theorem derivedAlarm_of_busy (panel : t.zones.panel = s.zones.panel)
    (busy : ∀ i zone, zone.state.loadable = false → (zoneAt t i = some zone ↔ zoneAt s i = some zone)) : derivedAlarm t = derivedAlarm s := by
  have any_same (kind : Zone → Bool) (counts : ∀ zone, kind zone = true → zone.state.loadable = false) :
      (t.zones.zones.toList.any fun zone => zone.any kind) = s.zones.zones.toList.any fun zone => zone.any kind := by
    have half {p q : State} (same : ∀ i zone, zone.state.loadable = false → zoneAt p i = some zone → zoneAt q i = some zone)
        (held : (p.zones.zones.toList.any fun zone => zone.any kind) = true) :
        (q.zones.zones.toList.any fun zone => zone.any kind) = true := by
      simp only [List.any_eq_true, Option.any_eq_true] at held ⊢
      obtain ⟨o, mem, zone, rfl, hold⟩ := held
      obtain ⟨i, at_⟩ := mem_zones.1 mem
      exact ⟨some zone, mem_zones.2 ⟨i, same i zone (counts zone hold) at_⟩, zone, rfl, hold⟩
    exact Bool.eq_iff_iff.2 ⟨half fun i zone idle => (busy i zone idle).1, half fun i zone idle => (busy i zone idle).2⟩
  have zoneIs_same (i : Nat) : zoneIs t i .confirmed = zoneIs s i .confirmed := by
    refine Bool.eq_iff_iff.2 ?_
    rw [zoneIs_iff, zoneIs_iff]
    refine exists_congr fun zone => ⟨fun is => ?_, fun is => ?_⟩
    · exact ⟨(busy i zone (by rw [is.2]; rfl)).1 is.1, is.2⟩
    · exact ⟨(busy i zone (by rw [is.2]; rfl)).2 is.1, is.2⟩
  have side (side : Side) : sideConfirmed t side = sideConfirmed s side := by
    rw [sideConfirmed, sideConfirmed, panel, any_same _ fun zone is => by rw [(of_decide_eq_true is).1]; rfl]
  have prealarm : anyZone t ZoneState.isPrealarm = anyZone s ZoneState.isPrealarm :=
    any_same _ fun zone is => by revert is; cases zone.state <;> decide
  have fault : anyZone t ZoneState.isFault = anyZone s ZoneState.isFault :=
    any_same _ fun zone is => by revert is; cases zone.state <;> decide
  have set_ : confirmedZones t = confirmedZones s := by simp only [confirmedZones, zoneIs_same, panel]
  simp only [derivedAlarm, set_, side, prealarm, fault, panel]

/-- A change that the record does not see, with every window shut in an alarm, is the whole step. -/
theorem zoneStep_unseen {origin : Byte} {change : State → State} (derived : recordDerived s = true)
    (record : derivedAlarm (change s) = derivedAlarm s) (shut : s.zones.alarm.confirmed = [] ∨ windowsShut (change s)) :
    zoneStep origin change s = change s := by
  have before := (recordDerived_iff.1 derived).1
  have closes : alarmClosure (change s) = change s := by
    obtain calm | shut := shut
    · refine alarmClosure_calm ?_
      rw [show confirmedZones (change s) = (derivedAlarm (change s)).confirmed from rfl, record, ← before, calm]
    · exact alarmClosure_shut_id shut
  rw [zoneStep_same (by rw [closes, record, before]), closes]

/-- The zone that a load leaves at its number (R99). -/
def loadedZone (s : State) (z : Nat) (load : Option ZoneDef) : Option Zone :=
  load.map fun d => match zoneAt s z with
    | some zone => { zone with defn := d }
    | none => Zone.initial s d

/-- The window that a load leaves at its number (R101). -/
def loadedWindow (load : Option WindowDef) : Window where
  defn := load
  isOpen := false
  timer := none

theorem zoneLoadChange_zone (z : Nat) (load : Option ZoneDef) (s : State) :
    zoneLoadChange (zoneLoad z load) s = setZone z (loadedZone s z load) s := by
  cases load with
  | none => rfl
  | some d =>
    rw [zoneLoad, zoneLoadChange, loadedZone]
    cases zoneAt s z with
    | none => rfl
    | some zone => rfl

theorem zoneLoadChange_window (w : Nat) (load : Option WindowDef) (s : State) :
    zoneLoadChange (windowLoad w load) s = setWindow w (loadedWindow load) s := by
  cases load <;> rfl

theorem applyZone_zone {load : Option ZoneDef} (loadable : ∀ zone, zoneAt s z = some zone → zone.state = .normal ∨ zone.state = .isolated)
    (derived : recordDerived s = true) (closed : windowsClosedInAlarm s = true) :
    applyZone (zoneLoad z load) s = (.done, setZone z (loadedZone s z load) s) := by
  have idle : ∀ zone, zoneAt s z = some zone → zone.state.loadable = true := fun zone at_ => by
    obtain state | state := loadable zone at_
    · rw [state]
      rfl
    · rw [state]
      rfl
  have idle' : ∀ zone, loadedZone s z load = some zone → zone.state.loadable = true := fun zone loaded => by
    obtain ⟨d, _, rfl⟩ := Option.map_eq_some_iff.1 loaded
    cases at_ : zoneAt s z with
    | none => rfl
    | some zone => exact idle zone at_
  have result : zoneLoadResult (zoneLoad z load) s = .done := by
    cases load
    all_goals
      simp only [zoneLoad, zoneLoadResult]
      cases at_ : zoneAt s z with
      | none => rfl
      | some zone => exact if_pos (idle zone at_)
  have record : derivedAlarm (zoneLoadChange (zoneLoad z load) s) = derivedAlarm s := by
    rw [zoneLoadChange_zone]
    refine derivedAlarm_of_busy rfl fun i zone busy => ?_
    rw [zoneAt_setZone]
    split
    · next same =>
      obtain ⟨rfl, _⟩ := same
      refine ⟨fun at_ => absurd (idle' zone at_) (by rw [busy]; decide), fun at_ => absurd (idle zone at_) (by rw [busy]; decide)⟩
    · rfl
  rw [applyZone, if_pos result, zoneStep_unseen derived record, zoneLoadChange_zone]
  rw [zoneLoadChange_zone]
  exact (windowsClosedInAlarm_iff.1 closed).1

theorem applyZone_window {load : Option WindowDef} (shut : windowOpen s w = false) (derived : recordDerived s = true)
    (closed : windowsClosedInAlarm s = true) : applyZone (windowLoad w load) s = (.done, setWindow w (loadedWindow load) s) := by
  have result : zoneLoadResult (windowLoad w load) s = .done := by
    cases load
    all_goals
      simp only [windowLoad, zoneLoadResult]
      rw [if_neg (by simp [shut])]
  rw [applyZone, if_pos result, zoneStep_unseen derived ?_ ?_, zoneLoadChange_window]
  · rw [zoneLoadChange_window]
    exact derivedAlarm_congr rfl rfl
  · rw [zoneLoadChange_window]
    refine (windowsClosedInAlarm_iff.1 closed).1.imp_right fun shut i window at_ => ?_
    rw [windows_setWindow] at at_
    split at at_
    · cases at_
      rfl
    · exact shut i window at_

end Sys2Proof.Machine
end

section
/-! SUPPORT. The loads of LDZN (R99, R101), and the obligation O44. -/

namespace Sys2Proof.Machine

variable {s t u : State} {h : CommandHeader} {tail : List (List Byte)} {entry : List Byte} {z w : Nat}

/-- The entries behind the first of an LDZN: whole, the first of them out of range. -/
structure ZoneStops (tail : List (List Byte)) : Prop where
  whole : ∀ e ∈ tail, Whole zoneLength e
  refused : ∀ bad, tail.head? = some bad → readZone bad = none

/-- What an applied LDZN entry leaves: the zones, and the TABLE entry. -/
structure ZonesLoaded (zones : ZoneMonitor) (h : CommandHeader) (tail : List (List Byte)) (s u : State) : Prop where
  same : sameBut ([.attention, .report] ++ [.zones]) (begin 0x12 h s) u = true
  zones : u.zones = zones
  report : roomFor 1 s = true → u.phase.report = s.phase.report ++ [entryNow s .table [2, 0, if tail = [] then 0 else 2, 1]]

theorem ldzn_applies {load : ZoneLoad} {change : ZoneMonitor → ZoneMonitor} (takes : PolicyTaken h s) (stops : ZoneStops tail)
    (whole : Whole zoneLength entry) (reads : readZone entry = some load)
    (applies : applyZone load (begin 0x12 h s) = (.done, (begin 0x12 h s).onZones change)) :
    replies (.ldzn h (entry ++ tail.flatten)) h 0x12 (loadAnswer tail) s (ZonesLoaded (change s.zones) h tail s) := by
  refine load_applies (table := 2) (lockable := true) (lengthOf := zoneLength) (apply := applyRead readZone applyZone) rfl
    takes.accepted takes.store (fun _ => takes.unlocked) whole stops.whole ((applyRead_some reads _).trans applies)
    (fun bad first t => applyRead_none (stops.refused bad first) t) ?_
  have loaded := entryLoaded (table := 2) (code := 0x12) (h := h) (tail := tail) (s := s) (changed := [.zones])
    (t := (begin 0x12 h s).onZones change) (sameBut_mono (onZones_frame _ _) (by decide)) rfl rfl
  exact ⟨loaded.same, loaded.zones, loaded.report⟩

theorem ldzn_refuses {load : ZoneLoad} (takes : PolicyTaken h s) (stops : ZoneStops tail) (whole : Whole zoneLength entry)
    (reads : readZone entry = some load) (refused : zoneLoadResult load s = .refusedState) :
    replies (.ldzn h (entry ++ tail.flatten)) h 0x12 { result := .refusedState, data := [0] } s (LoadRefused 2 0x12 3 h s) := by
  have refused' : zoneLoadResult load (begin 0x12 h s) = .refusedState := refused
  refine load_refuses (table := 2) (lockable := true) (lengthOf := zoneLength) (apply := applyRead readZone applyZone) rfl
    takes.accepted takes.store (fun _ => takes.unlocked) (entries := entry :: tail) List.flatten_cons
    (List.forall_mem_cons.2 ⟨whole, stops.whole⟩) rfl ((applyRead_some reads _).trans ?_) (by decide) (by decide) (loadRefused rfl)
  rw [applyZone, refused', if_neg (by decide)]

theorem ldzn_range (takes : PolicyTaken h s) (stops : ZoneStops tail) (some_ : tail ≠ []) :
    replies (.ldzn h tail.flatten) h 0x12 { result := .refusedRange, data := [0] } s (LoadRefused 2 0x12 4 h s) := by
  obtain ⟨bad, rest, rfl⟩ := List.exists_cons_of_ne_nil some_
  exact load_refuses (table := 2) (lockable := true) (lengthOf := zoneLength) (apply := applyRead readZone applyZone) rfl
    takes.accepted takes.store (fun _ => takes.unlocked) rfl stops.whole rfl (applyRead_none (stops.refused bad rfl) _)
    (by decide) (by decide) (loadRefused rfl)

theorem zoneLoadResult_busy {zone : Zone} {load : Option ZoneDef} (at_ : zoneAt s z = some zone) (normal : zone.state ≠ .normal)
    (isolated : zone.state ≠ .isolated) : zoneLoadResult (zoneLoad z load) s = .refusedState := by
  have busy : ¬ zone.state.loadable = true := fun loadable => by
    revert loadable normal isolated
    cases zone.state <;> decide
  cases load
  all_goals
    simp only [zoneLoad, zoneLoadResult, at_]
    rw [if_neg busy]

theorem zoneLoadResult_open {load : Option WindowDef} (isOpen : windowOpen s w = true) :
    zoneLoadResult (windowLoad w load) s = .refusedState := by
  cases load
  all_goals
    simp only [windowLoad, zoneLoadResult]
    rw [if_pos isOpen]

/-! ## The obligation -/

theorem policyGroups {u : State} {changed : Nat → Prop} (groups : GroupsTaken changed s u) :
    u.lights.refreshTimer = s.lights.refreshTimer ∧
    ∀ g group, s.lights.groups[g]? = some group →
      ((changed g ∧ TakenBack u g group) → isRaised .consoleSilent u = true ∧
        u.lights.groups[g]? = some { level := takenLevel u g, owner := .part, fade := none, stepTimer := none }) ∧
      (¬ (changed g ∧ TakenBack u g group) → u.lights.groups[g]? = some group) :=
  ⟨groups.timer, fun g group found => ⟨groups.taken g group found, groups.kept g group found⟩⟩

/-- A reply is told more of. -/
theorem replies_imp {c : Instr} {code : Byte} {answer : Answer} {holds others : State → Prop}
    (replied_ : replies c h code answer s holds) (more : ∀ u, holds u → others u) : replies c h code answer s others := by
  obtain ⟨u, next_, held⟩ := replied_
  exact ⟨u, next_, more u held⟩

/-- Settles O44: one entry of each table, applied or refused, and what stands behind it. -/
theorem policyCueAndZoneLoadsDefine : Obligations.PolicyCueAndZoneLoadsDefine := by
  unfold Obligations.PolicyCueAndZoneLoadsDefine
  intro applies refuses stops policyEntry policyRefused cueEntry cueRefused zoneEntry zoneRefused
  have refuses_of : ∀ {c h code table result reason s}, replies c h code { result := result, data := [0] } s (LoadRefused table code reason h s) →
      refuses c h code table result reason s := fun replied_ => replies_imp replied_ fun _ loaded => ⟨loaded.same, loaded.report⟩
  refine ⟨fun h s tail a store phase stop => ?_, fun h s tail a store stop => ?_, fun h s tail a store phase stop => ?_⟩
  · have takes : PolicyTaken h s := ⟨a, store, unlocked phase⟩
    have stops_ : PolicyStops tail := ⟨stop.1, fun bad first =>
      readPolicy_none (stop.1 bad (List.mem_of_mem_head? first)) rfl (stop.2 bad first)⟩
    refine ⟨fun d range absent room => ?_, fun d old range found => ?_, fun segment channel unused small channels length => ?_,
      fun d range absent full => refuses_of (ldpo_full takes stops_ range absent full),
      fun some_ => refuses_of (ldpo_range takes stops_ some_)⟩
    · refine replies_imp (ldpo_inserts takes stops_ range absent room) fun u loaded => ⟨loaded.same, ⟨?_, ?_, ?_, ?_⟩, loaded.report⟩
      · rw [findPolicy, loaded.policy]
        exact find_insertPolicy_self (hasKey_self d) absent
      · intro segment channel other
        rw [findPolicy, loaded.policy]
        exact find_insertPolicy (hasKey_other other)
      · rw [loaded.policy, length_insertPolicy]
      · exact policyGroups loaded.groups
    · refine replies_imp (ldpo_redefines takes stops_ range found) fun u loaded => ⟨loaded.same, ⟨loaded.policy, ?_, ?_⟩, loaded.report⟩
      · rw [findPolicy, loaded.policy]
        exact find_redefined found
      · exact policyGroups loaded.groups
    · cases found : findPolicy s segment channel with
      | none =>
        refine replies_imp (ldpo_deletes_none takes stops_ small channels length found) fun u loaded =>
          ⟨loaded.same, ⟨?_, ?_, loaded.lights⟩, loaded.report⟩
        · rw [loaded.lights, filter_undefined found]
          rfl
        · rw [findPolicy, loaded.lights]
          exact found
      | some old =>
        refine replies_imp (ldpo_deletes takes stops_ small channels length found) fun u loaded =>
          ⟨loaded.same, ⟨loaded.policy, ?_, policyGroups loaded.groups⟩, loaded.report⟩
        rw [findPolicy, loaded.policy]
        exact find_deleted _
  · have stops_ : CueStops tail := ⟨fun e mem => whole_cue (stop.1 e mem), fun bad first =>
      readCue_none (stop.1 bad (List.mem_of_mem_head? first)) rfl (stop.2 bad first)⟩
    refine ⟨fun e range absent room => ?_, fun e old range found => ?_, fun list cue small cues => ?_,
      fun e range absent full => refuses_of (ldcu_full a store stops_ range absent full),
      fun some_ => refuses_of (ldcu_range a store stops_ some_)⟩
    · refine replies_imp (ldcu_inserts a store stops_ range absent room) fun u loaded => ⟨loaded.same, ⟨?_, ?_, ?_, ?_⟩, loaded.report⟩
      · obtain ⟨front, back, joined, inserted⟩ := insertCue_eq e s.cues.table
        rw [findCue, loaded.cues, inserted]
        rw [findCue, joined] at absent
        exact find_between_self (cueKey_self e) absent
      · intro list cue other
        obtain ⟨front, back, joined, inserted⟩ := insertCue_eq e s.cues.table
        rw [findCue, findCue, loaded.cues, inserted, joined]
        exact find_between_other (decide_eq_false fun same => other ⟨same.1.symm, same.2.symm⟩)
      · obtain ⟨front, back, joined, inserted⟩ := insertCue_eq e s.cues.table
        rw [loaded.cues, inserted, joined, List.length_append, List.length_append, List.length_cons]
        rfl
      · rw [loaded.cues]
    · refine replies_imp (ldcu_redefines a store stops_ range found) fun u loaded => ⟨loaded.same, ⟨?_, ?_⟩, loaded.report⟩
      · rw [findCue, loaded.cues]
        exact find_redefinedCue found
      · rw [loaded.cues]
        simp only [CueEntry.hasKey, decide_eq_true_eq]
    · refine replies_imp (ldcu_deletes a store stops_ small cues) fun u loaded => ⟨loaded.same, ⟨?_, loaded.cues⟩, loaded.report⟩
      rw [findCue, loaded.cues]
      exact find_deletedCue _
  · have takes : PolicyTaken h s := ⟨a, store, unlocked phase⟩
    have stops_ : ZoneStops tail := ⟨fun e mem => whole_zone (stop.1 e mem), fun bad first =>
      readZone_none (stop.1 bad (List.mem_of_mem_head? first)) rfl (stop.2 bad first)⟩
    refine ⟨fun some_ => refuses_of (ldzn_range takes stops_ some_), fun z entry load small form => ?_, fun w entry load small form => ?_⟩
    · have reads : Whole zoneLength entry ∧ readZone entry = some (zoneLoad z load) := by
        cases load with
        | some d =>
          obtain ⟨range, written⟩ := form
          rw [show entry = _ from written]
          exact ⟨whole_zone (.inl ⟨rfl, rfl⟩), readZone_zone small range⟩
        | none =>
          obtain ⟨length, first⟩ := form
          have head : entry.head? = some 0 := (List.head?_take (l := entry) (i := 3)).symm.trans (congrArg List.head? first)
          exact ⟨whole_zone (.inl ⟨head, length⟩), readZone_deleteZone small length first⟩
      obtain ⟨whole, reads⟩ := reads
      refine ⟨fun zone at_ normal isolated => refuses_of (ldzn_refuses takes stops_ whole reads (zoneLoadResult_busy at_ normal isolated)),
        fun loadable derived closed => ?_⟩
      refine replies_imp (ldzn_applies takes stops_ whole reads (applyZone_zone (s := begin 0x12 h s) loadable derived closed))
        fun u loaded => ⟨loaded.same, ?_, loaded.report⟩
      exact loaded.zones.trans rfl
    · have reads : Whole zoneLength entry ∧ readZone entry = some (windowLoad w load) := by
        cases load with
        | some d =>
          obtain ⟨range, written⟩ := form
          rw [show entry = _ from written]
          exact ⟨whole_zone (.inr ⟨rfl, rfl⟩), readZone_window small range⟩
        | none =>
          obtain ⟨length, first⟩ := form
          have head : entry.head? = some 1 := (List.head?_take (l := entry) (i := 4)).symm.trans (congrArg List.head? first)
          exact ⟨whole_zone (.inr ⟨head, length⟩), readZone_deleteWindow small length first⟩
      obtain ⟨whole, reads⟩ := reads
      refine ⟨fun isOpen => refuses_of (ldzn_refuses takes stops_ whole reads (zoneLoadResult_open isOpen)),
        fun shut derived closed => ?_⟩
      refine replies_imp (ldzn_applies takes stops_ whole reads (applyZone_window (s := begin 0x12 h s) shut derived closed))
        fun u loaded => ⟨loaded.same, ?_, loaded.report⟩
      exact loaded.zones.trans rfl

end Sys2Proof.Machine
end

section
/-! SUPPORT. The profile's fields (R214): what a load puts into each, and what it leaves. -/

namespace Sys2Proof.Machine

variable {s t : State} {h : CommandHeader} {p q : Profile} {code value held low high : Nat} {clamped : Bool}

/-- A field's entry puts this value into the profile and leaves every other field. -/
structure FieldLoads (p : Profile) (code value held : Nat) (clamped : Bool) (q : Profile) : Prop where
  load : p.load code value = some { profile := q, clamped := clamped }
  field : q.read code = held
  others : ∀ other ∈ profileCodes, other ≠ code → q.read other = p.read other

theorem fieldLoads (load : p.load code value = some { profile := q, clamped := clamped }) (listed : code ∈ profileCodes)
    (reads : profileCodes.map q.read = profileCodes.map fun c => if c = code then held else p.read c) : FieldLoads p code value held clamped q where
  load := load
  field := by rw [List.map_inj_left.1 reads code listed, if_pos rfl]
  others other mem apart := by rw [List.map_inj_left.1 reads other mem, if_neg apart]

theorem clamp_ne (ends : low ≤ high) : decide (clamp low high value ≠ value) = decide (value < low ∨ high < value) := by
  refine decide_eq_decide.2 ?_
  rw [clamp]
  omega

/-- A field that is clamped into its range. -/
theorem fieldLoads_clamped {put : Nat → Profile} (load : p.load code value = clampedField low high value put) (ends : low ≤ high)
    (listed : code ∈ profileCodes)
    (reads : ∀ v, profileCodes.map (put v).read = profileCodes.map fun c => if c = code then v else p.read c) :
    ∃ q, FieldLoads p code value (max low (min high value)) (decide (value < low ∨ high < value)) q := by
  rw [← clamp_ne ends]
  exact ⟨put (clamp low high value), fieldLoads load listed (reads _)⟩

/-- The fields beside the line inputs' whose values are clamped, with their ranges. -/
def plainRanges : List (Nat × Nat × Nat) :=
  [(0x01, 1, 126), (0x02, 0, 4095), (0x03, 300, 6000), (0x04, 100, 2000), (0x05, 200, 5000), (0x06, 1, 30), (0x07, 0, 3600),
    (0x40, 0, 126), (0x42, 0, 255), (0x43, 0, 255), (0x44, 5000, 60000), (0x45, 0, 5000), (0x46, 1, 256), (0x47, 1, 1024),
    (0x48, 1, 8), (0x49, 50, 2000), (0x4A, 200, 5000), (0x4B, 100, 5000), (0x4C, 10, 300), (0x4D, 0, 30), (0x4E, 0, 65535),
    (0x50, 1, 60), (0x62, 0, 60), (0x63, 0, 60), (0x66, 0, 60), (0x67, 10, 3600)]

theorem plainRanges_load (p : Profile) (value : Nat) : ∀ row ∈ plainRanges,
    ∃ q, FieldLoads p row.1 value (max row.2.1 (min row.2.2 value)) (decide (value < row.2.1 ∨ row.2.2 < value)) q := by
  simp only [plainRanges, List.forall_mem_cons]
  refine ⟨fieldLoads_clamped (put := fun v => { p with controller := v }) rfl (by decide) (by decide) fun _ => rfl,
    fieldLoads_clamped (put := fun v => { p with divisor := v }) rfl (by decide) (by decide) fun _ => rfl,
    fieldLoads_clamped (put := fun v => { p with ringTimeout := v }) rfl (by decide) (by decide) fun _ => rfl,
    fieldLoads_clamped (put := fun v => { p with noticeInterval := v }) rfl (by decide) (by decide) fun _ => rfl,
    fieldLoads_clamped (put := fun v => { p with refreshLimit := v }) rfl (by decide) (by decide) fun _ => rfl,
    fieldLoads_clamped (put := fun v => { p with zoneReportLimit := v }) rfl (by decide) (by decide) fun _ => rfl,
    fieldLoads_clamped (put := fun v => { p with intervalLength := v }) rfl (by decide) (by decide) fun _ => rfl,
    fieldLoads_clamped (put := fun v => { p with driveNode := v }) rfl (by decide) (by decide) fun _ => rfl,
    fieldLoads_clamped (put := fun v => { p with floorTolerance := v }) rfl (by decide) (by decide) fun _ => rfl,
    fieldLoads_clamped (put := fun v => { p with topTolerance := v }) rfl (by decide) (by decide) fun _ => rfl,
    fieldLoads_clamped (put := fun v => { p with descentLimit := v }) rfl (by decide) (by decide) fun _ => rfl,
    fieldLoads_clamped (put := fun v => { p with startGrace := v }) rfl (by decide) (by decide) fun _ => rfl,
    fieldLoads_clamped (put := fun v => { p with filterWeight := v }) rfl (by decide) (by decide) fun _ => rfl,
    fieldLoads_clamped (put := fun v => { p with minSpeed := v }) rfl (by decide) (by decide) fun _ => rfl,
    fieldLoads_clamped (put := fun v => { p with latePersistence := v }) rfl (by decide) (by decide) fun _ => rfl,
    fieldLoads_clamped (put := fun v => { p with positionStale := v }) rfl (by decide) (by decide) fun _ => rfl,
    fieldLoads_clamped (put := fun v => { p with emergencyStale := v }) rfl (by decide) (by decide) fun _ => rfl,
    fieldLoads_clamped (put := fun v => { p with deadTime := v }) rfl (by decide) (by decide) fun _ => rfl,
    fieldLoads_clamped (put := fun v => { p with raiseLimit := v }) rfl (by decide) (by decide) fun _ => rfl,
    fieldLoads_clamped (put := fun v => { p with demoDwell := v }) rfl (by decide) (by decide) fun _ => rfl,
    fieldLoads_clamped (put := fun v => { p with houseMinimum := v }) rfl (by decide) (by decide) fun _ => rfl,
    fieldLoads_clamped (put := fun v => { p with flowWait := v }) rfl (by decide) (by decide) fun _ => rfl,
    fieldLoads_clamped (put := fun v => { p with evacMessage := v }) rfl (by decide) (by decide) fun _ => rfl,
    fieldLoads_clamped (put := fun v => { p with evacGap := v }) rfl (by decide) (by decide) fun _ => rfl,
    fieldLoads_clamped (put := fun v => { p with staffMessage := v }) rfl (by decide) (by decide) fun _ => rfl,
    fieldLoads_clamped (put := fun v => { p with staffLifetime := v }) rfl (by decide) (by decide) fun _ => rfl, nofun⟩

/-- The travel length, but for 0 (R214). -/
theorem travel_load (p : Profile) (some_ : value ≠ 0) :
    ∃ q, FieldLoads p 0x41 value (max 1000 (min 65535 value)) (decide (value < 1000 ∨ 65535 < value)) q :=
  fieldLoads_clamped (put := fun v => { p with travel := v }) (if_neg some_) (by decide) (by decide) fun _ => rfl

/-! ### The contact lines' fields -/

theorem reads_persistence (p : Profile) (w : Vector Nat 8) : profileCodes.map ({ p with persistence := w } : Profile).read =
    profileCodes.map fun c => if 0x10 ≤ c ∧ c ≤ 0x17 then (w[c - 0x10]?).getD 0 else p.read c := rfl

theorem reads_edges (p : Profile) (w : Vector EdgeSelection 8) : profileCodes.map ({ p with edges := w } : Profile).read =
    profileCodes.map fun c => if 0x18 ≤ c ∧ c ≤ 0x1F then ((w[c - 0x18]?).map EdgeSelection.code).getD 0 else p.read c := rfl

/-- The codes of the lines' persistences. -/
def persistenceCodes : List Nat := [0x10, 0x11, 0x12, 0x13, 0x14, 0x15, 0x16, 0x17]

/-- The codes of the lines' edge selections. -/
def edgeCodes : List Nat := [0x18, 0x19, 0x1A, 0x1B, 0x1C, 0x1D, 0x1E, 0x1F]

theorem persistence_loaded (p : Profile) (value : Nat) : ∀ code ∈ persistenceCodes, p.load code value =
    clampedField 1 15 value fun v => { p with persistence := p.persistence.setIfInBounds (code - 0x10) v } := by
  simp only [persistenceCodes, List.forall_mem_cons]
  exact ⟨rfl, rfl, rfl, rfl, rfl, rfl, rfl, rfl, nofun⟩

theorem edges_loaded (p : Profile) (value : Nat) : ∀ code ∈ edgeCodes, p.load code value =
    some { profile := { p with edges := p.edges.setIfInBounds (code - 0x18) (EdgeSelection.ofCode value) }, clamped := decide (2 < value) } := by
  simp only [edgeCodes, List.forall_mem_cons]
  exact ⟨rfl, rfl, rfl, rfl, rfl, rfl, rfl, rfl, nofun⟩

theorem persistenceCodes_range : ∀ code ∈ persistenceCodes, code ∈ profileCodes ∧ 0x10 ≤ code ∧ code ≤ 0x17 := by decide

theorem edgeCodes_range : ∀ code ∈ edgeCodes, code ∈ profileCodes ∧ 0x18 ≤ code ∧ code ≤ 0x1F := by decide

theorem persistence_load (p : Profile) (value : Nat) : ∀ code ∈ persistenceCodes,
    ∃ q, FieldLoads p code value (max 1 (min 15 value)) (decide (value < 1 ∨ 15 < value)) q := by
  intro code mem
  obtain ⟨listed, from_, upto⟩ := persistenceCodes_range code mem
  refine fieldLoads_clamped (persistence_loaded p value code mem) (by decide) listed fun v => (reads_persistence p _).trans ?_
  refine List.map_congr_left fun other _ => ?_
  by_cases line : 0x10 ≤ other ∧ other ≤ 0x17
  · have inside : other - 0x10 < 8 := by omega
    rw [if_pos line]
    by_cases same : other = code
    · rw [if_pos same, same]
      simp [show code - 0x10 < 8 by omega]
    · have apart : ¬ code - 0x10 = other - 0x10 := by omega
      have kept : p.read other = (p.persistence[other - 0x10]?).getD 0 := by
        have reads := List.map_inj_left.1 (reads_persistence p p.persistence) other ‹_›
        rw [if_pos line] at reads
        exact reads
      rw [if_neg same, kept, Vector.getElem?_setIfInBounds, if_neg apart]
  · rw [if_neg line, if_neg (by omega)]

theorem edge_code (value : Nat) : (EdgeSelection.ofCode value).code = if value ≤ 2 then value else 2 := by
  match value with
  | 0 | 1 | 2 => rfl
  | n + 3 => exact (if_neg (by omega)).symm

theorem edges_load (p : Profile) (value : Nat) : ∀ code ∈ edgeCodes,
    ∃ q, FieldLoads p code value (if value ≤ 2 then value else 2) (decide (2 < value)) q := by
  intro code mem
  obtain ⟨listed, from_, upto⟩ := edgeCodes_range code mem
  refine ⟨_, fieldLoads (edges_loaded p value code mem) listed ((reads_edges p _).trans ?_)⟩
  refine List.map_congr_left fun other _ => ?_
  by_cases line : 0x18 ≤ other ∧ other ≤ 0x1F
  · have inside : other - 0x18 < 8 := by omega
    rw [if_pos line]
    by_cases same : other = code
    · rw [if_pos same, same, ← edge_code]
      simp [show code - 0x18 < 8 by omega]
    · have apart : ¬ code - 0x18 = other - 0x18 := by omega
      have kept : p.read other = ((p.edges[other - 0x18]?).map EdgeSelection.code).getD 0 := by
        have reads := List.map_inj_left.1 (reads_edges p p.edges) other ‹_›
        rw [if_pos line] at reads
        exact reads
      rw [if_neg same, kept, Vector.getElem?_setIfInBounds, if_neg apart]
  · rw [if_neg line, if_neg (by omega)]

/-! ### The other fields -/

theorem option_load {top : Nat} {put : Option Nat → Profile} (load : p.load code value = optionField top value put)
    (listed : code ∈ profileCodes)
    (reads : ∀ v, profileCodes.map (put v).read = profileCodes.map fun c => if c = code then v.getD 255 else p.read c) :
    ∃ q, FieldLoads p code value (if value ≤ top then value else 255) (decide (top < value ∧ value ≠ 255)) q := by
  by_cases fits : value ≤ top
  · rw [if_pos fits, decide_eq_false (by omega)]
    exact ⟨put (some value), fieldLoads (load.trans (if_pos fits)) listed (reads _)⟩
  · have far : decide (top < value ∧ value ≠ 255) = decide (value ≠ 0xFF) := decide_eq_decide.2 (by omega)
    rw [if_neg fits, far]
    exact ⟨put none, fieldLoads (load.trans (if_neg fits)) listed (reads _)⟩

theorem options_load (p : Profile) (value : Nat) : ∀ row ∈ [(0x60, 7), (0x61, 63), (0x64, 7), (0x65, 63)],
    ∃ q, FieldLoads p row.1 value (if value ≤ row.2 then value else 255) (decide (row.2 < value ∧ value ≠ 255)) q := by
  simp only [List.forall_mem_cons]
  exact ⟨option_load (put := fun v => { p with evacPattern := v }) rfl (by decide) fun _ => rfl,
    option_load (put := fun v => { p with evacSlot := v }) rfl (by decide) fun _ => rfl,
    option_load (put := fun v => { p with staffPattern := v }) rfl (by decide) fun _ => rfl,
    option_load (put := fun v => { p with staffSlot := v }) rfl (by decide) fun _ => rfl, nofun⟩

theorem demoGroups_load (p : Profile) (value : Nat) : ∃ q, FieldLoads p 0x4F value (value % 256) false q := by
  have held : (BitVec.ofNat 8 value).toNat = value % 256 := BitVec.toNat_ofNat value 8
  rw [← held]
  exact ⟨{ p with demoGroups := BitVec.ofNat 8 value }, fieldLoads rfl (by decide) rfl⟩

/-- The travel length 0 and an unknown field are refused (R214). -/
theorem travel_refused (p : Profile) : p.load 0x41 0 = none := rfl

theorem persistence_listed (line : 0x10 ≤ code ∧ code ≤ 0x17) : code ∈ profileCodes := by
  obtain ⟨from_, upto⟩ := line
  interval_cases code
  all_goals decide

theorem edge_listed (line : 0x18 ≤ code ∧ code ≤ 0x1F) : code ∈ profileCodes := by
  obtain ⟨from_, upto⟩ := line
  interval_cases code
  all_goals decide

theorem unknown_refused (p : Profile) (value : Nat) (unlisted : code ∉ profileCodes) : p.load code value = none := by
  unfold Profile.load
  split
  case h_33 =>
    split
    · next line => exact absurd (persistence_listed line) unlisted
    · split
      · next line => exact absurd (edge_listed line) unlisted
      · rfl
  all_goals exact absurd (by decide) unlisted

end Sys2Proof.Machine
end

section
/-! SUPPORT. LDPF and CLTB (R213, R214), and the obligation O45. -/

namespace Sys2Proof.Machine

variable {s t u : State} {h : CommandHeader} {q : Profile} {code value held : Nat} {clamped : Bool}

/-! ## LDPF -/

theorem markFull_loop (s : State) : (markFull s).loop = s.loop := by
  unfold markFull
  split
  · rfl
  · rfl

theorem report_loop (kind : ReportKind) (data : List Byte) (s : State) : (report kind data s).loop = s.loop := by
  unfold report appendEntry
  split
  · rfl
  · split
    · exact markFull_loop _
    · exact markFull_loop _

theorem report_managing (kind : ReportKind) (data : List Byte) (s : State) :
    (report kind data s).command.managing = s.command.managing := sameBut_command (report_frame kind data s) (by decide)

theorem report_profile (kind : ReportKind) (data : List Byte) (s : State) : (report kind data s).command.profile = s.command.profile :=
  profile_of_sameBut (report_frame kind data s) (by decide)

theorem setProfile_frame (q : Profile) (s : State) : sameBut [.sender, .receiver, .command] s (setProfile q s) = true := by
  simp [sameBut, allParts, samePart, setProfile, takeDivisor]

/-- LDPF of one field's entry. -/
theorem ldpf_loads (takes : PolicyTaken h s) (small : code < 256) (word : value ≤ 65535)
    (loads : FieldLoads s.command.profile code value held clamped q) :
    replies (.ldpf h (byte code :: bytes2 value)) h 0x16 { result := if clamped then .doneClamped else .done, data := [1] } s
      fun u => u = reportTable 6 .load (if clamped then .doneClamped else .done) 1 (setProfile q (begin 0x16 h s)) := by
  have applies : applyProfile (byte code :: bytes2 value) (begin 0x16 h s) =
      (if clamped then .doneClamped else .done, setProfile q (begin 0x16 h s)) := by
    rw [bytes2, applyProfile, byte_toNat small, number2_bytes (by omega), show (begin 0x16 h s).command.profile = s.command.profile from rfl,
      loads.load]
  have answer : LoadOutcome.answer { count := 1, clamped := clamped, refusal := none } =
      { result := if clamped then .doneClamped else .done, data := [1] } := rfl
  rw [← answer]
  refine load_replies (table := 6) (lockable := true) (lengthOf := fixedLength 3) (apply := applyProfile)
    (entries := [byte code :: bytes2 value]) (t := setProfile q (begin 0x16 h s)) rfl takes.accepted takes.store
    (fun _ => takes.unlocked) (List.forall_mem_singleton.2 (whole_fixed (by decide) rfl)) (List.cons_ne_nil _ _)
    (List.append_nil _) ?_ rfl
  rw [loadFrom, applies]
  cases clamped <;> rfl

theorem ldpf_refuses (takes : PolicyTaken h s) (small : code < 256) (word : value ≤ 65535)
    (refused : s.command.profile.load code value = none) :
    replies (.ldpf h (byte code :: bytes2 value)) h 0x16 { result := .refusedRange, data := [0] } s (LoadRefused 6 0x16 4 h s) := by
  refine load_refuses (table := 6) (lockable := true) (lengthOf := fixedLength 3) (apply := applyProfile)
    (entries := [byte code :: bytes2 value]) rfl takes.accepted takes.store (fun _ => takes.unlocked) (List.append_nil _)
    (List.forall_mem_singleton.2 (whole_fixed (by decide) rfl)) rfl ?_ (by decide) (by decide) (loadRefused rfl)
  rw [bytes2, applyProfile, byte_toNat small, number2_bytes (by omega), show (begin 0x16 h s).command.profile = s.command.profile from rfl,
    refused]

/-- What an LDPF leaves that puts this value into its field. -/
structure ProfileLoaded (code held : Nat) (clamped : Bool) (h : CommandHeader) (s u : State) : Prop where
  same : sameBut [.sender, .receiver, .command, .attention, .report] (begin 0x16 h s) u = true
  field : u.command.profile.read code = held
  others : ∀ other ∈ profileCodes, other ≠ code → u.command.profile.read other = s.command.profile.read other
  managing : u.command.managing = { (begin 0x16 h s).command.managing with profile := u.command.profile }
  loop : u.loop =
    { s.loop with
      inDivisor := max 5 u.command.profile.divisor
      outDivisor := if s.loop.sending.isSome then s.loop.outDivisor else max 5 u.command.profile.divisor }
  report : roomFor 1 s = true → u.phase.report = s.phase.report ++ [entryNow s .table [6, 0, if clamped then 1 else 0, 1]]

theorem profileLoaded (loads : FieldLoads s.command.profile code value held clamped q) : ProfileLoaded code held clamped h s
    (reportTable 6 .load (if clamped then .doneClamped else .done) 1 (setProfile q (begin 0x16 h s))) := by
  have profile : (reportTable 6 .load (if clamped then .doneClamped else .done) 1 (setProfile q (begin 0x16 h s))).command.profile = q :=
    report_profile _ _ _
  have frame := setProfile_frame q (begin 0x16 h s)
  refine ⟨sameBut_trans (sameBut_mono frame (by decide)) (sameBut_mono (reportTable_frame _ _ _ _ _) (by decide)),
    by rw [profile, loads.field], fun other mem apart => by rw [profile, loads.others other mem apart], ?_, ?_, fun room => ?_⟩
  · rw [profile]
    exact report_managing _ _ _
  · rw [profile]
    exact report_loop _ _ _
  · have reported := reportTable_report (table := 6) (operation := .load) (result := if clamped then .doneClamped else .done) (count := 1)
      (s := s) (t := setProfile q (begin 0x16 h s)) rfl rfl room
    rw [reported]
    cases clamped <;> rfl

/-! ## CLTB -/

theorem clearTable_beyond {n : Nat} (beyond : 6 < n) : clearTable n s = (.refusedRange, s) := by
  match n with
  | n + 7 => rfl

theorem zonesClearable_iff : zonesClearable s = true ↔
    (∀ z zone, zoneAt s z = some zone → zone.state = .normal ∨ zone.state = .isolated) ∧ ∀ w, windowOpen s w = false := by
  have loadable (zone : Zone) : zone.state.loadable = true ↔ zone.state = .normal ∨ zone.state = .isolated := by
    cases zone.state <;> decide
  simp only [zonesClearable, Bool.and_eq_true, List.all_eq_true, Option.all_eq_true, window_mem]
  refine and_congr ⟨fun all z zone at_ => ?_, fun all zone mem z at_ => ?_⟩ ⟨fun shut w => ?_, fun shut window at_ => ?_⟩
  · exact (loadable zone).1 (all _ (mem_zones.2 ⟨z, at_⟩) zone rfl)
  · rw [show zone = some z from at_] at mem
    obtain ⟨i, at_⟩ := mem_zones.1 mem
    exact (loadable z).2 (all i z at_)
  · cases isOpen : windowOpen s w with
    | false => rfl
    | true =>
      obtain ⟨window, at_, is⟩ := windowOpen_iff.1 isOpen
      have := shut window ⟨w, at_⟩
      rw [is] at this
      nomatch this
  · obtain ⟨w, at_⟩ := at_
    cases isOpen : window.isOpen with
    | false => rfl
    | true =>
      have := shut w
      rw [windowOpen_iff.2 ⟨window, at_, isOpen⟩] at this
      nomatch this

/-- What CLTB's clearing of one table keeps. -/
structure Kept (s t : State) : Prop where
  same : sameBut [.sender, .receiver, .lights, .outputs, .zones, .cues, .calls, .bells, .command] s t = true
  alarm : t.zones.alarm = s.zones.alarm
  panel : t.zones.panel = s.zones.panel
  groups : t.lights.groups = s.lights.groups
  queue : t.calls.queue = s.calls.queue
  player : t.calls.player = s.calls.player
  generators : t.bells.generators = s.bells.generators
  forward : t.loop.forward = s.loop.forward
  origin : t.loop.origin = s.loop.origin
  sending : t.loop.sending = s.loop.sending

/-- The entries of every table where one has been cleared. -/
def clearedEntries (n : Nat) (s : State) (m : Nat) : Option (List (List Byte)) :=
  if m = n then (if n = 6 then some Profile.default.bytes else some []) else tableEntries m s

theorem clearedEntries_upto {n : Nat} {t : State} (entries : (List.range 7).map (tableEntries · t) = (List.range 7).map (clearedEntries n s)) :
    ∀ m ≤ 6, tableEntries m t = clearedEntries n s m :=
  fun m few => List.map_inj_left.1 entries m (List.mem_range.2 (Nat.lt_succ_of_le few))

theorem clearTable_done {n : Nat} (few : n ≤ 6) (clearable : n = 2 → zonesClearable s = true) : ∃ t, clearTable n s = (.done, t) ∧ Kept s t ∧
    (∀ m ≤ 6, tableEntries m t = clearedEntries n s m) ∧ (n = 6 → t.command.profile = Profile.default) := by
  match n, few with
  | 0, _ => exact ⟨_, rfl, ⟨sameBut_mono (onLights_frame s _) (by decide), rfl, rfl, rfl, rfl, rfl, rfl, rfl, rfl, rfl⟩, clearedEntries_upto rfl, nofun⟩
  | 1, _ => exact ⟨_, rfl, ⟨sameBut_mono (onCues_frame s _) (by decide), rfl, rfl, rfl, rfl, rfl, rfl, rfl, rfl, rfl⟩, clearedEntries_upto rfl, nofun⟩
  | 2, _ =>
    exact ⟨_, if_pos (clearable rfl), ⟨sameBut_mono (onZones_frame s _) (by decide), rfl, rfl, rfl, rfl, rfl, rfl, rfl, rfl, rfl⟩,
      clearedEntries_upto rfl, nofun⟩
  | 3, _ => exact ⟨_, rfl, ⟨sameBut_mono (onCalls_frame s _) (by decide), rfl, rfl, rfl, rfl, rfl, rfl, rfl, rfl, rfl⟩, clearedEntries_upto rfl, nofun⟩
  | 4, _ => exact ⟨_, rfl, ⟨sameBut_mono (onBells_frame s _) (by decide), rfl, rfl, rfl, rfl, rfl, rfl, rfl, rfl, rfl⟩, clearedEntries_upto rfl, nofun⟩
  | 5, _ => exact ⟨_, rfl, ⟨sameBut_mono (onCalls_frame s _) (by decide), rfl, rfl, rfl, rfl, rfl, rfl, rfl, rfl, rfl⟩, clearedEntries_upto rfl, nofun⟩
  | 6, _ => exact ⟨_, rfl, ⟨sameBut_mono (setProfile_frame _ s) (by decide), rfl, rfl, rfl, rfl, rfl, rfl, rfl, rfl, rfl⟩, clearedEntries_upto rfl, fun _ => rfl⟩

theorem tableEntries_congr (lights : t.lights = s.lights) (cues : t.cues = s.cues) (zones : t.zones = s.zones)
    (calls : t.calls = s.calls) (bells : t.bells = s.bells) (profile : t.command.profile = s.command.profile) (n : Nat) :
    tableEntries n t = tableEntries n s := by
  unfold tableEntries zoneDefs windowDefs callDefs
  rw [lights, cues, zones, calls, bells, profile]

theorem tableEntries_report {table : Byte} {operation : TableOperation} {result : Result} {count : Nat} (n : Nat) :
    tableEntries n (reportTable table operation result count s) = tableEntries n s := by
  have frame := reportTable_frame table operation result count s
  exact tableEntries_congr (report_lights _ _ _) (sameBut_cues frame (by decide)) (sameBut_zones frame (by decide))
    (sameBut_calls frame (by decide)) (sameBut_bells frame (by decide)) (report_profile _ _ _) n

theorem failedCheck_none {checks : Checks} (a : accepted h s = true) (fits : checks.fits = true) (store : s.command.store = none)
    (lock : s.phase.phase.locked = false) : failedCheck h.source checks s = none := by
  rw [failedCheck, if_neg (by simp [source_of_accepted a]), if_neg (by simp [fits]), if_neg (by simp [store]), if_neg (by simp [lock])]

theorem cltb_replies {table : Byte} {x : Executed} {holds : State → Prop} (takes : PolicyTaken h s)
    (made : clearCommand table (begin 0x17 h s) = x) (held : holds x.state) : replies (.cltb h table) h 0x17 x.answer s holds :=
  replies_execute (c := .cltb h table) (code := 0x17) (checks := { fits := true, needsStore := true, lockable := tableLockable table })
    (body := clearCommand table) (x := x) rfl takes.accepted rfl (fun _ => takes.store) (fun _ => takes.unlocked) made held

theorem cltb_refused {table : Byte} {result : Result} (takes : PolicyTaken h s) (other : result ≠ .done)
    (refused : clearTable table.toNat (begin 0x17 h s) = (result, begin 0x17 h s)) : onlyReplies (.cltb h table) h 0x17 result s := by
  have made : clearCommand table (begin 0x17 h s) = { answer := .plain result, state := begin 0x17 h s } := by
    rw [clearCommand, refused]
    exact if_neg other
  obtain ⟨u, next_, rfl⟩ := cltb_replies (holds := (· = begin 0x17 h s)) takes made rfl
  exact next_

/-- What CLTB of a table leaves. -/
structure TableCleared (table : Byte) (h : CommandHeader) (s t u : State) : Prop where
  state : u = reportTable table .clear .done 0 t
  kept : Kept (begin 0x17 h s) t
  entries : ∀ m ≤ 6, tableEntries m t = clearedEntries table.toNat (begin 0x17 h s) m

theorem cltb_clears {table : Byte} (takes : PolicyTaken h s) (few : table.toNat ≤ 6)
    (clearable : table.toNat = 2 → zonesClearable s = true) :
    replies (.cltb h table) h 0x17 (.plain .done) s fun u => ∃ t, TableCleared table h s t u ∧
      (table.toNat = 6 → t.command.profile = Profile.default) := by
  obtain ⟨t, cleared, kept, entries, profile⟩ := clearTable_done (s := begin 0x17 h s) few clearable
  have made : clearCommand table (begin 0x17 h s) = { answer := .plain .done, state := reportTable table .clear .done 0 t } := by
    rw [clearCommand, cleared]
    rfl
  refine cltb_replies (x := { answer := .plain .done, state := reportTable table .clear .done 0 t }) takes made ?_
  exact ⟨t, ⟨rfl, kept, entries⟩, profile⟩

/-! ## The obligation -/

theorem takes_of (a : accepted h s = true) (store : s.command.store = none) (phase : s.phase.phase = .closed ∨ s.phase.phase = .preshow) :
    PolicyTaken h s := ⟨a, store, unlocked phase⟩

/-- The fields that are clamped into a range, with their ranges. -/
def fieldRanges : List (Nat × Nat × Nat) :=
  [(0x01, 1, 126), (0x02, 0, 4095), (0x03, 300, 6000), (0x04, 100, 2000), (0x05, 200, 5000), (0x06, 1, 30), (0x07, 0, 3600),
    (0x10, 1, 15), (0x11, 1, 15), (0x12, 1, 15), (0x13, 1, 15), (0x14, 1, 15), (0x15, 1, 15), (0x16, 1, 15), (0x17, 1, 15),
    (0x40, 0, 126), (0x41, 1000, 65535), (0x42, 0, 255), (0x43, 0, 255), (0x44, 5000, 60000), (0x45, 0, 5000), (0x46, 1, 256),
    (0x47, 1, 1024), (0x48, 1, 8), (0x49, 50, 2000), (0x4A, 200, 5000), (0x4B, 100, 5000), (0x4C, 10, 300), (0x4D, 0, 30),
    (0x4E, 0, 65535), (0x50, 1, 60), (0x62, 0, 60), (0x63, 0, 60), (0x66, 0, 60), (0x67, 10, 3600)]

theorem fieldRanges_cases : ∀ row ∈ fieldRanges,
    row.1 < 256 ∧ (row ∈ plainRanges ∨ row.1 ∈ persistenceCodes ∧ row.2 = (1, 15) ∨ row = (0x41, 1000, 65535)) := by decide

theorem fieldRanges_load (p : Profile) (value : Nat) {row : Nat × Nat × Nat} (mem : row ∈ fieldRanges) (some_ : ¬ (row.1 = 0x41 ∧ value = 0)) :
    ∃ q, FieldLoads p row.1 value (max row.2.1 (min row.2.2 value)) (decide (value < row.2.1 ∨ row.2.2 < value)) q := by
  obtain ⟨_, plain | ⟨line, ends⟩ | rfl⟩ := fieldRanges_cases row mem
  · exact plainRanges_load p value row plain
  · rw [ends]
    exact persistence_load p value row.1 line
  · exact travel_load p fun zero => some_ ⟨rfl, zero⟩

theorem profileCodes_named : ∀ code ∈ profileCodes, code ∈ fieldRanges.map Prod.fst ∨ code ∈ edgeCodes ∨
    code ∈ [(0x60, 7), (0x61, 63), (0x64, 7), (0x65, 63)].map Prod.fst ∨ code = 0x4F := by decide

/-- Settles O45: each field loaded, each table cleared. -/
theorem profileLoadsAndTableClears : Obligations.ProfileLoadsAndTableClears := by
  unfold Obligations.ProfileLoadsAndTableClears
  intro ranges edges options
  refine ⟨fun h s a store phase => ?_, fun h s table a store phase => ?_⟩
  · intro holds refused value word
    have takes := takes_of a store phase
    have holds_of : ∀ {code held clamped q}, code < 256 → FieldLoads s.command.profile code value held clamped q → holds code value held clamped :=
      fun small loads => replies_imp (ldpf_loads takes small word loads) fun u is => by
        rw [is]
        have loaded := profileLoaded (h := h) loads
        exact ⟨loaded.same, loaded.field, loaded.others, loaded.managing, loaded.loop, loaded.report⟩
    have refused_of : ∀ {code}, code < 256 → s.command.profile.load code value = none → refused code value :=
      fun small none_ => replies_imp (ldpf_refuses takes small word none_) fun u loaded => ⟨loaded.same, loaded.report⟩
    refine ⟨fun row mem some_ => ?_, fun code mem => ?_, fun row mem => ?_, ?_, fun zero => ?_, fun code small range edge option group => ?_⟩
    · obtain ⟨q, loads⟩ := fieldRanges_load s.command.profile value mem some_
      exact holds_of (fieldRanges_cases row mem).1 loads
    · obtain ⟨q, loads⟩ := edges_load s.command.profile value code mem
      exact holds_of ((edgeCodes_range code mem).2.2.trans_lt (by decide)) loads
    · obtain ⟨q, loads⟩ := options_load s.command.profile value row mem
      have small : ∀ row ∈ options, row.1 < 256 := by decide
      exact holds_of (small row mem) loads
    · obtain ⟨q, loads⟩ := demoGroups_load s.command.profile value
      exact holds_of (by decide) loads
    · subst zero
      exact refused_of (by decide) (travel_refused _)
    · refine refused_of small (unknown_refused _ _ fun listed => ?_)
      obtain named | named | named | named := profileCodes_named code listed
      · exact range named
      · exact edge named
      · exact option named
      · exact group named
  · intro clearable
    have takes := takes_of a store phase
    refine ⟨fun beyond => cltb_refused takes (by decide) (clearTable_beyond beyond), fun zones not => ?_, fun few clears => ?_⟩
    · subst zones
      exact cltb_refused takes (by decide) (if_neg fun is => not (zonesClearable_iff.1 is))
    · refine replies_imp (cltb_clears takes few fun zones => zonesClearable_iff.2 (clears (by bv_omega))) fun u is => ?_
      obtain ⟨t, cleared, profile⟩ := is
      rw [cleared.state]
      have kept := cleared.kept
      have frame := reportTable_frame table .clear .done 0 t
      have zones := sameBut_zones frame (by decide)
      have calls := sameBut_calls frame (by decide)
      have bells := sameBut_bells frame (by decide)
      have lights := report_lights .table [table, TableOperation.clear.code, byte Result.done.code, byte 0] t
      have loop := report_loop .table [table, TableOperation.clear.code, byte Result.done.code, byte 0] t
      have record := sameBut_report kept.same (by decide)
      have clock := sameBut_clock kept.same (by decide)
      refine ⟨fun plain => ?_, fun six => ?_, fun other upto apart => ?_, ?_, (congrArg _ zones).trans kept.alarm,
        (congrArg _ zones).trans kept.panel, (congrArg HouseLights.groups lights).trans kept.groups, (congrArg _ calls).trans kept.queue,
        (congrArg _ calls).trans kept.player, (congrArg _ bells).trans kept.generators, (congrArg LoopPort.forward loop).trans kept.forward,
        (congrArg LoopPort.origin loop).trans kept.origin, (congrArg LoopPort.sending loop).trans kept.sending, fun room => ?_⟩
      · rw [tableEntries_report, cleared.entries _ few, clearedEntries, if_pos rfl, if_neg (by omega)]
      · exact (report_profile _ _ _).trans (profile (congrArg BitVec.toNat six))
      · rw [tableEntries_report, cleared.entries other upto, clearedEntries, if_neg apart]
        rfl
      · exact sameBut_trans (sameBut_mono kept.same (by decide)) (sameBut_mono frame (by decide))
      · have reported := reportTable_report (table := table) (operation := .clear) (result := .done) (count := 0) (s := s) record clock room
        exact reported

end Sys2Proof.Machine
end

section
/-! SUPPORT. The character that completes a frame, its disposal, and what is offered to the forward queue (R8 to R13). -/

namespace Sys2Proof.Machine

variable {s t : State} {f : Frame} {hi lo : Byte} {c : Character}

/-! ## The check (R8) -/

theorem completeFrame_checked (short : f.payload.length ≤ 240) : completeFrame (f.bytes ++ [hi] ++ [lo]) s =
    if number2 hi lo = (crc16 f.bytes).toNat then dispose f (huntWith 0 s) else badFrame (hunt s) := by
  have read : assemblyLength (f.bytes ++ [hi] ++ [lo]) = f.payload.length := by
    change (byte f.payload.length).toNat = _
    exact byte_toNat (by omega)
  have listed : f.bytes ++ [hi] ++ [lo] = f.bytes ++ [hi, lo] := by rw [List.append_assoc]; rfl
  have payload : ((f.bytes ++ [hi] ++ [lo]).drop 4).take f.payload.length = f.payload := by
    rw [listed]
    change (f.payload ++ [hi, lo]).take f.payload.length = f.payload
    exact List.take_left' rfl
  have body : (f.bytes ++ [hi] ++ [lo]).take (f.payload.length + 4) = f.bytes := by
    rw [listed]
    exact List.take_left' (length_bytes f)
  have crc : assembledCrc (f.bytes ++ [hi] ++ [lo]) = number2 hi lo := by
    rw [assembledCrc, read, listed, List.drop_left' (length_bytes f)]
    change (0 * 256 + hi.toNat) * 256 + lo.toNat = hi.toNat * 256 + lo.toNat
    rw [Nat.zero_mul, Nat.zero_add]
  have frame : assembledFrame (f.bytes ++ [hi] ++ [lo]) = f := by
    rw [assembledFrame, read, payload]
    rfl
  rw [completeFrame, crc, read, body, frame]
  rfl

theorem exec_completion_checked (powered : s.powered = true) (check : s.loop.assembler = .check) (stop : c.stopBit = true) (mark : c.mark = false)
    (short : f.payload.length ≤ 240) (assembly : s.loop.assembly = f.bytes ++ [hi]) : exec (.frameCompletion c) s = .next
      (if number2 hi c.data = (crc16 f.bytes).toNat then dispose f (huntWith 0 s) else badFrame (hunt s)) := by
  rw [← completeFrame_checked short, ← receive_last check stop mark short assembly]
  exact whilePowered_of_powered powered (receiveCharacter c)

/-! ## The disposal of a frame that stays (R10) -/

section Disposal

variable (valid : f.headerValid = true) (numbered : s.numbered = true)
include valid numbered

theorem dispose_own (own : f.source = s.nodeByte) : dispose f s = ownFrameReturns s := by
  rw [dispose, if_neg (not_not.2 valid), if_pos ⟨numbered, own⟩]

theorem reachesUnit_of_header (other : f.source ≠ s.nodeByte) : reachesUnit f.source s = true := by
  obtain ⟨_, _, low, high⟩ : 1 ≤ f.dest.toNat ∧ f.dest.toNat ≤ 127 ∧ 1 ≤ f.source.toNat ∧ f.source.toNat ≤ 126 := of_decide_eq_true valid
  rw [reachesUnit, numbered, Bool.true_and]
  exact decide_eq_true ⟨low, high, other⟩

theorem dispose_command (other : f.source ≠ s.nodeByte) (command : f.kind = kindCommand) (own : f.dest = s.nodeByte) :
    dispose f s = runPayload f.source f.payload s := by
  rw [dispose, if_neg (not_not.2 valid), if_neg fun same => other same.2, if_pos ⟨numbered, command, own⟩, runPayload,
    reachesUnit_of_header valid numbered other, if_pos rfl]

end Disposal

theorem ownFrameReturns_ok (ok : s.loop.ring = .ok) : ownFrameReturns s = s.onLoop fun l =>
    { l with ringTimer := some { start := s.clock, length := s.command.profile.ringTimeout } } := by
  simp only [ownFrameReturns, ok]
  rfl

theorem curtainToldRing_ok (s : State) : curtainToldRing .ok s = s.onCurtain fun c => { c with ring := .ok } := by
  rw [curtainToldRing, if_neg (by simp)]

theorem ownFrameReturns_broken (broken : s.loop.ring = .broken) : ownFrameReturns s = (s.onLoop fun l =>
    { l with ring := .ok, k7 := true
             ringTimer := some { start := s.clock, length := s.command.profile.ringTimeout } }).onCurtain fun c => { c with ring := .ok } := by
  simp only [ownFrameReturns, broken, setRing, curtainToldRing_ok]
  rfl

/-! ## The forward queue (R13, R17) -/

theorem handToOwner_none (level : f.kind ≠ kindLevel) (cue : f.kind ≠ kindCue) (zone : f.kind ≠ kindZone) (pos : f.kind ≠ kindPos) (s : State) :
    handToOwner f s = s := by
  rw [handToOwner, if_neg level, if_neg cue, if_neg zone, if_neg fun both => pos both.1]

/-- The frame has joined the forward queue. -/
def joined (f : Frame) (s : State) : State := s.onLoop fun l => { l with forward := l.forward ++ [f] }

theorem offerForward_room (room : s.loop.forward.length < 8) : offerForward f s = arbitrate (joined f s) := if_pos room

theorem offerForward_full (full : 8 ≤ s.loop.forward.length) : offerForward f s = setAttention .forwardOverrun s := if_neg (not_lt.2 full)

theorem offerForward_free (forward : s.loop.forward = []) (origin : s.loop.origin = []) (free : s.loop.sending = none)
    (divisor : s.loop.outDivisor = s.command.profile.lineDivisor) : offerForward f s =
      startSend { frame := f, forward := [], origin := [], run := min 4 (s.loop.forwardRun + 1) } (freed (joined f s)) := by
  have selected : select (joined f s).loop = some { frame := f, forward := [], origin := [], run := min 4 (s.loop.forwardRun + 1) } := by
    simp [select, joined, forward, origin]
  have idle : freed (joined f s) = joined f s := by
    have loop : { (joined f s).loop with sending := none, outDivisor := s.command.profile.lineDivisor } = (joined f s).loop := by
      rw [← divisor, ← free]
      rfl
    exact congrArg (fun l => { joined f s with loop := l }) loop
  have free_ : (joined f s).loop.sending = none := free
  rw [offerForward_room (by simp [forward]), idle]
  simp only [arbitrate, free_, selected]

/-! ## The clauses of O9 before its cues -/

/-- What a completed frame comes to that stays in the part (R8, R9, R10). -/
theorem completion_disposes (powered : s.powered = true) (check : s.loop.assembler = .check) (stop : c.stopBit = true) (mark : c.mark = false)
    (short : f.payload.length ≤ 240) (assembly : s.loop.assembly = f.bytes ++ [hi]) (good : number2 hi c.data = (crc16 f.bytes).toNat) :
    (f.headerValid = false → exec (.frameCompletion c) s = .next (huntWith 0 s)) ∧
    (f.headerValid = true → s.numbered = true → f.source = s.nodeByte → s.loop.ring = .ok →
      exec (.frameCompletion c) s = .next ((huntWith 0 s).onLoop fun l =>
        { l with ringTimer := some { start := s.clock, length := s.command.profile.ringTimeout } })) ∧
    (f.headerValid = true → s.numbered = true → f.source = s.nodeByte → s.loop.ring = .broken →
      exec (.frameCompletion c) s = .next (((huntWith 0 s).onLoop fun l =>
        { l with ring := .ok, k7 := true
                 ringTimer := some { start := s.clock, length := s.command.profile.ringTimeout } }).onCurtain
          fun c => { c with ring := .ok })) ∧
    (f.headerValid = true → s.numbered = true → f.source ≠ s.nodeByte → f.kind = kindCommand → f.dest = s.nodeByte →
      exec (.frameCompletion c) s = exec (.unknownCommand f.source f.payload) (huntWith 0 s)) := by
  have completes : exec (.frameCompletion c) s = .next (dispose f (huntWith 0 s)) := by
    rw [exec_completion_checked powered check stop mark short assembly, if_pos good]
  rw [completes]
  refine ⟨fun invalid => ?_, fun valid numbered own ring => ?_, fun valid numbered own ring => ?_, fun valid numbered other command own => ?_⟩
  · rw [dispose, if_pos (by simp [invalid])]
  · rw [dispose_own (s := huntWith 0 s) valid numbered own, ownFrameReturns_ok (s := huntWith 0 s) ring]
    rfl
  · rw [dispose_own (s := huntWith 0 s) valid numbered own, ownFrameReturns_broken (s := huntWith 0 s) ring]
    rfl
  · rw [dispose_command (s := huntWith 0 s) valid numbered other command own, exec_payload,
      whilePowered_of_powered (s := huntWith 0 s) powered]

theorem completion_bad (powered : s.powered = true) (check : s.loop.assembler = .check) (stop : c.stopBit = true) (mark : c.mark = false)
    (short : f.payload.length ≤ 240) (assembly : s.loop.assembly = f.bytes ++ [hi]) (bad : number2 hi c.data ≠ (crc16 f.bytes).toNat) :
    answers (.frameCompletion c) s fun t =>
      sameBut [.receiver, .attention] s t ∧ t.loop = (huntWith (min 8 (s.loop.badFrames + 1)) s).loop ∧
      isRaised .lineErrors t = (isRaised .lineErrors s || decide (7 ≤ s.loop.badFrames)) := by
  refine ⟨abandon s, ?_, abandon_effect s⟩
  rw [exec_completion_checked powered check stop mark short assembly, if_neg bad]
  rfl

/-- A frame offered to the forward queue waits there, is lost, or starts out at a free port (R13, R17 to R19). -/
theorem offerForward_clauses (f : Frame) (t : State) :
    (t.loop.forward.length < 8 → t.loop.sending.isSome = true →
      offerForward f t = t.onLoop fun l => { l with forward := l.forward ++ [f] }) ∧
    (8 ≤ t.loop.forward.length →
      sameBut [.attention] t (offerForward f t) = true ∧ isRaised .forwardOverrun (offerForward f t) = true) ∧
    (t.loop.forward = [] → t.loop.origin = [] → t.loop.sending = none →
      t.loop.outDivisor = max 5 t.command.profile.divisor →
      (f.kind ≠ kindLevel → offerForward f t = sendStarted f [] [] (min 4 (t.loop.forwardRun + 1)) t) ∧
      (f.kind = kindLevel →
        sameBut [.sender, .outputs] t (offerForward f t) = true ∧ (offerForward f t).loop.forward = [] ∧
        (offerForward f t).loop.sending.map Sending.frame = some { f with payload := rewriteLevels t f.payload })) := by
  refine ⟨fun room sending => ?_, fun full => ?_, fun forward origin free divisor => ⟨fun plain => ?_, fun level => ?_⟩⟩
  · rw [offerForward_room room]
    exact arbitrate_sending (s := joined f t) sending
  · rw [offerForward_full full]
    exact ⟨setAttention_frame _ t, isRaised_set _ t⟩
  · rw [offerForward_free forward origin free divisor, startSend_plain plain]
    rfl
  · rw [offerForward_free forward origin free divisor]
    obtain ⟨u, sent, same, lights, clock, forward', origin', frame, crc⟩ := startSend_level
      (sel := { frame := f, forward := [], origin := [], run := min 4 (t.loop.forwardRun + 1) }) level (joined f t)
    rw [sent, noteOutputs_loop]
    refine ⟨?_, forward', ?_⟩
    · have first : sameBut [.sender] t (joined f t) = true := by
        simp [sameBut, allParts, samePart, joined, LoopPort.receiving]
      exact sameBut_trans (sameBut_mono (sameBut_trans first same) (by decide)) (sameBut_mono (noteOutputs_frame _ u) (by decide))
    · rw [frame, joined, rewriteLevels_onLoop]

end Sys2Proof.Machine
end

section
/-! SUPPORT. The execution of a cue (R62 to R65, R71, R72): its record, one action at a time, and what a single action leaves. -/

namespace Sys2Proof.Machine

variable {s t u v w : State} {f : Frame} {c : Character} {e : CueEntry} {action : CueAction} {position : Nat} {parts : List Part}
  {holds : State → Prop} {result : Result}

/-! ## The record -/

/-- The record of a cue's execution (R63). -/
def cueRecord (e : CueEntry) (v : State) : Execution :=
  { actions := e.actions, list := e.list, cue := e.cue, arrival := v.clock, next := 1 }

/-- A state of the part amid an execution, or behind one (R63). -/
def amid (x : Option Execution) (v : State) : State := v.onCues fun c => { c with execution := x }

/-- The CUE_REFUSED entry of an action (R72). -/
def refusalEntry (e : CueEntry) (v : State) (position : Nat) (kind reason : Byte) : ReportEntry :=
  entryNow v .cueRefused ([byte e.list] ++ bytes2 e.cue ++ [byte position, kind, reason])

/-- The MARK entry of an action (R71). -/
def markEntry (e : CueEntry) (v : State) (value : Byte) : ReportEntry := entryNow v .mark ([value, byte e.list] ++ bytes2 e.cue)

theorem amid_frame (x : Option Execution) (v : State) : sameBut [.cues] v (amid x v) = true := onCues_frame v _

theorem executeCue_eq (e : CueEntry) (v : State) : executeCue e v = amid none (executeFrom (cueRecord e v) 1 e.actions v) := rfl

theorem executeFrom_cons (x : Execution) (position : Nat) (action : CueAction) (rest : List CueAction) (v : State) :
    executeFrom x position (action :: rest) v = executeFrom x (position + 1) rest
      (executeAction { x with next := position } action (amid (some { x with next := position }) v)) := rfl

/-! ## One action -/

/-- The action's request is answered with this (R64, R66 to R70). -/
structure Answers (action : CueAction) (w : State) (result : Result) (u : State) : Prop where
  request : ∀ value, action ≠ .mark value
  allowed : refusedInClosed action w = false
  answer : performAction action w = (result, u)

theorem executeAction_of (x : Execution) (request : ∀ value, action ≠ .mark value) (w : State) : executeAction x action w =
    if (if refusedInClosed action w then (Result.refusedState, w) else performAction action w).1.refuses then
      reportRefusal x action (if refusedInClosed action w then (Result.refusedState, w) else performAction action w).1
        (if refusedInClosed action w then (Result.refusedState, w) else performAction action w).2
    else (if refusedInClosed action w then (Result.refusedState, w) else performAction action w).2 := by
  cases action with
  | mark value => exact absurd rfl (request value)
  | phase | hfade | wopen | wclose | call | demo => rfl

theorem executeAction_done {x : Execution} (answers : Answers action w .done u) : executeAction x action w = u := by
  rw [executeAction_of x answers.request, if_neg (show ¬ refusedInClosed action w = true by simp [answers.allowed]), answers.answer]
  exact if_neg (show ¬ Result.done.refuses = true by decide)

theorem executeAction_refuses {x : Execution} (answers : Answers action w result u) (refuses : result.refuses = true) :
    executeAction x action w = reportRefusal x action result u := by
  rw [executeAction_of x answers.request, if_neg (show ¬ refusedInClosed action w = true by simp [answers.allowed]), answers.answer]
  exact if_pos refuses

theorem executeAction_closed {x : Execution} (request : ∀ value, action ≠ .mark value) (closed : refusedInClosed action w = true) :
    executeAction x action w = reportRefusal x action .refusedState w := by
  rw [executeAction_of x request, if_pos closed]
  exact if_pos rfl

theorem reportRefusal_frame (x : Execution) (action : CueAction) (reason : Result) (s : State) :
    sameBut [.report, .attention] s (reportRefusal x action reason s) = true := appendEntry_frame _ s

theorem reportRefusal_room (x : Execution) (action : CueAction) (reason : Result) (room : roomFor 1 s = true) :
    reportRefusal x action reason s = s.onPhase fun p => { p with
      report := p.report ++
        [{ time := x.arrival, kind := .cueRefused, data := [byte x.list] ++ bytes2 x.cue ++ [byte x.next, action.kind, byte reason.code] }] } :=
  appendEntry_room (by
    simp only [roomFor, decide_eq_true_eq] at room
    omega)

theorem reportMark_room (x : Execution) (value : Byte) (room : roomFor 1 s = true) :
    reportMark x value s = s.onPhase fun p => { p with
      report := p.report ++ [{ time := x.arrival, kind := .mark, data := [value, byte x.list] ++ bytes2 x.cue }] } :=
  appendEntry_room (by
    simp only [roomFor, decide_eq_true_eq] at room
    omega)

/-! ## What a cue leaves -/

/-- What the execution of a cue leaves: the parts that it may change, its record gone, and this. -/
structure CueLeaves (e : CueEntry) (v : State) (parts : List Part) (holds : State → Prop) : Prop where
  same : sameBut (.cues :: parts) v (executeCue e v) = true
  cues : (executeCue e v).cues = { v.cues with execution := none }
  holds : holds (executeCue e v)

/-- The execution that comes to this state leaves it, its record gone. -/
theorem cueLeaves_of (executed : executeFrom (cueRecord e v) 1 e.actions v = u) (same : sameBut (.cues :: parts) v u = true)
    (table : u.cues.table = v.cues.table) (held : holds (amid none u)) : CueLeaves e v parts holds where
  same := by
    rw [executeCue_eq, executed]
    exact sameBut_trans same (sameBut_mono (amid_frame none u) fun p mem => by
      rw [List.mem_singleton] at mem
      rw [mem]
      exact List.mem_cons_self)
  cues := by
    rw [executeCue_eq, executed]
    change { u.cues with execution := none } = _
    rw [show ({ u.cues with execution := none } : CueUnit) = { table := u.cues.table, execution := none } from rfl, table]
  holds := by
    rw [executeCue_eq, executed]
    exact held

/-- What a cue of one action leaves, which is what the action makes. -/
theorem cueLeaves_single (single : e.actions = [action])
    (executes : executeAction (cueRecord e v) action (amid (some (cueRecord e v)) v) = u)
    (same : sameBut parts (amid (some (cueRecord e v)) v) u = true) (apart : Part.cues ∉ parts) (held : holds (amid none u)) :
    CueLeaves e v parts holds := by
  have table := congrArg CueUnit.table (sameBut_cues same apart)
  refine cueLeaves_of (u := u) ?_ (sameBut_trans (sameBut_mono (amid_frame _ v) fun p mem => ?_) (sameBut_mono same fun p mem =>
    List.mem_cons_of_mem _ mem)) table held
  · rw [single]
    exact executes
  · rw [List.mem_singleton] at mem
    rw [mem]
    exact List.mem_cons_self

/-- A cue of one action that is taken. -/
theorem cueLeaves_done (single : e.actions = [action]) (answers : Answers action (amid (some (cueRecord e v)) v) .done u)
    (same : sameBut parts (amid (some (cueRecord e v)) v) u = true) (apart : Part.cues ∉ parts) (held : holds (amid none u)) :
    CueLeaves e v parts holds := cueLeaves_single single (executeAction_done answers) same apart held

/-- A cue of one action that is refused leaves its CUE_REFUSED entry. -/
theorem cueLeaves_refused (single : e.actions = [action])
    (answers : Answers action (amid (some (cueRecord e v)) v) result (amid (some (cueRecord e v)) v)) (refuses : result.refuses = true) :
    CueLeaves e v [.report, .attention] fun t => roomFor 1 v = true → t.phase.report = v.phase.report ++
      [refusalEntry e v 1 action.kind (byte result.code)] := by
  refine cueLeaves_single single (executeAction_refuses answers refuses) (reportRefusal_frame _ _ _ _) (by decide) fun room => ?_
  rw [reportRefusal_room (s := amid (some (cueRecord e v)) v) _ _ _ room]
  rfl

theorem cueLeaves_mark {value : Byte} (single : e.actions = [.mark value]) (room : roomFor 1 v = true) :
    CueLeaves e v [.report] fun t => t.phase.report = v.phase.report ++ [markEntry e v value] := by
  have marked := reportMark_room (s := amid (some (cueRecord e v)) v) (cueRecord e v) value room
  refine cueLeaves_single single marked ?_ (by decide) rfl
  simp [sameBut, allParts, samePart, PhaseUnit.record]

/-! ## Any cue -/

theorem executeFrom_table (x : Execution) (position : Nat) (actions : List CueAction) (v : State) :
    (executeFrom x position actions v).cues.table = v.cues.table := by
  induction actions generalizing position v with
  | nil => rfl
  | cons action rest ih =>
    rw [executeFrom_cons, ih, sameBut_cues (executeAction_frame _ _ _) (by decide)]
    rfl

/-- Whatever its actions, a cue leaves what no alarm changes (R64). -/
theorem cueLeaves_any (e : CueEntry) (v : State) : CueLeaves e v alarmParts fun _ => True :=
  cueLeaves_of rfl (executeFrom_frame _ _ _ v) (executeFrom_table _ _ _ v) trivial

/-! ## In CLOSED (R65) -/

/-- The entry of a MARK, or of a PHASE or CALL that is refused in CLOSED. -/
def closedEntry (e : CueEntry) (v : State) (action : CueAction) (position : Nat) : ReportEntry :=
  match action with
  | .mark value => markEntry e v value
  | .phase _ _ | .hfade _ _ _ | .wopen _ | .wclose _ | .call _ | .demo => refusalEntry e v position action.kind 3

/-- The action is a PHASE, a CALL or a MARK. -/
def CueAction.reportsInClosed : CueAction → Bool
  | .phase _ _ | .call _ | .mark _ => true
  | .hfade _ _ _ | .wopen _ | .wclose _ | .demo => false

theorem executeAction_reports (closed : w.phase.phase = .closed) (reports : action.reportsInClosed = true)
    (room : roomFor 1 w = true) :
    executeAction { cueRecord e v with next := position } action w =
      w.onPhase fun p => { p with report := p.report ++ [closedEntry e v action position] } := by
  cases action with
  | mark value => exact reportMark_room _ value room
  | phase target act =>
    rw [executeAction_closed (by simp) (by simp [refusedInClosed, closed])]
    exact reportRefusal_room _ _ _ room
  | call id =>
    rw [executeAction_closed (by simp) (by simp [refusedInClosed, closed])]
    exact reportRefusal_room _ _ _ room
  | hfade | wopen | wclose | demo => nomatch reports

/-- The report with entries behind it. -/
def withEntries (entries : List ReportEntry) (v : State) : State := v.onPhase fun p => { p with report := p.report ++ entries }

theorem withEntries_frame (entries : List ReportEntry) (v : State) : sameBut [.report] v (withEntries entries v) = true := by
  simp [sameBut, allParts, samePart, withEntries, PhaseUnit.record]

theorem withEntries_nil (v : State) : withEntries [] v = v := by
  change { v with phase := { v.phase with report := v.phase.report ++ [] } } = v
  rw [List.append_nil]

theorem withEntries_cons (entry : ReportEntry) (entries : List ReportEntry) (v : State) :
    withEntries (entry :: entries) v = withEntries entries (withEntries [entry] v) := by
  change { v with phase := { v.phase with report := v.phase.report ++ entry :: entries } } =
    { v with phase := { v.phase with report := v.phase.report ++ [entry] ++ entries } }
  rw [List.append_assoc]
  rfl

theorem executeFrom_closed {actions : List CueAction} (closed : w.phase.phase = .closed)
    (reports : ∀ action ∈ actions, action.reportsInClosed = true) (room : roomFor actions.length w = true) :
    ∃ x, executeFrom (cueRecord e v) position actions w =
      amid x (withEntries ((actions.zipIdx position).map fun (action, position) => closedEntry e v action position) w) := by
  induction actions generalizing position w with
  | nil => exact ⟨w.cues.execution, congrArg (amid w.cues.execution) (withEntries_nil w).symm⟩
  | cons action rest ih =>
    have room' : w.phase.report.length + (rest.length + 1) ≤ 128 := of_decide_eq_true room
    rw [executeFrom_cons, executeAction_reports (w := amid (some { cueRecord e v with next := position }) w) closed
      (reports action List.mem_cons_self) (decide_eq_true (by change w.phase.report.length + 1 ≤ 128; omega))]
    obtain ⟨x, later⟩ := ih (w := (amid (some { cueRecord e v with next := position }) w).onPhase fun p =>
        { p with report := p.report ++ [closedEntry e v action position] }) (position := position + 1) closed
      (fun action mem => reports action (List.mem_cons_of_mem _ mem)) (decide_eq_true (by
        change (w.phase.report ++ [closedEntry e v action position]).length + rest.length ≤ 128
        rw [List.length_append, List.length_singleton]
        omega))
    refine ⟨x, later.trans ?_⟩
    rw [List.zipIdx_cons, List.map_cons, withEntries_cons]
    rfl

theorem cueLeaves_closed (closed : v.phase.phase = .closed) (reports : ∀ action ∈ e.actions, action.reportsInClosed = true)
    (room : roomFor e.actions.length v = true) : CueLeaves e v [.report] fun t => t.phase.report = v.phase.report ++
      (e.actions.zipIdx 1).map fun (action, position) => closedEntry e v action position := by
  obtain ⟨x, executed⟩ := executeFrom_closed (e := e) (position := 1) closed reports room
  refine cueLeaves_of executed ?_ rfl rfl
  simp [sameBut, allParts, samePart, PhaseUnit.record, withEntries, amid]

end Sys2Proof.Machine
end

section
/-! SUPPORT. What a cue of one PHASE action leaves (R49, R66). -/

namespace Sys2Proof.Machine

variable {s t u v w : State} {e : CueEntry} {action : CueAction} {parts : List Part} {holds : State → Prop} {result : Result}
  {target : Phase} {act : Nat}

/-- What a cue of one refused action leaves: its CUE_REFUSED entry (R64, R72). -/
def CueRefused (e : CueEntry) (v : State) (kind reason : Byte) : Prop :=
  CueLeaves e v [.report, .attention] fun t => roomFor 1 v = true → t.phase.report = v.phase.report ++ [refusalEntry e v 1 kind reason]

/-- The state that the first action of a cue meets (R63). -/
def met (e : CueEntry) (v : State) : State := amid (some (cueRecord e v)) v

theorem cueRefused_of (single : e.actions = [action]) (request : ∀ value, action ≠ .mark value)
    (allowed : refusedInClosed action v = false) (answer : performAction action (met e v) = (result, met e v))
    (refuses : result.refuses = true) : CueRefused e v action.kind (byte result.code) :=
  cueLeaves_refused single ⟨request, allowed, answer⟩ refuses

/-- A cue of one action that is taken leaves what the request leaves (R64). -/
theorem cueTaken_of (single : e.actions = [action]) (request : ∀ value, action ≠ .mark value)
    (allowed : refusedInClosed action v = false) (answer : performAction action (met e v) = (.done, u))
    (same : sameBut parts (met e v) u = true) (apart : Part.cues ∉ parts) (held : holds (amid none u)) :
    CueLeaves e v parts holds := cueLeaves_done single ⟨request, allowed, answer⟩ same apart held

theorem refusedInClosed_open (action : CueAction) (performing : v.phase.phase ≠ .closed) : refusedInClosed action v = false := by
  simp [refusedInClosed, performing]

/-! ## Phase requests -/

section Phases

variable (single : e.actions = [.phase target act]) (performing : v.phase.phase ≠ .closed)
include single performing

theorem cue_phase_refused (answer : phaseRequest (some target) act v.command.profile.intervalLength .cue (met e v) = (result, met e v))
    (refuses : result.refuses = true) : CueRefused e v 0 (byte result.code) :=
  cueRefused_of single (by simp) (refusedInClosed_open _ performing) answer refuses

theorem cue_phase_taken (taken : ∃ u, phaseRequest (some target) act v.command.profile.intervalLength .cue (met e v) = (.done, u) ∧
      sameBut parts (met e v) u = true ∧ holds (amid none u)) (apart : Part.cues ∉ parts) : CueLeaves e v parts holds := by
  obtain ⟨u, answer, same, held⟩ := taken
  exact cueTaken_of single (by simp) (refusedInClosed_open _ performing) answer same apart held

end Phases

/-- A target that no request reaches is out of range (R49). -/
theorem phaseRequest_unreachable (unreachable : target = .closed ∨ target = .preshow ∨ target = .held ∨ target = .evacuating)
    (countdown : Nat) (cause : PhaseCause) (s : State) : phaseRequest (some target) act countdown cause s = (.refusedRange, s) := by
  obtain rfl | rfl | rfl | rfl := unreachable <;> rfl

/-- The clauses of O9 for a cue of one PHASE action outside CLOSED (R66). -/
structure PhaseCue (e : CueEntry) (v : State) (target : Phase) (act : Nat) : Prop where
  unreachable : (target = .closed ∨ target = .preshow ∨ target = .held ∨ target = .evacuating) → CueRefused e v 0 4
  houseShut : target = .houseOpen → (act ≠ 0 ∨ v.phase.phase ≠ .preshow) → CueRefused e v 0 3
  egressEarly : target = .egress → v.phase.phase ≠ .running → CueRefused e v 0 3
  interval : target = .interval → v.phase.phase = .running → (act = 0 ∨ act = v.phase.act) →
    v.command.profile.intervalLength ≤ 3600 → relaysFollow v = true → roomFor 1 v = true →
    CueLeaves e v phaseParts fun t =>
      t.phase.record = { v.phase.record with phase := .interval, intervalLeft := v.command.profile.intervalLength } ∧
      gains (entryNow v .phase [5, 4, byte v.phase.act, 1, flagByte v.phase.showStop]) v t = true
  houseOpen : target = .houseOpen → act = 0 → v.phase.phase = .preshow → relaysFollow v = true → roomFor 1 v = true →
    CueLeaves e v phaseParts fun t => t.phase.record = { v.phase.record with phase := .houseOpen } ∧
      gains (entryNow v .phase [2, 1, byte v.phase.act, 1, flagByte v.phase.showStop]) v t = true
  firstAct : target = .running → act ≤ 1 → (v.phase.phase = .houseOpen ∨ v.phase.phase = .held) → relaysFollow v = true →
    roomFor 3 v = true →
    CueLeaves e v (.curtain :: phaseParts) fun t =>
      t.phase.record = { v.phase.record with
        phase := .running, act := 1, heldFrom := none, holdPending := false
        demoStatus := if v.phase.demoStatus = .passed then .passed else .missed } ∧
      t.curtain.state = v.curtain.state ∧ t.curtain.mode = v.curtain.mode ∧
      gains (firstActEntry .cue v) v t = true ∧
      (v.phase.demoStatus ≠ .passed → isRaised .demoResult t = true ∧ gains (missedEntry v) v t = true)
  nextAct : target = .running → (act = 0 ∨ act = v.phase.act + 1) → v.phase.phase = .interval → v.phase.act < 5 →
    relaysFollow v = true → roomFor 1 v = true →
    CueLeaves e v phaseParts fun t => t.phase.record = { v.phase.record with phase := .running, act := v.phase.act + 1 } ∧
      gains (entryNow v .phase [4, 5, byte (v.phase.act + 1), 1, flagByte v.phase.showStop]) v t = true
  actBarred : target = .running → runningBarred act v → CueRefused e v 0 3
  egress : target = .egress → (act = 0 ∨ act = v.phase.act) → v.phase.phase = .running → relaysFollow v = true → roomFor 1 v = true →
    CueLeaves e v phaseParts fun t => t.phase.record = { v.phase.record with phase := .egress } ∧
      gains (entryNow v .phase [6, 4, byte v.phase.act, 1, flagByte v.phase.showStop]) v t = true

theorem phaseCue (single : e.actions = [.phase target act]) (performing : v.phase.phase ≠ .closed) (range : act ≤ 5) :
    PhaseCue e v target act where
  unreachable unreachable := cue_phase_refused single performing (phaseRequest_unreachable unreachable _ _ _) rfl
  houseShut goal wrong := by
    subst goal
    exact cue_phase_refused single performing (openHouse_refused (s := met e v) range wrong) rfl
  egressEarly goal other := by
    subst goal
    exact cue_phase_refused single performing (egress_refused (s := met e v) range (.inl other)) rfl
  interval goal running fits short relays room := by
    subst goal
    obtain ⟨u, answer, same, record, -, entry⟩ :=
      interval_taken (s := met e v) (cause := .cue) relays running range fits short room
    exact cue_phase_taken single performing ⟨u, answer, same, record, entry⟩ (by decide)
  houseOpen goal none_ preshow relays room := by
    subst goal none_
    obtain ⟨u, answer, -, same, record, entry⟩ := openHouse_taken (s := met e v) (cause := .cue)
      (countdown := v.command.profile.intervalLength) relays preshow room
    exact cue_phase_taken single performing ⟨u, answer, same, record, entry⟩ (by decide)
  firstAct goal first before relays room := by
    subst goal
    obtain ⟨u, answer, same, record, state, mode, entry, missed⟩ := firstAct_taken (s := met e v) (cause := .cue)
      (countdown := v.command.profile.intervalLength) relays before first room
    exact cue_phase_taken single performing ⟨u, answer, same, record, state, mode, entry, missed⟩ (by decide)
  nextAct goal fits interval before relays room := by
    subst goal
    obtain ⟨u, answer, same, record, entry⟩ := nextAct_taken (s := met e v) (cause := .cue)
      (countdown := v.command.profile.intervalLength) relays interval range fits before room
    exact cue_phase_taken single performing ⟨u, answer, same, record, entry⟩ (by decide)
  actBarred goal barred := by
    subst goal
    exact cue_phase_refused single performing (running_refused (s := met e v) range barred) rfl
  egress goal fits running relays room := by
    subst goal
    obtain ⟨u, answer, same, record, entry⟩ := egress_taken (s := met e v) (cause := .cue)
      (countdown := v.command.profile.intervalLength) relays running range fits room
    exact cue_phase_taken single performing ⟨u, answer, same, record, entry⟩ (by decide)

end Sys2Proof.Machine
end

section
/-! SUPPORT. What a cue of one HFADE, WOPEN or WCLOSE action leaves (R67 to R69). -/

namespace Sys2Proof.Machine

variable {s t u v w : State} {e : CueEntry} {cause : ZoneCause}

/-! ## A fade (R82) -/

/-- The group as a fade request of CUE or of HFAD leaves it. -/
def fadedGroup (group : Group) (level time : Nat) (clock : Time) : Group :=
  if time = 0 then { group with level := level, fade := none, stepTimer := none }
  else { group with
    fade := some { start := group.level, target := level, steps := 4 * time, index := 0 }
    stepTimer := some { start := clock, length := 25 } }

theorem setGroup_frame (g : Nat) (group : Group) (s : State) : sameBut [.lights] s (setGroup g group s) = true := by
  simp [sameBut, allParts, samePart, setGroup, HouseLights.settled]

section Fade

variable {g level time : Nat} {group : Group} (single : e.actions = [.hfade g level time]) (at_ : v.lights.groups[g]? = some group)
  (short : time ≤ 36000)
include single at_ short

theorem cue_fade_refused (console : group.owner = .console) : CueRefused e v 1 3 :=
  cueRefused_of single (by simp) (by simp [refusedInClosed]) (houseFade_console (s := met e v) at_ short console) rfl

theorem cue_fade_taken (part : group.owner = .part) : CueLeaves e v [.lights] fun t =>
    t.lights = { v.lights with groups := v.lights.groups.setIfInBounds g (fadedGroup group level time v.clock) } :=
  cueTaken_of single (by simp) (by simp [refusedInClosed]) (houseFade_part (s := met e v) at_ short part)
    (setGroup_frame _ _ _) (by decide) rfl

end Fade

/-! ## The opening of a window (R115) -/

/-- The window as its opening leaves it. -/
def openedWindow (window : Window) (d : WindowDef) (clock : Time) : Window :=
  { window with isOpen := true, timer := some { start := clock, length := d.duration * 1000 } }

/-- The state in which a window has opened, with its entry. -/
def windowOpened (w : Nat) (window : Window) (d : WindowDef) (cause : ZoneCause) (s : State) : State :=
  withEntries [entryNow s .zone [byte (64 + w), 9, 8, cause.code]] (setWindow w (openedWindow window d s.clock) s)

theorem windowOpened_frame (w : Nat) (window : Window) (d : WindowDef) (cause : ZoneCause) (s : State) :
    sameBut [.zones, .report] s (windowOpened w window d cause s) = true :=
  sameBut_trans (sameBut_mono (onZones_frame s _) (by decide)) (sameBut_mono (withEntries_frame _ _) (by decide))

section Opening

variable {number : Nat} {window : Window} (at_ : s.zones.windows[number]? = some window) (range : number ≤ 15)
include at_ range

theorem windowOpens_barred (barred : s.zones.alarm.confirmed ≠ [] ∨ s.phase.phase = .evacuating ∨ window.defn = none) :
    windowOpens cause number s = (.refusedState, s) := by
  have bound : s.zones.windows[number]?.bind Window.defn = window.defn := by
    rw [at_]
    rfl
  rw [windowOpens, if_neg (Nat.not_lt.2 range)]
  by_cases alarm : s.zones.alarm.confirmed ≠ []
  · exact if_pos alarm
  rw [if_neg alarm]
  by_cases evacuating : s.phase.phase = .evacuating
  · exact if_pos evacuating
  · have undefined := (barred.resolve_left alarm).resolve_left evacuating
    simp only [if_neg evacuating, bound, undefined]

theorem windowOpens_opens {d : WindowDef} (calm : s.zones.alarm.confirmed = []) (stays : s.phase.phase ≠ .evacuating)
    (defined : window.defn = some d) (derived : recordDerived s = true) (shut : window.isOpen = false) (room : roomFor 1 s = true) :
    windowOpens cause number s = (.done, windowOpened number window d cause s) := by
  have bound : s.zones.windows[number]?.bind Window.defn = some d := by
    rw [at_]
    exact defined
  have opens := zoneStep_opens (origin := windowByte number) at_ defined cause calm derived
  have whole : openWindow cause number s = windowOpened number window d cause s := by
    rw [openWindow_eq at_ defined, if_neg (by simp [shut])]
    exact report_room (n := 0) (s := setWindow number (openedWindow window d s.clock) s) room
  rw [windowOpens, if_neg (Nat.not_lt.2 range), if_neg (not_not.2 calm), if_neg stays]
  simp only [bound, opens, whole]

end Opening

section Windows

variable {number : Nat} {window : Window}

theorem cue_open_refused (single : e.actions = [.wopen number]) (at_ : v.zones.windows[number]? = some window) (range : number ≤ 15)
    (barred : v.zones.alarm.confirmed ≠ [] ∨ v.phase.phase = .evacuating ∨ window.defn = none) : CueRefused e v 2 3 :=
  cueRefused_of single (by simp) (by simp [refusedInClosed]) (windowOpens_barred (s := met e v) at_ range barred) rfl

theorem cue_open_taken {d : WindowDef} (single : e.actions = [.wopen number]) (at_ : v.zones.windows[number]? = some window)
    (range : number ≤ 15) (calm : v.zones.alarm.confirmed = []) (stays : v.phase.phase ≠ .evacuating) (defined : window.defn = some d)
    (derived : recordDerived v = true) (shut : window.isOpen = false) (room : roomFor 1 v = true) :
    CueLeaves e v [.zones, .report] fun t =>
      t.zones = { v.zones with windows := v.zones.windows.setIfInBounds number (openedWindow window d v.clock) } ∧
      t.phase.report = v.phase.report ++ [entryNow v .zone [byte (64 + number), 9, 8, 7]] :=
  cueTaken_of single (by simp) (by simp [refusedInClosed])
    (windowOpens_opens (s := met e v) (cause := .cue) at_ range calm stays defined derived shut room)
    (windowOpened_frame number window d .cue (met e v)) (by decide) ⟨rfl, rfl⟩

/-! ## The closure of a window (R117) -/

theorem windowOpen_amid (x : Option Execution) (v : State) (w : Nat) : windowOpen (amid x v) w = windowOpen v w := rfl

theorem cue_close_shut (single : e.actions = [.wclose number]) (range : number ≤ 15) (shut : windowOpen v number = false) :
    CueLeaves e v [] fun _ => True :=
  cueTaken_of (u := met e v) single (by simp) (by simp [refusedInClosed]) (by
      change windowCloses .cue number (met e v) = _
      rw [windowCloses, if_neg (Nat.not_lt.2 range)]
      exact if_neg (Bool.eq_false_iff.1 shut))
    (sameBut_refl _ _) (by decide) trivial

theorem cue_close_open (single : e.actions = [.wclose number]) (range : number ≤ 15) (isOpen : windowOpen v number = true)
    (room : roomFor 1 v = true) : CueLeaves e v alarmParts fun t =>
      windowOpen t number = false ∧ gains (entryNow v .zone [byte (64 + number), 8, 9, 7]) v t = true := by
  obtain ⟨window, at_, opened⟩ := windowOpen_iff.1 isOpen
  obtain ⟨after, gained, -⟩ := zoneStep_closes (s := met e v) (origin := windowByte number) at_ opened .cue
  refine cueTaken_of (u := zoneStep (windowByte number) (closeWindows [number] .cue) (met e v)) single (by simp)
    (by simp [refusedInClosed]) ?_ (zoneStep_frame _ (zoneParts_le (closeWindows_frame _ _ _))) (by decide) ⟨?_, gained room⟩
  · change windowCloses .cue number (met e v) = _
    rw [windowCloses, if_neg (Nat.not_lt.2 range)]
    exact if_pos isOpen
  · rw [windowOpen_amid, windowOpen, after]

end Windows

end Sys2Proof.Machine
end

section
/-! SUPPORT. What a cue of one CALL action leaves (R70, R174). -/

namespace Sys2Proof.Machine

variable {s t u v w : State} {e : CueEntry} {id : Nat} {source : CallSource}

/-! ## A request while the player is busy -/

/-- A request that waits for the player only joins the queue. -/
theorem requestCall_joins (low : callPriority s id ≤ 2) (busy : playerBusy s = true) (defined : callDefined s id = true)
    (free : callHeld s id = false) (room : s.calls.queue.length < 16) :
    requestCall id source s = (.done, setQueue (insertCall (newInstance s id source) s.calls.queue) s) := by
  rw [requestCall_room defined free room, enqueueRequest_busy (by omega) busy]

/-- A request is answered with one entry of the report. -/
theorem reportRequest_room (id : Nat) (source : CallSource) (outcome : CallOutcome) (reason : Option Result) (room : roomFor 1 s = true) :
    ∃ entry, reportRequest id source outcome reason s = withEntries [entry] s := by
  unfold reportRequest
  split <;> exact ⟨_, report_room (n := 0) room⟩

theorem requestCall_undefined_room (busy : playerBusy s = true) (undefined : callDefined s id = false) (room : roomFor 1 s = true) :
    ∃ entry, requestCall id source s = (.refusedState, withEntries [entry] s) := by
  obtain ⟨entry, reported⟩ := reportRequest_room id source .refused (some .refusedState) room
  exact ⟨entry, by rw [requestCall_undefined undefined, refuseRequest_busy busy, reported]; rfl⟩

section Busy

variable (single : e.actions = [.call id]) (low : callPriority v id ≤ 2) (performing : v.phase.phase ≠ .closed) (busy : playerBusy v = true)
include single performing busy

include low in
theorem cue_call_joins (defined : callDefined v id = true) (free : callHeld v id = false) (room : v.calls.queue.length < 16) :
    CueLeaves e v [.calls] fun t => t.calls = { v.calls with queue := insertCall (newInstance v id .cue) v.calls.queue } :=
  cueTaken_of single (by simp) (refusedInClosed_open _ performing)
    (requestCall_joins (s := met e v) (source := .cue) low busy defined free room)
    (sameBut_mono (setQueue_frame _ _) (by decide)) (by decide) rfl

/-- A call that is not defined leaves two entries, its own and then CUE_REFUSED. -/
theorem cue_call_undefined (undefined : callDefined v id = false) (room : roomFor 2 v = true) :
    CueLeaves e v [.report] fun t => t.phase.report.getLast? = some (refusalEntry e v 1 4 3) ∧
      t.phase.report.length = v.phase.report.length + 2 := by
  have space : v.phase.report.length + 2 ≤ 128 := of_decide_eq_true room
  obtain ⟨entry, answer⟩ := requestCall_undefined_room (s := met e v) (source := .cue) busy undefined
    (decide_eq_true (by change v.phase.report.length + 1 ≤ 128; omega))
  have executes : executeAction (cueRecord e v) (.call id) (met e v) =
      withEntries [refusalEntry e v 1 4 3] (withEntries [entry] (met e v)) := by
    have refused : Answers (.call id) (met e v) .refusedState (withEntries [entry] (met e v)) :=
      ⟨by simp, refusedInClosed_open (v := met e v) _ performing, answer⟩
    rw [executeAction_refuses refused rfl]
    refine reportRefusal_room _ _ _ (decide_eq_true ?_)
    change (v.phase.report ++ [entry]).length + 1 ≤ 128
    rw [List.length_append, List.length_singleton]
    omega
  have entries : ((v.phase.report ++ [entry]) ++ [refusalEntry e v 1 4 3]).length = v.phase.report.length + 2 := by simp
  refine cueLeaves_single single executes ?_ (by decide) ⟨?_, entries⟩
  · exact sameBut_trans (withEntries_frame _ _) (withEntries_frame _ _)
  · change ((v.phase.report ++ [entry]) ++ [refusalEntry e v 1 4 3]).getLast? = _
    exact List.getLast?_concat

end Busy

/-! ## A request that starts -/

/-- What the request of a call leaves that an idle player takes at once (R183, R184). -/
theorem requestCall_sounds {defined : CallEntry} {station : Nat} {areas : BitVec 12} (small : id ≤ 31) (low : callPriority s id ≤ 2)
    (found : callEntry s id = some defined) (empty : s.calls.queue = []) (idle : s.calls.player = .idle)
    (able : eligible s (newInstance s id source) = true) (slot : defined.defn.slot.isSome = true) (long : 1 ≤ defined.defn.messageTime)
    (routes : routeStations s (effectiveAreas s id) = [(station, areas)]) :
    ∃ u, requestCall id source s = (.done, u) ∧ sameBut callParts s u = true ∧ u.calls.queue = [] ∧
      (∃ call copy timer, u.calls.player = .sounding call copy timer ∧ call.id = id ∧ call.source = source ∧
        call.repeats = some (.count defined.defn.repeats) ∧ copy.stations = [(station, areas)] ∧
        timer.start = s.clock ∧ defined.defn.messageTime * 1000 ≤ timer.length) ∧
      (s.numbered = true → quietQueue s = true → u.loop.origin =
        [queued s kindCall (byte station) ([1, byte id, optionByte defined.defn.slot] ++ maskBytes 2 areas) false]) := by
  have known : callDefined s id = true := by simp [callDefined, found]
  have free : callHeld s id = false := by simp [callHeld, empty, idle, Player.call]
  have other : id ≠ evacId ∧ id ≠ staffId := by
    simp only [evacId, staffId]
    omega
  have settings : callSettings s id = some (defined.defn.pattern, defined.defn.slot, defined.defn.messageTime,
      .count defined.defn.repeats, defined.defn.gap) := by
    simp [callSettings, other, found]
  have answer : requestCall id source s = (.done, selection (setQueue [newInstance s id source] s)) := by
    rw [requestCall_room known free (by rw [empty]; decide), enqueueRequest, empty, preempt_idle (by exact idle)]
    rfl
  obtain ⟨call, copy, sounds, ⟨named, origin, priority, left⟩, ⟨stations, voice, -⟩, time⟩ :=
    selection_sounds (s := setQueue [newInstance s id source] s) idle rfl known able settings rfl slot long routes
  rw [sounds] at answer
  have calls := beginSounding_calls call copy (setQueue [] (setQueue [newInstance s id source] s))
  have cleared : sameBut callParts s (setQueue [] (setQueue [newInstance s id source] s)) = true :=
    sameBut_mono (sameBut_trans (setQueue_frame _ s) (setQueue_frame _ _)) (by decide)
  refine ⟨_, answer, sameBut_trans cleared (beginSounding_frame _ _ _), congrArg CallUnit.queue calls,
    ⟨call, copy, _, congrArg CallUnit.player calls, named, origin, left, stations, rfl, time⟩, fun numbered quiet => ?_⟩
  obtain ⟨sending, none_⟩ := quietQueue_iff.1 quiet
  have loop := beginSounding_origin_one (call := call) stations (s := setQueue [] (setQueue [newInstance s id source] s)) numbered sending
    (by change s.loop.origin.length < 16; simp [none_]) (fun q hq => by
      have : q ∈ s.loop.origin := hq
      simp [none_] at this)
  have urgent : ¬ call.priority = 3 := by
    rw [priority]
    change ¬ callPriority s id = 3
    omega
  rw [loop]
  change s.loop.origin ++ _ = _
  rw [none_, named, voice, decide_eq_false urgent]
  rfl

theorem cue_call_sounds {defined : CallEntry} {station : Nat} {areas : BitVec 12} (single : e.actions = [.call id]) (small : id ≤ 31)
    (low : callPriority v id ≤ 2) (performing : v.phase.phase ≠ .closed) (found : callEntry v id = some defined)
    (empty : v.calls.queue = []) (idle : v.calls.player = .idle) (able : eligible v (newInstance v id .cue) = true)
    (slot : defined.defn.slot.isSome = true) (long : 1 ≤ defined.defn.messageTime)
    (routes : routeStations v (effectiveAreas v id) = [(station, areas)]) :
    CueLeaves e v callParts fun t =>
      t.calls.queue = [] ∧
      (∃ call copy timer, t.calls.player = .sounding call copy timer ∧ call.id = id ∧ call.source = .cue ∧
        call.repeats = some (.count defined.defn.repeats) ∧ copy.stations = [(station, areas)] ∧
        timer.start = v.clock ∧ defined.defn.messageTime * 1000 ≤ timer.length) ∧
      (v.numbered = true → quietQueue v = true → t.loop.origin =
        [queued v kindCall (byte station) ([1, byte id, optionByte defined.defn.slot] ++ maskBytes 2 areas) false]) := by
  obtain ⟨u, answer, same, queue, player, frames⟩ := requestCall_sounds (s := met e v) (source := .cue) small low found empty idle able
    slot long routes
  exact cueTaken_of single (by simp) (refusedInClosed_open _ performing) answer same (by decide) ⟨queue, player, frames⟩

end Sys2Proof.Machine
end

section
/-! SUPPORT. What a cue of several actions leaves, each handed on after the one before it (R64): a fade, a window, a call and a mark. -/

namespace Sys2Proof.Machine

variable {s t u v w : State} {e : CueEntry} {action : CueAction} {rest : List CueAction} {position : Nat} {x : Execution} {result : Result}

/-! ## One action after another -/

/-- An action that is taken hands its state to the next one. -/
theorem executeFrom_takes (answers : Answers action (amid (some { x with next := position }) v) .done u) :
    executeFrom x position (action :: rest) v = executeFrom x (position + 1) rest u := by
  rw [executeFrom_cons, executeAction_done answers]

/-- An action that is refused hands its state on with its CUE_REFUSED entry (R72). -/
theorem executeFrom_refuses
    (answers : Answers action (amid (some { x with next := position }) v) result (amid (some { x with next := position }) v))
    (refuses : result.refuses = true) : executeFrom x position (action :: rest) v = executeFrom x (position + 1) rest
      (reportRefusal { x with next := position } action result (amid (some { x with next := position }) v)) := by
  rw [executeFrom_cons, executeAction_refuses answers refuses]

theorem executeFrom_marks (value : Byte) (room : roomFor 1 v = true) :
    executeFrom (cueRecord e w) position (.mark value :: rest) v = executeFrom (cueRecord e w) (position + 1) rest
      (withEntries [markEntry e w value] (amid (some { cueRecord e w with next := position }) v)) := by
  have marked := reportMark_room (s := amid (some { cueRecord e w with next := position }) v) { cueRecord e w with next := position } value room
  rw [executeFrom_cons]
  exact congrArg (executeFrom (cueRecord e w) (position + 1) rest) marked

theorem executeFrom_fades {g level time : Nat} {group : Group} (at_ : v.lights.groups[g]? = some group) (short : time ≤ 36000)
    (part : group.owner = .part) : executeFrom x position (.hfade g level time :: rest) v =
      executeFrom x (position + 1) rest
        (setGroup g (fadedGroup group level time v.clock) (amid (some { x with next := position }) v)) := by
  have answer := houseFade_part (s := amid (some { x with next := position }) v) (level := level) at_ short part
  have answers : Answers (.hfade g level time) (amid (some { x with next := position }) v) .done
      (setGroup g (fadedGroup group level time v.clock) (amid (some { x with next := position }) v)) :=
    ⟨by simp, by simp [refusedInClosed], answer⟩
  exact executeFrom_takes answers

theorem executeFrom_opens {number : Nat} {window : Window} {d : WindowDef} (at_ : v.zones.windows[number]? = some window)
    (range : number ≤ 15) (calm : v.zones.alarm.confirmed = []) (stays : v.phase.phase ≠ .evacuating) (defined : window.defn = some d)
    (derived : recordDerived v = true) (shut : window.isOpen = false) (room : roomFor 1 v = true) :
    executeFrom x position (.wopen number :: rest) v = executeFrom x (position + 1) rest
      (windowOpened number window d .cue (amid (some { x with next := position }) v)) := by
  have answer := windowOpens_opens (s := amid (some { x with next := position }) v) (cause := .cue) at_ range calm stays defined derived
    shut room
  have answers : Answers (.wopen number) (amid (some { x with next := position }) v) .done
      (windowOpened number window d .cue (amid (some { x with next := position }) v)) := ⟨by simp, by simp [refusedInClosed], answer⟩
  exact executeFrom_takes answers

theorem executeFrom_joins {id : Nat} (low : callPriority v id ≤ 2) (performing : v.phase.phase ≠ .closed) (busy : playerBusy v = true)
    (known : callDefined v id = true) (free : callHeld v id = false) (queue : v.calls.queue.length < 16) :
    executeFrom x position (.call id :: rest) v = executeFrom x (position + 1) rest
      (setQueue (insertCall (newInstance v id .cue) v.calls.queue) (amid (some { x with next := position }) v)) := by
  have answer := requestCall_joins (s := amid (some { x with next := position }) v) (source := .cue) low busy known free queue
  have answers : Answers (.call id) (amid (some { x with next := position }) v) .done
      (setQueue (insertCall (newInstance v id .cue) v.calls.queue) (amid (some { x with next := position }) v)) :=
    ⟨by simp, refusedInClosed_open _ performing, answer⟩
  exact executeFrom_takes answers

/-! ## A fade, a window, a call and a mark -/

section Four

variable {g level time number id : Nat} {value : Byte} {group faded : Group} {window : Window} {d : WindowDef}

/-- The state after a fade and a window. -/
def twoDone (e : CueEntry) (v : State) (g number : Nat) (faded : Group) (window : Window) (d : WindowDef) : State :=
  windowOpened number window d .cue (amid (some { cueRecord e v with next := 2 })
    (setGroup g faded (amid (some { cueRecord e v with next := 1 }) v)))

/-- The state after the four actions, the call one of CUE. -/
def fourDone (e : CueEntry) (v : State) (id : Nat) (value : Byte) (two : State) : State :=
  withEntries [markEntry e v value] (amid (some { cueRecord e v with next := 4 })
    (setQueue (insertCall (newInstance two id .cue) two.calls.queue) (amid (some { cueRecord e v with next := 3 }) two)))

theorem fourDone_frame (two : State) : sameBut [.cues, .calls, .report] two (fourDone e v id value two) = true :=
  sameBut_trans (sameBut_mono (amid_frame _ two) (by decide)) (sameBut_trans (sameBut_mono (setQueue_frame _ _) (by decide))
    (sameBut_trans (sameBut_mono (amid_frame _ _) (by decide)) (sameBut_mono (withEntries_frame _ _) (by decide))))

theorem twoDone_frame (g number : Nat) (faded : Group) (window : Window) (d : WindowDef) :
    sameBut [.cues, .lights, .zones, .report] v (twoDone e v g number faded window d) = true := by
  have group := setGroup_frame g faded (amid (some { cueRecord e v with next := 1 }) v)
  exact sameBut_trans (sameBut_mono (amid_frame _ v) (by decide)) (sameBut_trans (sameBut_mono group (by decide))
    (sameBut_trans (sameBut_mono (amid_frame _ _) (by decide)) (sameBut_mono (windowOpened_frame _ _ _ _ _) (by decide))))

theorem executeFrom_four (group_ : v.lights.groups[g]? = some group) (short : time ≤ 36000) (part : group.owner = .part)
    (at_ : v.zones.windows[number]? = some window) (calm : v.zones.alarm.confirmed = []) (stays : v.phase.phase ≠ .evacuating)
    (performing : v.phase.phase ≠ .closed) (defined : window.defn = some d) (derived : recordDerived v = true)
    (shut : window.isOpen = false) (low : callPriority v id ≤ 2) (known : callDefined v id = true) (free : callHeld v id = false)
    (queue : v.calls.queue.length < 16) (busy : playerBusy v = true) (room : roomFor 2 v = true) :
    executeFrom (cueRecord e v) 1 [.hfade g level time, .wopen number, .call id, .mark value] v =
      fourDone e v id value (twoDone e v g number (fadedGroup group level time v.clock) window d) := by
  have space : v.phase.report.length + 2 ≤ 128 := of_decide_eq_true room
  have range : number ≤ 15 := Nat.le_of_lt_succ (Vector.getElem?_eq_some_iff.1 at_).1
  have opens := executeFrom_opens (x := cueRecord e v) (position := 2) (rest := [.call id, .mark value])
    (v := setGroup g (fadedGroup group level time v.clock) (amid (some { cueRecord e v with next := 1 }) v)) at_ range calm stays defined
    derived shut (decide_eq_true (by change v.phase.report.length + 1 ≤ 128; omega))
  have joins := executeFrom_joins (x := cueRecord e v) (position := 3) (rest := [.mark value]) (id := id)
    (v := twoDone e v g number (fadedGroup group level time v.clock) window d) low performing busy known free queue
  have marks := executeFrom_marks (e := e) (w := v) (position := 4) (rest := [])
    (v := setQueue (insertCall (newInstance (twoDone e v g number (fadedGroup group level time v.clock) window d) id .cue)
      (twoDone e v g number (fadedGroup group level time v.clock) window d).calls.queue)
      (amid (some { cueRecord e v with next := 3 }) (twoDone e v g number (fadedGroup group level time v.clock) window d))) value
    (decide_eq_true (by
      change (v.phase.report ++ [_]).length + 1 ≤ 128
      rw [List.length_append, List.length_singleton]
      omega))
  exact (executeFrom_fades group_ short part).trans (opens.trans (joins.trans marks))

/-- The cue of four actions (R64). -/
theorem cue_four (actions : e.actions = [.hfade g level time, .wopen number, .call id, .mark value])
    (group_ : v.lights.groups[g]? = some group) (short : time ≤ 36000) (part : group.owner = .part)
    (at_ : v.zones.windows[number]? = some window) (calm : v.zones.alarm.confirmed = []) (stays : v.phase.phase ≠ .evacuating)
    (performing : v.phase.phase ≠ .closed) (defined : window.defn = some d) (derived : recordDerived v = true)
    (shut : window.isOpen = false) (low : callPriority v id ≤ 2) (known : callDefined v id = true) (free : callHeld v id = false)
    (queue : v.calls.queue.length < 16) (busy : playerBusy v = true) (room : roomFor 2 v = true) :
    CueLeaves e v [.lights, .zones, .calls, .report] fun t =>
      t.lights = { v.lights with groups := v.lights.groups.setIfInBounds g (fadedGroup group level time v.clock) } ∧
      t.zones = { v.zones with windows := v.zones.windows.setIfInBounds number (openedWindow window d v.clock) } ∧
      t.calls = { v.calls with queue := insertCall (newInstance v id .cue) v.calls.queue } ∧
      t.phase.report = v.phase.report ++ [entryNow v .zone [byte (64 + number), 9, 8, 7], markEntry e v value] := by
  have executed := executeFrom_four (e := e) (level := level) (value := value) group_ short part at_ calm stays performing defined derived
    shut low known free queue busy room
  rw [← actions] at executed
  refine cueLeaves_of executed ?_ rfl ⟨rfl, rfl, rfl, ?_⟩
  · exact sameBut_trans (sameBut_mono (twoDone_frame _ _ _ _ _) (by decide)) (sameBut_mono (fourDone_frame _) (by decide))
  · change (v.phase.report ++ [entryNow v .zone [byte (64 + number), 9, 8, 7]]) ++ [markEntry e v value] = _
    rw [List.append_assoc]
    rfl

end Four

end Sys2Proof.Machine
end

section
/-! SUPPORT. What a cue with a DEMO action leaves, alone and before or behind another (R64, R158): the demonstration starts only once
the house is open. -/

namespace Sys2Proof.Machine

variable {s t u v w x : State} {e : CueEntry} {action : CueAction} {rest : List CueAction} {position : Nat} {kind : Byte}

/-! ## The entries -/

theorem gains_grows {entry : ReportEntry} (gained : gains entry s x = true) (grows : x.phase.report <+: t.phase.report) :
    gains entry s t = true := by
  simp only [gains, decide_eq_true_eq] at gained ⊢
  exact lt_of_lt_of_le gained (grows.sublist.count_le entry)

theorem reportRefusal_adds (action : CueAction) (reason : Result) (w : State) :
    Adds [refusalEntry e v position action.kind (byte reason.code)] w
      (reportRefusal { cueRecord e v with next := position } action reason w) := by
  intro room
  rw [reportRefusal_room (s := w) _ _ _ (by simpa [roomFor] using room)]
  rfl

/-! ## A demonstration that starts (R158) -/

/-- What the start of a demonstration leaves. -/
structure DemoStarted (s t : State) : Prop where
  same : sameBut curtainParts s t = true
  state : t.curtain.state = .lowering
  mode : t.curtain.mode = .demo
  record : t.phase.record = { s.phase.record with demoStatus := .lowering }
  few : AddsUpTo 1 s t
  chain : Chain calm s t

theorem startDemo_starts (ready : DemoReady s) : ∃ t, startDemo s = (.done, t) ∧ DemoStarted s t := by
  have answer := startDemo_ready ready
  have chain := startDemo_chain s
  rw [answer] at chain
  have frame := startDescent_frame .demo (setDemoStatus .lowering (s.onCurtain fun c => { c with sequence := .initial }))
  have curtain := startDescent_curtain .demo (setDemoStatus .lowering (s.onCurtain fun c => { c with sequence := .initial }))
  have adds := (startDescent_adds .demo (setDemoStatus .lowering (s.onCurtain fun c => { c with sequence := .initial }))).from (s := s) rfl
  have first : sameBut curtainParts s (setDemoStatus .lowering (s.onCurtain fun c => { c with sequence := .initial })) = true :=
    sameBut_trans (sameBut_mono (onCurtain_frame s _) (by decide)) (sameBut_mono (setDemoStatus_frame _ _) (by decide))
  refine ⟨_, answer, ⟨sameBut_trans first (ironParts_le frame), ?_, ?_, sameBut_record frame (by decide), adds.upTo, chain⟩⟩
  · rw [curtain]
    rfl
  · rw [curtain]
    rfl

/-! ## A DEMO action -/

/-- The state in which a DEMO action has been refused. -/
def demoRefused (e : CueEntry) (v : State) (position : Nat) (w : State) : State :=
  reportRefusal { cueRecord e v with next := position } .demo .refusedState (amid (some { cueRecord e v with next := position }) w)

theorem demoRefused_frame (w : State) : sameBut [.cues, .report, .attention] w (demoRefused e v position w) = true :=
  sameBut_trans (sameBut_mono (amid_frame _ w) (by decide)) (sameBut_mono (reportRefusal_frame _ _ _ _) (by decide))

theorem demoRefused_adds (w : State) : Adds [refusalEntry e v position 5 3] w (demoRefused e v position w) :=
  (reportRefusal_adds .demo .refusedState (amid (some { cueRecord e v with next := position }) w)).from rfl

/-- A demonstration that is not ready is refused, and its entry is all that it leaves (R72). -/
theorem executeFrom_demo_refuses (barred : ¬ DemoReady w) : executeFrom (cueRecord e v) position (.demo :: rest) w =
    executeFrom (cueRecord e v) (position + 1) rest (demoRefused e v position w) := by
  have unready : ¬ DemoReady (amid (some { cueRecord e v with next := position }) w) := fun ready =>
    barred ⟨ready.phase, ready.status, ready.show_, ready.alarm, ready.state, ready.free, ready.clear⟩
  have answers : Answers .demo (amid (some { cueRecord e v with next := position }) w) .refusedState
      (amid (some { cueRecord e v with next := position }) w) := ⟨by simp, by simp [refusedInClosed], startDemo_barred unready⟩
  exact executeFrom_refuses answers rfl

theorem executeFrom_demo_starts (ready : DemoReady w) : ∃ u, executeFrom (cueRecord e v) position (.demo :: rest) w =
    executeFrom (cueRecord e v) (position + 1) rest u ∧
      DemoStarted (amid (some { cueRecord e v with next := position }) w) u := by
  have met_ : DemoReady (amid (some { cueRecord e v with next := position }) w) :=
    ⟨ready.phase, ready.status, ready.show_, ready.alarm, ready.state, ready.free, ready.clear⟩
  obtain ⟨u, answer, started⟩ := startDemo_starts met_
  have answers : Answers .demo (amid (some { cueRecord e v with next := position }) w) .done u :=
    ⟨by simp, by simp [refusedInClosed], answer⟩
  exact ⟨u, executeFrom_takes answers, started⟩

/-- Before the house is open, and after, DEMO is refused. -/
theorem cue_demo_refused (single : e.actions = [.demo]) (other : v.phase.phase ≠ .houseOpen) : CueRefused e v 5 3 :=
  cueRefused_of single (by simp) (by simp [refusedInClosed]) (startDemo_barred (s := met e v) fun ready => other ready.phase) rfl

/-- A demonstration asked for twice starts once. -/
theorem cue_demo_twice (actions : e.actions = [.demo, .demo]) (ready : DemoReady v) (room : roomFor 2 v = true) :
    CueLeaves e v curtainParts fun t =>
      t.curtain.state = .lowering ∧ t.curtain.mode = .demo ∧ t.phase.record = { v.phase.record with demoStatus := .lowering } ∧
      gains (refusalEntry e v 2 5 3) v t = true := by
  obtain ⟨u, taken, started⟩ := executeFrom_demo_starts (e := e) (v := v) (position := 1) (rest := [.demo]) ready
  have running : ¬ DemoReady u := by
    intro again
    exact absurd (started.state.symm.trans again.state) (by decide)
  have executed := taken.trans (executeFrom_demo_refuses (e := e) (v := v) (position := 2) (rest := []) running)
  rw [← actions] at executed
  have refused := demoRefused_frame (e := e) (v := v) (position := 2) u
  have entry := demoRefused_adds (e := e) (v := v) (position := 2) u
  have record := sameBut_record refused (by decide)
  have curtain := sameBut_curtain refused (by decide)
  have first := sameBut_trans (sameBut_mono (amid_frame (some { cueRecord e v with next := 1 }) v) (by decide))
    (sameBut_mono started.same (by decide : curtainParts ⊆ .cues :: curtainParts))
  refine cueLeaves_of executed (sameBut_trans first (sameBut_mono refused (by decide))) ?_ ⟨?_, ?_, ?_, ?_⟩
  · exact (congrArg (fun t : State => t.cues.table) executed).symm.trans (executeFrom_table _ _ _ v)
  · exact (congrArg Curtain.state curtain).trans started.state
  · exact (congrArg Curtain.mode curtain).trans started.mode
  · exact record.trans started.record
  · exact AddsUpTo.gains (s := v) (AddsUpTo.trans (m := 0) (.none rfl) started.few) entry room

end Sys2Proof.Machine
end

section
/-! SUPPORT. What a cue leaves that opens the house and asks for a demonstration, in either order (R39, R64, R158). -/

namespace Sys2Proof.Machine

variable {s t u v w x : State} {e : CueEntry} {rest : List CueAction} {position : Nat}

/-! ## The opening of the house -/

/-- The PHASE entry of the opening by a cue. -/
def openingEntry (s : State) : ReportEntry := entryNow s .phase [2, 1, byte s.phase.act, 1, flagByte s.phase.showStop]

/-- What the opening of the house by a cue leaves. -/
structure HouseOpened (s t : State) : Prop where
  same : sameBut phaseParts s t = true
  record : t.phase.record = { s.phase.record with phase := .houseOpen }
  grows : ∃ x, Adds [openingEntry s] s x ∧ x.phase.report <+: t.phase.report

theorem executeFrom_opens_house (preshow : w.phase.phase = .preshow) (relays : relaysFollow w = true) :
    ∃ u, executeFrom (cueRecord e v) position (.phase .houseOpen 0 :: rest) w = executeFrom (cueRecord e v) (position + 1) rest u ∧
      HouseOpened (amid (some { cueRecord e v with next := position }) w) u := by
  have changed := changePhase_plain (s := amid (some { cueRecord e v with next := position }) w) (new := .houseOpen) (cause := .cue)
    (fields := id) (by decide) (by decide) (by change w.phase.phase ≠ .evacuating; simp [preshow]) (k4_of_relays (s := w) relays)
  have entry : phaseEntry .houseOpen .cue id (amid (some { cueRecord e v with next := position }) w) =
      openingEntry (amid (some { cueRecord e v with next := position }) w) := by
    rw [phaseEntry, show (amid (some { cueRecord e v with next := position }) w).phase.phase = .preshow from preshow]
    rfl
  have adds := phaseEntered_adds (new := .houseOpen) (cause := .cue) (fields := id)
    (s := amid (some { cueRecord e v with next := position }) w) rfl
  rw [entry] at adds
  have answers : Answers (.phase .houseOpen 0) (amid (some { cueRecord e v with next := position }) w) .done
      (changePhase .houseOpen .cue id id (amid (some { cueRecord e v with next := position }) w)) := by
    refine ⟨by simp, refusedInClosed_open _ (by change w.phase.phase ≠ .closed; simp [preshow]), ?_⟩
    have fits := phaseRequest_takes (target := .houseOpen) (act := 0) (cause := .cue) (countdown := w.command.profile.intervalLength)
      (s := amid (some { cueRecord e v with next := position }) w) rfl (by decide) (by decide) (.inl rfl)
    refine fits.trans ?_
    have at_ : (amid (some { cueRecord e v with next := position }) w).phase.phase = .preshow := preshow
    simp only [takeTransition, at_, openHouse, if_pos]
  exact ⟨_, executeFrom_takes answers, ⟨changed.same, changed.record.trans phaseEntered_record, _, adds, changed.grows⟩⟩

/-! ## The house and a demonstration -/

section Both

variable (preshow : v.phase.phase = .preshow) (show_ : v.phase.showStop = false) (calm : v.zones.alarm.confirmed = [])
  (stored : v.curtain.state = .stored) (free : v.curtain.flags.localControl = false) (clear : lineReading v 3 ≠ .active)
  (status : v.phase.demoStatus = .notDone ∨ v.phase.demoStatus.reason.isSome = true) (relays : relaysFollow v = true)
  (room : roomFor 3 v = true)
include preshow relays room

include show_ calm stored free clear status in
/-- The demonstration starts behind the opening of the house. -/
theorem cue_house_demo (actions : e.actions = [.phase .houseOpen 0, .demo]) : CueLeaves e v (.curtain :: phaseParts) fun t =>
    gains (openingEntry v) v t = true ∧ t.curtain.state = .lowering ∧ t.curtain.mode = .demo ∧
      t.phase.record = { v.phase.record with phase := .houseOpen, demoStatus := .lowering } := by
  obtain ⟨u, opens, opened⟩ := executeFrom_opens_house (e := e) (v := v) (position := 1) (rest := [.demo]) preshow relays
  obtain ⟨x, adds, grows⟩ := opened.grows
  have first := sameBut_trans (sameBut_mono (amid_frame (some { cueRecord e v with next := 1 }) v) (by decide))
    (sameBut_mono opened.same (by decide : phaseParts ⊆ .cues :: phaseParts))
  have fields := sameFields (q := { v.phase with phase := .houseOpen }) opened.record
  have curtain := sameBut_curtain first (by decide)
  have zones := sameBut_zones first (by decide)
  have lines := sameBut_lines first (by decide)
  have ready : DemoReady u := by
    refine ⟨fields.phase, ?_, fields.showStop.trans show_, by rw [zones, calm], by rw [curtain, stored], by rw [curtain, free], ?_⟩
    · rwa [fields.demoStatus]
    · rwa [lineReading_of_lines lines]
  obtain ⟨y, starts, started⟩ := executeFrom_demo_starts (e := e) (v := v) (position := 2) (rest := []) ready
  have executed := opens.trans starts
  rw [← actions] at executed
  have second := sameBut_trans (sameBut_mono (amid_frame (some { cueRecord e v with next := 2 }) u) (by decide))
    (sameBut_mono started.same (by decide : curtainParts ⊆ .cues :: curtainParts))
  have gained : gains (openingEntry v) v u = true :=
    gains_grows ((adds.from (s := v) rfl).gains_one (decide_eq_true (by
      have space : v.phase.report.length + 3 ≤ 128 := of_decide_eq_true room
      omega))) grows
  have record : y.phase.record = { u.phase.record with demoStatus := .lowering } := started.record
  have later : gains (openingEntry v) v y = true :=
    gains_later (t := amid (some { cueRecord e v with next := 2 }) u) gained (calm_usual started.chain) rfl
  refine cueLeaves_of executed (sameBut_trans (sameBut_mono first (by decide)) (sameBut_mono second (by decide))) ?_
    ⟨later, started.state, started.mode, ?_⟩
  · exact (congrArg (fun t : State => t.cues.table) executed).symm.trans (executeFrom_table _ _ _ v)
  · refine record.trans ?_
    rw [opened.record]
    rfl

/-- Before the opening of the house the demonstration is refused, and the house opens all the same. -/
theorem cue_demo_house (actions : e.actions = [.demo, .phase .houseOpen 0]) : CueLeaves e v (.curtain :: phaseParts) fun t =>
    gains (openingEntry v) v t = true ∧ t.curtain = v.curtain ∧ t.phase.record = { v.phase.record with phase := .houseOpen } ∧
      gains (refusalEntry e v 1 5 3) v t = true := by
  have space : v.phase.report.length + 3 ≤ 128 := of_decide_eq_true room
  have early : ¬ DemoReady v := by
    intro ready
    exact absurd (preshow.symm.trans ready.phase) (by decide)
  have refuses := executeFrom_demo_refuses (e := e) (v := v) (position := 1) (rest := [.phase .houseOpen 0]) early
  have refused : demoRefused e v 1 v = withEntries [refusalEntry e v 1 5 3] (amid (some { cueRecord e v with next := 1 }) v) :=
    reportRefusal_room _ _ _ (decide_eq_true (by change v.phase.report.length + 1 ≤ 128; omega))
  have entry := demoRefused_adds (e := e) (v := v) (position := 1) v
  rw [refused] at refuses entry
  obtain ⟨u, opens, opened⟩ := executeFrom_opens_house (e := e) (v := v) (position := 2) (rest := [])
    (w := withEntries [refusalEntry e v 1 5 3] (amid (some { cueRecord e v with next := 1 }) v)) preshow relays
  obtain ⟨x, adds, grows⟩ := opened.grows
  have executed := refuses.trans opens
  rw [← actions] at executed
  have all : Adds [refusalEntry e v 1 5 3, openingEntry v] v x := entry.trans (adds.from rfl)
  have first := sameBut_trans (sameBut_mono (amid_frame (some { cueRecord e v with next := 1 }) v) (by decide))
    (sameBut_mono (withEntries_frame [refusalEntry e v 1 5 3] _) (by decide : [Part.report] ⊆ .cues :: phaseParts))
  have second := sameBut_trans (sameBut_mono (amid_frame (some { cueRecord e v with next := 2 })
    (withEntries [refusalEntry e v 1 5 3] (amid (some { cueRecord e v with next := 1 }) v))) (by decide))
    (sameBut_mono opened.same (by decide : phaseParts ⊆ .cues :: phaseParts))
  have same := sameBut_trans first second
  have curtain := sameBut_curtain same (by decide)
  refine cueLeaves_of executed (sameBut_mono same (by decide)) ?_ ⟨?_, curtain, opened.record, ?_⟩
  · exact (congrArg (fun t : State => t.cues.table) executed).symm.trans (executeFrom_table _ _ _ v)
  · exact gains_grows (all.gains (by simp) (by simp) room) grows
  · exact gains_grows (all.gains (by simp) (by simp) room) grows

end Both

end Sys2Proof.Machine
end

section
/-! SUPPORT. A CUE frame's match (R62, R63), and the obligation O9. -/

namespace Sys2Proof.Machine

variable {s t u v : State} {f : Frame} {c : Character} {e : CueEntry} {list cueHi cueLo verb : Byte} {rest : List Byte}
  {parts : List Part} {holds other : State → Prop} {kind reason : Byte}

/-! ## The match -/

theorem handToOwner_cue (cue : f.kind = kindCue) (s : State) : handToOwner f s = takeCueFrame f.payload s := by
  rw [handToOwner, cue, if_neg (by decide), if_pos rfl]

theorem takeCueFrame_short {payload : List Byte} (short : payload.length < 4) (s : State) : takeCueFrame payload s = s := by
  match payload with
  | [] | [_] | [_, _] | [_, _, _] => rfl
  | _ :: _ :: _ :: _ :: _ => simp only [List.length_cons] at short; omega

theorem takeCueFrame_misses (misses : 3 < list.toNat ∨ 9999 < number2 cueHi cueLo ∨ verb ≠ 1 ∨
    findCue s list.toNat (number2 cueHi cueLo) = none) : takeCueFrame (list :: cueHi :: cueLo :: verb :: rest) s = s := by
  simp only [takeCueFrame]
  split
  next fits =>
    obtain ⟨small, number, go⟩ := fits
    have unknown : findCue s list.toNat (number2 cueHi cueLo) = none := by
      obtain above | above | wrong | none_ := misses
      · omega
      · omega
      · exact absurd go wrong
      · exact none_
    simp only [unknown]
  next => rfl

theorem takeCueFrame_finds (small : list.toNat ≤ 3) (number : number2 cueHi cueLo ≤ 9999) (go : verb = 1)
    (found : findCue s list.toNat (number2 cueHi cueLo) = some e) :
    takeCueFrame (list :: cueHi :: cueLo :: verb :: rest) s = executeCue e s := by
  simp only [takeCueFrame, if_pos (And.intro small (And.intro number go)), found]

/-- An entry that is found has the key. -/
theorem findCue_key {number : Nat} (found : findCue s list.toNat number = some e) : e.list = list.toNat ∧ e.cue = number := by
  have key : e.hasKey list.toNat number = true := List.find?_some (p := fun e : CueEntry => e.hasKey list.toNat number) found
  exact of_decide_eq_true key

theorem bytes2_number2 (hi lo : Byte) : bytes2 (number2 hi lo) = [hi, lo] := by
  have small := lo.isLt
  have high : byte (number2 hi lo / 256) = hi := by
    rw [number2, show (hi.toNat * 256 + lo.toNat) / 256 = hi.toNat by omega, byte_of_toNat]
  have low : byte (number2 hi lo) = lo := by
    refine BitVec.eq_of_toNat_eq ?_
    simp only [byte, number2, BitVec.toNat_ofNat]
    omega
  rw [bytes2, high, low]

section Key

variable (key : e.list = list.toNat ∧ e.cue = number2 cueHi cueLo)
include key

theorem refusalEntry_key (v : State) (position : Nat) (kind reason : Byte) : refusalEntry e v position kind reason =
    entryNow v .cueRefused [list, cueHi, cueLo, byte position, kind, reason] := by
  rw [refusalEntry, key.1, key.2, byte_of_toNat, bytes2_number2]
  rfl

theorem markEntry_key (v : State) (value : Byte) : markEntry e v value = entryNow v .mark [value, list, cueHi, cueLo] := by
  rw [markEntry, key.1, key.2, byte_of_toNat, bytes2_number2]
  rfl

end Key

/-! ## From the execution to the frame that passes -/

theorem CueLeaves.imp (leaves : CueLeaves e v parts holds) (h : ∀ t, holds t → other t) : CueLeaves e v parts other :=
  ⟨leaves.same, leaves.cues, h _ leaves.holds⟩

section Frame

variable (passing : passingFrame f c s = true) (finds : handToOwner f (huntWith 0 s) = executeCue e (huntWith 0 s))
include passing finds

/-- What a cue leaves is what its frame leaves that passes through. -/
theorem passes_cue (leaves : CueLeaves e (huntWith 0 s) parts holds) : passes f c s fun t =>
    sameBut (.cues :: parts) (huntWith 0 s) t = true ∧ t.cues = { s.cues with execution := none } ∧ holds t := by
  refine passes_of passing ?_
  rw [finds]
  exact ⟨leaves.same, leaves.cues, leaves.holds⟩

theorem passes_refused (key : e.list = list.toNat ∧ e.cue = number2 cueHi cueLo) (refused : CueRefused e (huntWith 0 s) kind reason) :
    passes f c s fun t =>
      sameBut [.report, .attention, .cues] (huntWith 0 s) t = true ∧ t.cues = { s.cues with execution := none } ∧
      (roomFor 1 s = true →
        t.phase.report = s.phase.report ++ [entryNow s .cueRefused [list, cueHi, cueLo, byte 1, kind, reason]]) := by
  have entry := refusalEntry_key key (huntWith 0 s) 1 kind reason
  obtain ⟨t, execs, same, cues, report⟩ := passes_cue passing finds refused
  rw [entry] at report
  exact ⟨t, execs, sameBut_mono same (by decide), cues, report⟩

end Frame

end Sys2Proof.Machine
end

section
/-! SUPPORT. The obligation O9. -/

namespace Sys2Proof.Machine

variable {s t u v : State} {f : Frame} {c : Character} {e : CueEntry} {list cueHi cueLo verb : Byte} {rest : List Byte}
  {parts : List Part} {holds other : State → Prop} {kind reason : Byte} {action : CueAction}

theorem reportsInClosed_of (h : match action with
    | .phase _ _ | .call _ | .mark _ => True
    | .hfade _ _ _ | .wopen _ | .wclose _ | .demo => False) : action.reportsInClosed = true := by
  cases action with
  | phase | call | mark => rfl
  | hfade | wopen | wclose | demo => exact h.elim

/-- The entries of a cue in CLOSED, with the key spelt out. -/
theorem closedEntries_key (key : e.list = list.toNat ∧ e.cue = number2 cueHi cueLo) (v : State) {actions : List CueAction} (start : Nat)
    (reports : ∀ action ∈ actions, action.reportsInClosed = true) :
    ((actions.zipIdx start).map fun (action, position) => closedEntry e v action position) =
      (actions.zipIdx start).map fun (action, position) => match action with
        | .mark value => entryNow v .mark [value, list, cueHi, cueLo]
        | .call _ => entryNow v .cueRefused [list, cueHi, cueLo, byte position, 4, 3]
        | _ => entryNow v .cueRefused [list, cueHi, cueLo, byte position, 0, 3] := by
  refine List.map_congr_left fun item mem => ?_
  obtain ⟨action, position⟩ := item
  have reported := reports action (List.fst_mem_of_mem_zipIdx mem)
  cases action with
  | mark value => exact markEntry_key key v value
  | call id => exact refusalEntry_key key v position 4 3
  | phase target act => exact refusalEntry_key key v position 0 3
  | hfade | wopen | wclose | demo => nomatch reported

/-- Settles O9: the completion by the check and the disposal, the forward queue by its room, and a CUE frame by the execution of the
cue that it matches. -/
theorem completedFrameIsDisposed : Obligations.CompletedFrameIsDisposed := by
  refine ⟨fun f hi c s powered check stop mark short assembly => ⟨completion_bad powered check stop mark short assembly,
      completion_disposes powered check stop mark short assembly⟩,
    fun f c s passing level cue zone pos => ?_, offerForward_clauses, fun f c s passing cue => ⟨fun short => ?_,
      fun list cueHi cueLo verb rest payload => ⟨fun misses => ?_, fun e small number go found => ?_⟩⟩⟩
  · rw [exec_passing passing, handToOwner_none level cue zone pos]
  · exact passes_of passing ((handToOwner_cue cue _).trans (takeCueFrame_short short _))
  · exact passes_of passing ((handToOwner_cue cue _).trans (by rw [payload]; exact takeCueFrame_misses misses))
  have key := findCue_key found
  have finds : handToOwner f (huntWith 0 s) = executeCue e (huntWith 0 s) := by
    rw [handToOwner_cue cue, payload]
    exact takeCueFrame_finds small number go found
  have changes {parts : List Part} {holds : State → Prop} (leaves : CueLeaves e (huntWith 0 s) parts holds) := passes_cue passing finds leaves
  have refuses {kind reason : Byte} (refused : CueRefused e (huntWith 0 s) kind reason) := passes_refused passing finds key refused
  refine ⟨changes (cueLeaves_any e _), fun closed few room reports => ?_, fun value single room => ?_, fun target act single performing range => ?_,
    fun g level time group single at_ short => ?_, fun w window single at_ range => ?_, fun w single range => ?_,
    fun id single small low performing busy => ?_,
    fun id single defined known small low performing empty idle able slot long station areas routes => ?_, ?_, ?_, ?_, ?_⟩
  · have reported : ∀ action ∈ e.actions, action.reportsInClosed = true := fun action mem => reportsInClosed_of (reports action mem)
    have entries := closedEntries_key key (huntWith 0 s) 1 reported
    have leaves := cueLeaves_closed (e := e) (v := huntWith 0 s) closed reported (decide_eq_true (by
      have space : s.phase.report.length + 4 ≤ 128 := of_decide_eq_true room
      change s.phase.report.length + e.actions.length ≤ 128
      omega))
    rw [entries] at leaves
    exact changes leaves
  · have leaves := cueLeaves_mark (v := huntWith 0 s) single room
    rw [markEntry_key key] at leaves
    exact changes leaves
  · have requests := phaseCue (v := huntWith 0 s) single performing range
    exact ⟨fun h => refuses (requests.unreachable h), fun h k => refuses (requests.houseShut h k), fun h k => refuses (requests.egressEarly h k),
      fun h running fits short relays room => changes (requests.interval h running fits short relays room),
      fun h none_ preshow relays room => changes (requests.houseOpen h none_ preshow relays room),
      fun h first before relays room => changes (requests.firstAct h first before relays room),
      fun h fits interval before relays room => changes (requests.nextAct h fits interval before relays room),
      fun h barred => refuses (requests.actBarred h (.inr barred)),
      fun h fits running relays room => changes (requests.egress h fits running relays room)⟩
  · exact ⟨fun console => refuses (cue_fade_refused single at_ short console), fun part => changes (cue_fade_taken single at_ short part)⟩
  · exact ⟨fun barred => refuses (cue_open_refused single at_ range barred), fun d calm stays defined derived shut room =>
      changes (cue_open_taken single at_ range calm stays defined derived shut room)⟩
  · exact ⟨fun shut => changes (cue_close_shut single range shut), fun isOpen room => changes (cue_close_open single range isOpen room)⟩
  · refine ⟨fun known free room => changes (cue_call_joins single low performing busy known free room), fun unknown room => ?_⟩
    have leaves := cue_call_undefined (v := huntWith 0 s) single performing busy unknown room
    rw [refusalEntry_key key] at leaves
    exact changes leaves
  · exact changes (cue_call_sounds single small low performing known empty idle able slot long routes)
  · intro g level time w id value actions group group_ window at_ d defined part positive short calm stays performing derived shut small low
      known free queue busy room
    have leaves := cue_four (v := huntWith 0 s) actions group_ short part at_ calm stays performing defined derived shut low known free
      queue busy room
    rw [markEntry_key key, fadedGroup, if_neg (by omega)] at leaves
    exact changes leaves
  · intro either preshow show_ calm stored free clear status relays room
    have entry : openingEntry (huntWith 0 s) = entryNow s .phase [2, 1, byte s.phase.act, 1, 0] := by
      rw [openingEntry, show (huntWith 0 s).phase.showStop = false from show_]
      rfl
    obtain actions | actions := either
    · have leaves := cue_house_demo (v := huntWith 0 s) preshow show_ calm stored free clear status relays room actions
      rw [entry] at leaves
      exact changes (leaves.imp fun t h => ⟨h.1, fun _ => h.2, fun same => by simp [actions] at same⟩)
    · have leaves := cue_demo_house (v := huntWith 0 s) preshow relays room actions
      rw [entry, refusalEntry_key key] at leaves
      exact changes (leaves.imp fun t h => ⟨h.1, fun same => by simp [actions] at same, fun _ => h.2⟩)
  · exact fun single other => refuses (cue_demo_refused single other)
  · intro actions phase show_ calm stored free clear status room
    have leaves := cue_demo_twice (v := huntWith 0 s) actions ⟨phase, status, show_, calm, stored, free, clear⟩ room
    rw [refusalEntry_key key] at leaves
    exact changes leaves

end Sys2Proof.Machine
end
